-- ==== Sys2Proof/Word.lean ====
section
/-!
DEFINITION. The plainest types of the model: bytes of the link, times in milliseconds, and tables
numbered from 1 as the manual numbers levers, tracks, sections, lines, records and indications.
-/

namespace Sys2Proof

/-- A byte of the serial link (R182). -/
abbrev Byte := BitVec 8

/-- A moment or a duration of the part's own timebase, in milliseconds (00 section 4.3). -/
abbrev Time := Nat

/-- A fixed number `n` of like things, numbered 1 to `n` as the manual numbers them. -/
abbrev Tab (n : Nat) (α : Type) := Vector α n

namespace Tab

variable {n : Nat} {α : Type}

/-- The thing numbered `k`; a number outside 1 to `n` names nothing and reads as `d`. -/
def get (t : Tab n α) (d : α) : Nat → α
  | 0 => d
  | k + 1 => t.toList[k]?.getD d

/-- The table with the thing numbered `k` replaced; a number outside 1 to `n` changes nothing. -/
def put (t : Tab n α) (k : Nat) (a : α) : Tab n α :=
  match k with
  | 0 => t
  | k + 1 => if h : k < n then Vector.set t k a h else t

/-- The table that holds `a` everywhere. -/
def rep (n : Nat) (a : α) : Tab n α := Vector.replicate n a

/-- The table with `f` applied to every thing. -/
def mapAll {β : Type} (f : α → β) (t : Tab n α) : Tab n β := ⟨(t.toList.map f).toArray, by simp⟩

/-- The table whose thing numbered `k` is `f k`. -/
def build (n : Nat) (f : Nat → α) : Tab n α :=
  ⟨((List.range n).map fun i => f (i + 1)).toArray, by simp⟩

/-- The numbers 1 to `n`. -/
def numbers (n : Nat) : List Nat := (List.range n).map (· + 1)

end Tab

end Sys2Proof
end

