-- ==== Sys2Proof/Syntax.lean ====
section
/-!
DEFINITION. The commands: one constructor of `Instr` for each row of spec/opcode_table.json.

Every command carries `tm`, the time at which the event happens (DESIGN CHOICE log 1). A request command carries the
tag of its frame and the fields of its body, each as the bytes the host sends (R183, R190), so that a
value outside a field's range can be sent and is answered as R185 states. Levers, tracks, sections,
lines, records and indications are called by their numbers, from 1 (00 section 4.1).
-/

namespace Sys2Proof

/-- The two detectors of a lever (R21). -/
inductive Side where
  | normal | reverse
  deriving DecidableEq, Repr, Inhabited

/-- The current on a block line (04 section 4.2): negative is LINE_BLOCKED, positive LINE_CLEAR, none
TRAIN_ON_LINE. -/
inductive Current where
  | negative | positive | none
  deriving DecidableEq, Repr, Inhabited

/-- The three contacts of a block instrument switch: true where the contact is made (R75). -/
structure Contacts where
  lb : Bool := false
  lc : Bool := false
  tol : Bool := false
  deriving DecidableEq, Repr, Inhabited

/-- The two recognizers of a bell line: `receive` reads the receive terminal, `manual` the plunger
contact (05, opening). -/
inductive Ear where
  | receive | manual
  deriving DecidableEq, Repr, Inhabited

/-- A persistent counter (R194): the time release count or the forced count of a lever, or the mark
count of a track. -/
inductive CounterName where
  | release (lever : Nat)
  | forced (lever : Nat)
  | mark (track : Nat)
  deriving DecidableEq, Repr, Inhabited

/-- The counter-copy write that a loss of power cuts short (R194): the increment of `counter` had reached
the writing of the first copy, or (`second`) had written the first and reached the second (DESIGN CHOICE log 10). -/
structure CounterCut where
  counter : CounterName
  second : Bool
  deriving DecidableEq, Repr, Inhabited

/-- The steps of the part: one constructor for each row of the table. -/
inductive Instr where
  -- supply, reset line, restarts, clock (Chapter 12)
  | powerOn (tm : Time)
  | resetLineLow (tm : Time)
  | resetLineRelease (tm : Time)
  | startIntervalEnd (tm : Time)
  | restartReset (tm : Time)
  | storeWrite (tm : Time)
  | clockSecond (tm : Time)
  -- track circuits (Chapter 1)
  | trackRelayDrop (tm : Time) (track : Nat)
  | trackRelayPickUp (tm : Time) (track : Nat)
  | pickUpTimerExpiry (tm : Time) (track : Nat)
  -- levers (Chapter 2)
  | catchLift (tm : Time) (lever : Nat)
  | catchLower (tm : Time) (lever : Nat)
  | detectorOpen (tm : Time) (lever : Nat) (side : Side)
  | detectorMake (tm : Time) (lever : Nat) (side : Side)
  | travelTimerExpiry (tm : Time) (lever : Nat)
  -- route holds (Chapter 3)
  | timeReleaseTimerExpiry (tm : Time) (signal : Nat)
  | readyWindowLapse (tm : Time) (signal : Nat)
  -- block sections (Chapter 4)
  | instrumentSwitchMove (tm : Time) (sec : Nat) (contacts : Contacts)
  | blockLineChange (tm : Time) (sec : Nat) (current : Current)
  | stabilityTimerExpiry (tm : Time) (sec : Nat)
  -- bells (Chapters 5, 6, 9)
  | bellInputOn (tm : Time) (line : Nat) (ear : Ear)
  | bellInputOff (tm : Time) (line : Nat) (ear : Ear)
  | strokeTestExpiry (tm : Time) (line : Nat) (ear : Ear)
  | relayOutputOff (tm : Time) (line : Nat)
  | endGapExpiry (tm : Time) (line : Nat) (ear : Ear)
  | sendStrokeStart (tm : Time) (line : Nat)
  | sendStrokeEnd (tm : Time) (line : Nat)
  | plungerPress (tm : Time) (line : Nat)
  | plungerRelease (tm : Time) (line : Nat)
  | plungerOutputTimerExpiry (tm : Time) (line : Nat)
  | repetitionDeadlineExpiry (tm : Time) (line : Nat)
  | owedReminderExpiry (tm : Time) (line : Nat)
  | pendingThroughCodeExpiry (tm : Time)
  -- following of trains (Chapter 8)
  | headGraceExpiry (tm : Time) (record : Nat)
  -- panel (Chapter 10)
  | flasherHalf (tm : Time)
  | pulseTimerExpiry (tm : Time) (indication : Nat)
  | lampTestTimerExpiry (tm : Time)
  | sounderPatternTimer (tm : Time)
  -- serial link (Chapter 11)
  | technicianKeyChange (tm : Time) (on : Bool)
  | byteReceived (tm : Time) (byte : Byte) (framingError : Bool)
  | frameGapTimeout (tm : Time)
  | frameSent (tm : Time)
  -- requests (R190)
  | unknownRequest (tm : Time) (tag : Byte) (kind : Byte)
  | status (tm : Time) (tag : Byte)
  | readLevers (tm : Time) (tag : Byte) (first : Byte)
  | readTracks (tm : Time) (tag : Byte) (first : Byte)
  | readSections (tm : Time) (tag : Byte) (first : Byte)
  | readHolds (tm : Time) (tag : Byte) (first : Byte)
  | readLines (tm : Time) (tag : Byte) (first : Byte)
  | listRecords (tm : Time) (tag : Byte) (collection : Byte)
  | readRecord (tm : Time) (tag : Byte) (record : Byte)
  | readAlerts (tm : Time) (tag : Byte) (first : Byte)
  | readConfig (tm : Time) (tag : Byte) (cls : Byte) (index : Byte)
  | readCounters (tm : Time) (tag : Byte) (first : Byte)
  | sendBell (tm : Time) (tag : Byte) (line : Byte) (entry : Byte) (record : Option Byte)
  | timeReleaseStart (tm : Time) (tag : Byte) (lever : Byte)
  | timeReleaseConfirm (tm : Time) (tag : Byte) (lever : Byte)
  | timeReleaseCancel (tm : Time) (tag : Byte) (lever : Byte)
  | sectionRestore (tm : Time) (tag : Byte) (sec : Byte)
  | closeRecord (tm : Time) (tag : Byte) (record : Byte)
  | collectRecord (tm : Time) (tag : Byte) (record : Byte)
  | switchOut (tm : Time) (tag : Byte)
  | switchIn (tm : Time) (tag : Byte)
  | lampTest (tm : Time) (tag : Byte)
  | ackAlerts (tm : Time) (tag : Byte)
  | clearAlerts (tm : Time) (tag : Byte)
  | setClock (tm : Time) (tag : Byte) (day : BitVec 16) (second : BitVec 32)
  | hold (tm : Time) (tag : Byte)
  | resume (tm : Time) (tag : Byte)
  | writeConfig (tm : Time) (tag : Byte) (body : List Byte)
  | trackRestore (tm : Time) (tag : Byte) (track : Byte)
  | clearSticky (tm : Time) (tag : Byte) (lever : Byte)
  | restart (tm : Time) (tag : Byte)
  -- the supply again, and the end of a store write (Chapter 12)
  | lossOfPower (tm : Time) (cut : Option CounterCut)
  | storeWriteCompleted (tm : Time)
  deriving DecidableEq, Repr, Inhabited

end Sys2Proof
end

