-- ==== Sys2Proof/Config.lean ====
section
/-!
DEFINITION. The items of the configuration store (Table 12.1) with their defaults, and the free choices
that the manual leaves to the part.
-/

namespace Sys2Proof

/-- The kind of a lever (R19). -/
inductive LeverKind where
  | signal | points | lock | release | spare
  deriving DecidableEq, Repr

/-- A locking term (R20). `lnc n m` is LNC n if m. -/
inductive Term where
  | ln (n : Nat)
  | lr (n : Nat)
  | lnc (n m : Nat)
  | tc (t : Nat)
  | lcr (s : Nat)
  deriving DecidableEq, Repr

/-- A locking entry: an ordered list of 0 to 8 terms (R20). -/
abbrev Entry := List Term

/-- The two sets of locking entries (R19, R42). -/
inductive EntrySet where
  | a | b
  deriving DecidableEq, Repr

/-- The direction of a release (R21). -/
inductive Direction where
  | toReverse | toNormal
  deriving DecidableEq, Repr

/-- A route hold definition (R47). The period is in milliseconds, 30,000 to 300,000. -/
structure HoldDef where
  present : Bool := false
  approach : Option Nat := none
  holding : List Nat := []
  held : List Nat := []
  period : Nat := 120000
  deriving DecidableEq, Repr

/-- The kind of a track (R1). -/
inductive TrackKind where
  | running | siding | notFitted
  deriving DecidableEq, Repr

/-- The flicker mode of a track (R1). -/
inductive FlickerMode where
  | off | each
  | limit (k : Nat)
  deriving DecidableEq, Repr

/-- The configuration record of a track (R1). -/
structure TrackConf where
  kind : TrackKind := .notFitted
  delay : Nat := 2000
  flicker : FlickerMode := .limit 3
  neighbours : List Nat := []
  grace : Nat := 1500
  deriving DecidableEq, Repr

/-- The role of a section (R70). -/
inductive Role where
  | accepting | offering | unused
  deriving DecidableEq, Repr

/-- The configuration record of a section (R70). A field that the role does not use holds 0 where it has
no value (DESIGN CHOICE log 16). -/
structure SectionConf where
  role : Role := .unused
  line : Nat := 1
  pair : Option Nat := none
  home : Nat := 0
  clearing : Nat := 0
  entry : Nat := 0
  starting : Nat := 0
  exit : Nat := 0
  berth : Option Nat := none
  deriving DecidableEq, Repr

/-- The duty of a coded send (R95). -/
inductive Duty where
  | quarter | third | half
  deriving DecidableEq, Repr

/-- The configuration record of a bell line (R95); durations in milliseconds. -/
structure LineConf where
  name : List Byte := []
  receiveBeat : Nat := 250
  sendBeat : Nat := 240
  duty : Duty := .third
  repetitionTimeout : Nat := 10000
  owedReminder : Nat := 15000
  deriving DecidableEq, Repr

/-- The meaning of a bell code (R96). -/
inductive Meaning where
  | offer | entering | outOfSection | cancel | obstruction | switchOutNotice | switchInNotice | callAttention | test
  | other
  deriving DecidableEq, Repr

/-- An entry of the code table (R96). -/
structure CodeEntry where
  inUse : Bool := false
  pattern : List Nat := []
  meaning : Meaning := .other
  cls : Nat := 0
  deriving DecidableEq, Repr

/-- The source kinds of an indication, in the order of R173, NONE last. -/
inductive SourceKind where
  | leverNormal | leverReverse | leverFree | leverFaultMark | trackOccupied | trackMarked | sectionLB | sectionLC
  | sectionTOL | sectionDisagreement | sectionThrough | releaseAvailable | codeOwed | codeOutstanding | holdExists
  | timeReleaseReady | boxSwitchedOut | alertActive | codeReceived | none
  deriving DecidableEq, Repr

/-- The display mode of an indication (R173). -/
inductive DisplayMode where
  | steady | flash | pulse
  deriving DecidableEq, Repr

/-- The definition of an indication (R173); the pulse length is in milliseconds. -/
structure IndicationConf where
  source : SourceKind := .none
  index : Nat := 0
  litWhenFalse : Bool := false
  display : DisplayMode := .steady
  pulse : Nat := 2000
  deriving DecidableEq, Repr

/-- What the switch-out lever set asks of a lever (R163). -/
inductive LeverPlace where
  | normal | reverse | either
  deriving DecidableEq, Repr

/-- The switch-out record (R163). -/
structure SwitchOutConf where
  may : Bool := false
  lineA : Nat := 1
  lineB : Nat := 2
  places : Tab 24 LeverPlace := Tab.rep 24 .either
  deriving DecidableEq, Repr

/-- The kinds of notice, C1h to CAh (R191). -/
inductive NoticeKind where
  | lever | track | sec | bellRx | bellTx | repetition | hold | record | alert | mode
  deriving DecidableEq, Repr

/-- The number of a notice kind among the ten, from 1, in the order of R191. -/
def NoticeKind.number : NoticeKind → Nat
  | .lever => 1 | .track => 2 | .sec => 3 | .bellRx => 4 | .bellTx => 5
  | .repetition => 6 | .hold => 7 | .record => 8 | .alert => 9 | .mode => 10

/-- All the items of the configuration (Table 12.1). -/
structure Conf where
  leverKinds : Tab 24 LeverKind := Tab.rep 24 .spare
  entries : Tab 96 Entry := Tab.rep 96 []
  holdDefs : Tab 24 HoldDef := Tab.rep 24 {}
  tracks : Tab 16 TrackConf := Tab.rep 16 {}
  sections : Tab 6 SectionConf := Tab.rep 6 {}
  lines : Tab 3 LineConf := Tab.rep 3 {}
  codes : Tab 32 CodeEntry := Tab.rep 32 {}
  indications : Tab 32 IndicationConf := Tab.rep 32 {}
  threshold : Nat := 6
  switchOut : SwitchOutConf := {}
  enables : Tab 10 Bool := Tab.rep 10 true
  deriving DecidableEq, Repr

namespace Config

/-- FREE CHOICE (DESIGN CHOICE log 11). Where several levers can be granted at one event, R31 lets the examinations be
taken in either order; the `n`-th such choice takes the lever at this place of the list, modulo its
length. -/
opaque grantChoice : Nat → Nat

/-- FREE CHOICE (DESIGN CHOICE log 9). After a store write cut short the items are "partly new" (R199): at the
`n`-th cut, whether the item of this class and index is the new one. -/
opaque cutItemIsNew : Nat → Nat → Nat → Bool

end Config

end Sys2Proof
end

