-- ==== Sys2Proof/WellFormed.lean ====
section
/-!
DEFINITION. Which commands can be given at all: numbers name a lever, track, section, line, record or
indication that the part has (00 section 3.3), a request body fits a frame (R183), and the kind of an
UNKNOWN_REQUEST is no request kind (R190). A request's fields may lie outside their ranges: the part
answers those (R185).
-/

namespace Sys2Proof

/-- A lever number, 1 to 24. -/
def isLever (n : Nat) : Bool := 1 ≤ n && n ≤ 24
/-- A track number, 1 to 16. -/
def isTrack (n : Nat) : Bool := 1 ≤ n && n ≤ 16
/-- A section number, 1 to 6. -/
def isSection (n : Nat) : Bool := 1 ≤ n && n ≤ 6
/-- A bell line number, 1 to 3. -/
def isLine (n : Nat) : Bool := 1 ≤ n && n ≤ 3
/-- A record number, 1 to 48. -/
def isRecord (n : Nat) : Bool := 1 ≤ n && n ≤ 48
/-- An indication number, 1 to 32. -/
def isIndication (n : Nat) : Bool := 1 ≤ n && n ≤ 32

/-- The request kinds of R190. -/
def isRequestKind (k : Byte) : Bool :=
  (0x01 ≤ k.toNat && k.toNat ≤ 0x0B) || (0x10 ≤ k.toNat && k.toNat ≤ 0x1C) || (0x20 ≤ k.toNat && k.toNat ≤ 0x25)

/-- A persistent counter that the part keeps (R194). -/
def CounterName.wellFormed : CounterName → Bool
  | .release l => isLever l
  | .forced l => isLever l
  | .mark t => isTrack t

/-- The command can be given: its numbers name something the part has. -/
def Instr.wellFormed : Instr → Bool
  | .powerOn _ | .resetLineLow _ | .resetLineRelease _ | .startIntervalEnd _ | .restartReset _ => true
  | .storeWrite _ | .clockSecond _ => true
  | .trackRelayDrop _ t | .trackRelayPickUp _ t | .pickUpTimerExpiry _ t => isTrack t
  | .catchLift _ l | .catchLower _ l | .travelTimerExpiry _ l => isLever l
  | .detectorOpen _ l _ | .detectorMake _ l _ => isLever l
  | .timeReleaseTimerExpiry _ l | .readyWindowLapse _ l => isLever l
  | .instrumentSwitchMove _ x _ | .blockLineChange _ x _ | .stabilityTimerExpiry _ x => isSection x
  | .bellInputOn _ l _ | .bellInputOff _ l _ | .strokeTestExpiry _ l _ | .endGapExpiry _ l _ => isLine l
  | .relayOutputOff _ l | .sendStrokeStart _ l | .sendStrokeEnd _ l => isLine l
  | .plungerPress _ l | .plungerRelease _ l | .plungerOutputTimerExpiry _ l => isLine l
  | .repetitionDeadlineExpiry _ l | .owedReminderExpiry _ l => isLine l
  | .pendingThroughCodeExpiry _ => true
  | .headGraceExpiry _ r => isRecord r
  | .flasherHalf _ => true
  | .pulseTimerExpiry _ i => isIndication i
  | .lampTestTimerExpiry _ | .sounderPatternTimer _ => true
  | .technicianKeyChange _ _ | .byteReceived _ _ _ | .frameGapTimeout _ | .frameSent _ => true
  | .unknownRequest _ _ k => !isRequestKind k
  | .status _ _ | .readLevers _ _ _ | .readTracks _ _ _ | .readSections _ _ _ | .readHolds _ _ _ => true
  | .readLines _ _ _ | .listRecords _ _ _ | .readRecord _ _ _ | .readAlerts _ _ _ => true
  | .readConfig _ _ _ _ | .readCounters _ _ _ | .sendBell _ _ _ _ _ => true
  | .timeReleaseStart _ _ _ | .timeReleaseConfirm _ _ _ | .timeReleaseCancel _ _ _ => true
  | .sectionRestore _ _ _ | .closeRecord _ _ _ | .collectRecord _ _ _ | .switchOut _ _ | .switchIn _ _ => true
  | .lampTest _ _ | .ackAlerts _ _ | .clearAlerts _ _ | .setClock _ _ _ _ | .hold _ _ | .resume _ _ => true
  | .writeConfig _ _ body => body.length ≤ 240
  | .trackRestore _ _ _ | .clearSticky _ _ _ | .restart _ _ => true
  | .lossOfPower _ cut => cut.all (fun c => c.counter.wellFormed)
  | .storeWriteCompleted _ => true

end Sys2Proof
end

