-- ==== Sys2Proof/Machine/State.lean ====
section
/-!
DEFINITION. The state of the part, unit by unit (00 section 3.1), as plain data; the reasons a step can
stop; and the part right after reset. INVENTORY.md names the rule behind each field.
-/

namespace Sys2Proof.Machine

/-- No command stops the part with a fault: the spec gives every event an effect, and loss of power is a
state (`powered`). So there is no constructor. -/
inductive Fault
  deriving DecidableEq, Repr

/-- Why a command has no meaning. -/
inductive Refusal where
  /-- Raised by an arm of `exec` whose row has no meaning yet; no arm is so today. Safe. -/
  | notModelled (mnemonic : String)
  deriving DecidableEq, Repr

/-! ### Terminals -/

/-- The three filtered inputs of a lever (R21). -/
structure LeverInputs where
  normalMade : Bool := false
  reverseMade : Bool := false
  catchLifted : Bool := false
  deriving DecidableEq, Repr

/-- The input terminals as the part takes them. They belong to the world and outlive every reset. -/
structure Inputs where
  levers : Tab 24 LeverInputs := Tab.rep 24 {}
  relays : Tab 16 Bool := Tab.rep 16 false
  blockLines : Tab 6 Current := Tab.rep 6 .none
  switches : Tab 6 Contacts := Tab.rep 6 {}
  receive : Tab 3 Bool := Tab.rep 3 false
  plungers : Tab 3 Bool := Tab.rep 3 false
  key : Bool := false
  resetLow : Bool := false
  deriving DecidableEq, Repr

/-! ### Box clock -/

/-- A box clock time with the clock unset flag (R183, R201). -/
structure Stamp where
  day : Nat
  second : Nat
  unset : Bool
  deriving DecidableEq, Repr

/-- The box clock (R201); `nextAt` is when the next second is counted. -/
structure Clock where
  day : Nat := 0
  second : Nat := 0
  unset : Bool := true
  nextAt : Time := 1000
  deriving DecidableEq, Repr

/-! ### Track Circuit Unit -/

/-- The filter state of a track (R3). -/
inductive Filter where
  | clear | occupied | picking
  deriving DecidableEq, Repr

/-- What the TCU holds for a track (R3); the raw input is `Inputs.relays`. -/
structure Track where
  filter : Filter := .occupied
  timer : Option Time := none
  flickers : Nat := 0
  failed : Bool := false
  suspect : Bool := false
  deriving DecidableEq, Repr

/-! ### Lever Locking Unit -/

/-- The lever state of R21. -/
inductive LeverPhase where
  | normal | normalCatch | normalFree | travel | reverse | reverseCatch | reverseFree | fault
  deriving DecidableEq, Repr

/-- A grant record (R21, R28). -/
structure Grant where
  direction : Direction
  set : EntrySet
  named : List Nat
  deriving DecidableEq, Repr

/-- The travel origin (R21). -/
inductive Origin where
  | normal | reverse | none
  deriving DecidableEq, Repr

/-- The travel timer (R21, R37). -/
inductive TravelTimer where
  | stopped
  | running (expiry : Time)
  | expired
  deriving DecidableEq, Repr

/-- What the LLU holds for a lever (R21); the inputs are `Inputs.levers`. -/
structure Lever where
  phase : LeverPhase := .travel
  solenoid : Bool := false
  grant : Option Grant := none
  origin : Origin := .none
  timer : TravelTimer := .stopped
  fresh : Bool := false
  faultMark : Bool := false
  deriving DecidableEq, Repr

/-! ### Route Hold Unit -/

/-- The stage of a holding track (R48). -/
inductive HoldStage where
  | waiting | occupied | cleared
  deriving DecidableEq, Repr

/-- The state of a hold (R48). -/
inductive HoldState where
  | active | holding | irregular | timing | ready
  deriving DecidableEq, Repr

/-- The prior state of a hold in TIMING or READY (R48). -/
inductive PriorState where
  | holding | irregular
  deriving DecidableEq, Repr

/-- A route hold (R48). -/
structure Hold where
  signal : Nat
  stages : List HoldStage
  state : HoldState
  prior : Option PriorState := none
  reversal : Bool := false
  irregular : Bool := false
  timer : Option Time := none
  deriving DecidableEq, Repr

/-! ### Block Section Unit -/

/-- A state of the block line (04 section 4.2). -/
inductive LineState where
  | lb | lc | tol
  deriving DecidableEq, Repr

/-- The state of an accepting section (R74). -/
inductive AccState where
  | lb | lc | tol | through
  deriving DecidableEq, Repr

/-- What the BSU holds for an accepting section (R74). `forced` remembers, through the start interval,
that a warm restart forced the section from LC (R85). -/
structure Accepting where
  state : AccState := .tol
  switch : LineState := .tol
  assumed : Bool := true
  seen : Bool := false
  proof : Bool := false
  entering : Bool := false
  disagreement : Bool := false
  unregistered : Bool := false
  forced : Bool := false
  deriving DecidableEq, Repr

/-- The line clear release (R87). -/
inductive Release where
  | available | consumed | none
  deriving DecidableEq, Repr

/-- What the BSU holds for an offering section (R73, R87); the raw reading follows `Inputs.blockLines`. -/
structure Offering where
  repeater : LineState := .tol
  release : Release := .none
  timer : Option Time := none
  deriving DecidableEq, Repr

/-- Both halves of what the BSU can hold for a section; the role in force says which one is read. -/
structure Sec where
  acc : Accepting := {}
  off : Offering := {}
  deriving DecidableEq, Repr

/-! ### Bell Unit -/

/-- The stroke detector of an input (R98). -/
inductive Detector where
  | off
  | testing (edge : Time)
  | stroke (edge : Time)
  | ignored
  deriving DecidableEq, Repr

/-- The state of a recognizer (R99). -/
inductive RecPhase where
  | idle | assembling | swallowing
  deriving DecidableEq, Repr

/-- The end-gap timer (R99); `waiting` is an expiry that waits for a pulse under test (R102). -/
inductive GapTimer where
  | stopped
  | running (expiry : Time)
  | waiting
  deriving DecidableEq, Repr

/-- Why a code is malformed (R103). -/
inductive Malformed where
  | tooManyGroups | tooManyStrokes
  deriving DecidableEq, Repr

/-- The outcome of a code (R104). -/
inductive CodeOutcome where
  | matched | unrecognized | malformed
  deriving DecidableEq, Repr

/-- A code as repetition holds it (R112): outcome, entry with meaning for MATCHED, group list. -/
structure Code where
  outcome : CodeOutcome
  entry : Option (Nat × Meaning)
  groups : List Nat
  deriving DecidableEq, Repr

/-- A code result (R104). -/
structure CodeResult where
  line : Nat
  ear : Ear
  outcome : CodeOutcome
  entry : Option (Nat × Meaning × Nat)
  groups : List Nat
  strokes : Nat
  reason : Option Malformed
  beat : Nat
  first : Time
  finish : Time
  stamp : Stamp
  deriving DecidableEq, Repr

/-- A recognizer with its stroke detector (R98, R99, R111). -/
structure Recognizer where
  detector : Detector := .off
  lastStroke : Option Time := none
  /-- The width recorded of the last stroke (R98); none until a stroke has ended (DESIGN CHOICE log 5). -/
  width : Option Nat := none
  phase : RecPhase := .idle
  beat : Nat := 0
  groups : List Nat := []
  strokes : Nat := 0
  first : Option Time := none
  last : Option Time := none
  endGap : Nat := 0
  gapTimer : GapTimer := .stopped
  reason : Option Malformed := none
  lastCode : Option CodeResult := none
  deriving DecidableEq, Repr

/-- A coded send in flight (R112, R113). `starts` holds the absolute start times of its strokes, and `index` is the
current stroke index, counted from 0 (DESIGN CHOICE log 15). -/
structure Send where
  entry : Nat
  record : Option Nat
  acceptedAt : Time
  starts : List Time
  width : Nat
  index : Nat
  on : Bool
  deriving DecidableEq, Repr

/-- The plunger output (R112). -/
inductive PlungerOut where
  | off | on | spent
  deriving DecidableEq, Repr

/-- The outstanding code (R112, R120). -/
structure Outstanding where
  code : Code
  sentAt : Time
  deadline : Time
  deriving DecidableEq, Repr

/-- The owed code (R112, R120). -/
structure Owed where
  code : Code
  receivedAt : Time
  reminder : Time
  expired : Bool := false
  deriving DecidableEq, Repr

/-- The last completed exchange (R112, R125); `sent` is its direction. -/
structure Exchange where
  code : Code
  sent : Bool
  at_ : Time
  stamp : Stamp
  deriving DecidableEq, Repr

/-- A relay output that is on (R168). -/
structure Relay where
  onAt : Time
  offAt : Time
  deriving DecidableEq, Repr

/-- What the BLU holds for a bell line (R99, R112, R168). The relay output is that of the receiving line:
it puts current on the other line of the pair. -/
structure Bell where
  rx : Recognizer := {}
  man : Recognizer := {}
  send : Option Send := none
  plunger : PlungerOut := .off
  plungerTimer : Option Time := none
  outstanding : Option Outstanding := none
  owed : Option Owed := none
  exchange : Option Exchange := none
  relay : Option Relay := none
  ignored : Nat := 0
  deriving DecidableEq, Repr

/-! ### Train Record Unit -/

/-- The stage of a half (R130). `atTrack` is ARRIVED for an inbound half and DEPARTED for an outbound one;
`ended` is CLOSED for an inbound half and CLEARED for an outbound one. -/
inductive HalfStage where
  | offered | accepted | entering | atTrack | ended | cancelled
  deriving DecidableEq, Repr

/-- A half of a record (R130). `item` is the acceptance item: repetition given, or acknowledged. -/
structure Half where
  sec : Nat
  stage : HalfStage := .offered
  offeredAt : Option Stamp := none
  acceptedAt : Option Stamp := none
  enteringAt : Option Stamp := none
  atTrackAt : Option Stamp := none
  endedAt : Option Stamp := none
  item : Bool := false
  deriving DecidableEq, Repr

/-- Why a record completed (R129). -/
inductive Reason where
  | finished | cancelled | closedBySignalman
  deriving DecidableEq, Repr

/-- A train record (R129). Its status is given by the collection that holds it. -/
structure Record where
  reason : Option Reason := none
  cls : Option Nat := none
  inbound : Option Half := none
  outbound : Option Half := none
  irregular : Bool := false
  ambiguous : Bool := false
  truncated : Bool := false
  lost : Bool := false
  unset : Bool := false
  trail : List Nat := []
  grace : Option Time := none
  deriving DecidableEq, Repr

/-- What the TRU holds (R128, R134). -/
structure Register where
  records : Tab 48 Record := Tab.rep 48 {}
  free : List Nat := Tab.numbers 48
  opened : List Nat := []
  completed : List Nat := []
  overwritten : Nat := 0
  armed : Bool := true
  owedOffer : Tab 3 (Option Nat) := Tab.rep 3 none
  outstandingOffer : Tab 3 (Option Nat) := Tab.rep 3 none
  deriving DecidableEq, Repr

/-! ### Panel Output Unit -/

/-- The alert kinds, in the order of R177. -/
inductive AlertKind where
  | leverForced | trackSuspect | obstruction | clearingFouled | trackFailed | repetitionWrong | noRepetition
  | repeatOwed | unexpectedOccupation | travelOverdue | registerLow | releaseLapsed
  deriving DecidableEq, Repr

/-- An entry of the alert list (R177). -/
structure Alert where
  kind : AlertKind
  object : Nat
  priority : Nat
  stamp : Stamp
  count : Nat
  acked : Bool
  deriving DecidableEq, Repr

/-- The sounder's patterns (R179). -/
inductive Pattern where
  | silent | beep | oneHz | continuous
  deriving DecidableEq, Repr

/-- The sounder (R179): its pattern, whether it is in the on part of the period, and the pattern timer. -/
structure Sounder where
  pattern : Pattern := .silent
  sounding : Bool := false
  timer : Option Time := none
  deriving DecidableEq, Repr

/-- The flasher (R174): its half and when the next half begins. -/
structure Flasher where
  lit : Bool
  nextAt : Time
  deriving DecidableEq, Repr

/-- What the POU holds. -/
structure Panel where
  alerts : List Alert := []
  sounder : Sounder := {}
  lampTest : Option Time := none
  pulses : Tab 32 (Option Time) := Tab.rep 32 none
  flasher : Option Flasher := none
  deriving DecidableEq, Repr

/-! ### Link Controller -/

/-- The assembly state (R184). -/
inductive AsmState where
  | hunt | length | kind | tag | body | check
  deriving DecidableEq, Repr

/-- The receive assembler (R184): its state, the bytes gathered since the start byte, the time of the last
byte. -/
structure Assembler where
  state : AsmState := .hunt
  bytes : List Byte := []
  lastAt : Time := 0
  deriving DecidableEq, Repr

/-- A request as the queue holds it. `unknown` is a frame whose kind is no request kind; `malformed` is a
request kind with a body whose length (or presence byte) does not fit it (R185). -/
inductive Request where
  | unknown (kind : Byte)
  | malformed (kind : Byte)
  | status
  | readLevers (first : Byte)
  | readTracks (first : Byte)
  | readSections (first : Byte)
  | readHolds (first : Byte)
  | readLines (first : Byte)
  | listRecords (collection : Byte)
  | readRecord (record : Byte)
  | readAlerts (first : Byte)
  | readConfig (cls : Byte) (index : Byte)
  | readCounters (first : Byte)
  | sendBell (line : Byte) (entry : Byte) (record : Option Byte)
  | timeReleaseStart (lever : Byte)
  | timeReleaseConfirm (lever : Byte)
  | timeReleaseCancel (lever : Byte)
  | sectionRestore (sec : Byte)
  | closeRecord (record : Byte)
  | collectRecord (record : Byte)
  | switchOut
  | switchIn
  | lampTest
  | ackAlerts
  | clearAlerts
  | setClock (day : BitVec 16) (second : BitVec 32)
  | hold
  | resume
  | writeConfig (body : List Byte)
  | trackRestore (track : Byte)
  | clearSticky (lever : Byte)
  | restart
  deriving DecidableEq, Repr

/-- An entry of the request queue (R186). -/
structure Queued where
  tag : Byte
  request : Request
  deriving DecidableEq, Repr

/-- The results of R185. -/
inductive Result where
  | ok | refusedState | notPermitted | badRequest | busy | noSuch | conditions
  deriving DecidableEq, Repr

/-- A reply (R183, R185): kind, tag, result and the rest of the body. -/
structure Reply where
  kind : Byte
  tag : Byte
  result : Result
  rest : List Byte
  deriving DecidableEq, Repr

/-- The events that notices report, one constructor for each row (or each name in a row) of the owning
tables: R46, R191 (TRACK), R94, R106, R127 and R170, R69, R146 and R162, R180, R201. -/
inductive NoticeEvent where
  | leverReleased | leverHeld | leverWithdrawn | leverGivenUp | leverLeft | leverArrived | leverReturned | leverFound
  | leverOverdue | leverForced | leverBothDetectors | leverMarkCleared
  | trackOccupied | trackClear | trackFlicker | trackFailed | trackSuspect | trackRestored | trackUnexpected
  | secStateChanged | secDisagreement | secAgrees | secClearingFouled | secArrivalProven | secUnregistered | secStart
  | secRestored | secRepeater | secReleaseAvailable | secReleaseWithdrawn | secReleaseConsumed
  | bellReceived
  | bellCompleted | bellAborted | bellManual
  | repRepeated | repOutstanding | repNotAcknowledged | repSentWhileOwed | repAcknowledged | repIncorrect
  | repNotGiven | repOwed | repNoRepetition | repRepetitionOwed | repRelayedExchange | repRelayedNotRepeated
  | holdCreated | holdReactivated | holdBound | holdSequenceIrregular | holdStarted | holdReady | holdLapsed
  | holdCancelled | holdRemoved
  | recCreated | recOutboundAttached | recAccepted | recStage | recIrregularCode | recCompleted | recCollected
  | recRegisterLow | recOverwritten | recRegisterFull | recAttributed | recBerth | recSetBack | recLost
  | alertRaised | alertRefreshed | alertDropped | alertAcknowledged | alertCleared
  | modeSwitchedOut | modeSwitchedIn | modeStarted | modeHeld | modeResumed | modeClockSet
  deriving DecidableEq, Repr

/-- A notice produced in the event being taken, before its body is made (DEDUCED log 14). -/
structure Draft where
  event : NoticeEvent
  object : Nat
  extra : List Byte
  deriving DecidableEq, Repr

/-- A notice in the outbox (R191): event, object number, timebase time, box clock time, and the fields that
the owning rule names. -/
structure Notice where
  event : NoticeEvent
  object : Nat
  time : Nat
  stamp : Stamp
  fields : List Byte
  deriving DecidableEq, Repr

/-- What the transmitter is sending (R187). -/
inductive Tx where
  | idle | reply | notice
  deriving DecidableEq, Repr

/-- What the LKC holds (R184, R186, R187, R189, R192). -/
structure Link where
  asm : Assembler := {}
  queue : List Queued := []
  slot : Option Reply := none
  outbox : List Notice := []
  tx : Tx := .idle
  linkErrors : Nat := 0
  abandoned : Nat := 0
  discarded : Nat := 0
  lost : Nat := 0
  lostSinceStatus : Nat := 0
  deriving DecidableEq, Repr

/-! ### Mode Control -/

/-- The cause of HELD (12 section 12.2). -/
inductive HeldCause where
  | hold | invalid
  deriving DecidableEq, Repr

/-- The part mode (12 section 12.2). -/
inductive Mode where
  | start
  | running
  | held (cause : HeldCause)
  deriving DecidableEq, Repr

/-- The last reset cause (R195). -/
inductive ResetCause where
  | powerOn | resetLine | restart
  deriving DecidableEq, Repr

/-- The box state (R164). -/
inductive BoxState where
  | opened | switchedOut
  deriving DecidableEq, Repr

/-- The pending through code (R164, R170). -/
structure ThroughCode where
  code : Code
  line : Nat
  deadline : Time
  deriving DecidableEq, Repr

/-- What follows the last byte of the reply in the slot (R190). -/
inductive AfterReply where
  | restart | storeWrite
  deriving DecidableEq, Repr

/-- What the MDC holds (R164, R195, R199 to R201). `interval` is the start interval timer, stopped while the
reset line is low. `base` is the end of the last start interval. -/
structure Control where
  mode : Mode := .start
  interval : Option Time := some 2000
  base : Time := 0
  cause : ResetCause := .powerOn
  box : BoxState := .opened
  relayOn : Bool := false
  through : Option ThroughCode := none
  clock : Clock := {}
  after : Option AfterReply := none
  writing : Bool := false
  deriving DecidableEq, Repr

/-! ### Configuration Store -/

/-- A persistent counter: its two copies, each a value whose check is good, or none where the check is bad
(R194). -/
structure PCounter where
  first : Option Nat := some 0
  second : Option Nat := some 0
  deriving DecidableEq, Repr

/-- What the CFS holds (R194). -/
structure Store where
  inForce : Conf := {}
  checkGood : Bool := false
  working : Conf := {}
  written : Bool := false
  releases : Tab 24 PCounter := Tab.rep 24 {}
  forced : Tab 24 PCounter := Tab.rep 24 {}
  marks : Tab 16 PCounter := Tab.rep 16 {}
  fault : Bool := false
  deriving DecidableEq, Repr

/-- The state of the part. `emitted` and `choices` are the model's own (DEDUCED log 14, DESIGN CHOICE log 9, DESIGN
CHOICE log 11); `pending` is the queue of commands, first in first out. -/
structure State where
  now : Time
  powered : Bool
  inputs : Inputs
  tracks : Tab 16 Track
  levers : Tab 24 Lever
  set : EntrySet
  holds : List Hold
  sections : Tab 6 Sec
  bells : Tab 3 Bell
  register : Register
  panel : Panel
  link : Link
  control : Control
  store : Store
  emitted : List Draft
  choices : Nat
  pending : List Instr
  deriving DecidableEq, Repr

/-- The part right after reset: at time 0 the supply has just been applied to a part whose store has never
been written (R194, R195); each unit is in its power-on state, and the terminals carry nothing (DESIGN CHOICE
log 5). -/
def State.reset : State where
  now := 0
  powered := true
  inputs := {}
  tracks := Tab.rep 16 {}
  levers := Tab.rep 24 {}
  set := .a
  holds := []
  sections := Tab.rep 6 {}
  bells := Tab.rep 3 {}
  register := {}
  panel := {}
  link := {}
  control := {}
  store := {}
  emitted := []
  choices := 0
  pending := []

end Sys2Proof.Machine
end

