-- ==== Sys2Proof/Machine/Codec.lean ====
section
/-!
DEFINITION. The byte encodings of the link: field types (R183), named values counted from 0 in the order of
their owning tables, object kinds, the check of a frame, and the layout of notices and replies. What R183
leaves to convention is said in DESIGN CHOICE log 15.
-/

namespace Sys2Proof

/-! ### Named values of the configuration and of the commands -/

/-- Lever kind (R19). -/
def LeverKind.ord : LeverKind → Nat
  | .signal => 0 | .points => 1 | .lock => 2 | .release => 3 | .spare => 4
/-- Entry set (R21). -/
def EntrySet.ord : EntrySet → Nat
  | .a => 0 | .b => 1
/-- Direction of a grant (R21). -/
def Direction.ord : Direction → Nat
  | .toReverse => 0 | .toNormal => 1
/-- Track kind (R1). -/
def TrackKind.ord : TrackKind → Nat
  | .running => 0 | .siding => 1 | .notFitted => 2
/-- Section role (R70). -/
def Role.ord : Role → Nat
  | .accepting => 0 | .offering => 1 | .unused => 2
/-- Line current, in the order of 04 section 4.2. -/
def Current.ord : Current → Nat
  | .negative => 0 | .positive => 1 | .none => 2
/-- Recognizer (R104). -/
def Ear.ord : Ear → Nat
  | .receive => 0 | .manual => 1
/-- Meaning (R96). -/
def Meaning.ord : Meaning → Nat
  | .offer => 0 | .entering => 1 | .outOfSection => 2 | .cancel => 3 | .obstruction => 4 | .switchOutNotice => 5
  | .switchInNotice => 6 | .callAttention => 7 | .test => 8 | .other => 9
/-- Duty (R95). -/
def Duty.ord : Duty → Nat
  | .quarter => 0 | .third => 1 | .half => 2
/-- Source kind (R173). -/
def SourceKind.ord : SourceKind → Nat
  | .leverNormal => 0 | .leverReverse => 1 | .leverFree => 2 | .leverFaultMark => 3 | .trackOccupied => 4
  | .trackMarked => 5 | .sectionLB => 6 | .sectionLC => 7 | .sectionTOL => 8 | .sectionDisagreement => 9
  | .sectionThrough => 10 | .releaseAvailable => 11 | .codeOwed => 12 | .codeOutstanding => 13 | .holdExists => 14
  | .timeReleaseReady => 15 | .boxSwitchedOut => 16 | .alertActive => 17 | .codeReceived => 18 | .none => 19
/-- Display mode (R173). -/
def DisplayMode.ord : DisplayMode → Nat
  | .steady => 0 | .flash => 1 | .pulse => 2
/-- Switch-out place (R163). -/
def LeverPlace.ord : LeverPlace → Nat
  | .normal => 0 | .reverse => 1 | .either => 2

end Sys2Proof

namespace Sys2Proof.Machine

/-! ### Field types (R183) -/

/-- A number of one byte. -/
def b1 (n : Nat) : List Byte := [BitVec.ofNat 8 n]

/-- A number of two bytes, high byte first (00 section 4.6). -/
def b2 (n : Nat) : List Byte := [BitVec.ofNat 8 (n / 256), BitVec.ofNat 8 n]

/-- A number of four bytes, high byte first. -/
def b4 (n : Nat) : List Byte :=
  [BitVec.ofNat 8 (n / 16777216), BitVec.ofNat 8 (n / 65536), BitVec.ofNat 8 (n / 256), BitVec.ofNat 8 n]

/-- A flag: 0 clear, 1 set. -/
def bFlag (b : Bool) : List Byte := b1 (if b then 1 else 0)

/-- An optional field: a presence byte, then the value when present. -/
def bOpt {α : Type} (f : α → List Byte) : Option α → List Byte
  | none => b1 0
  | some a => b1 1 ++ f a

/-- A list: a count byte, then the items. -/
def bList {α : Type} (f : α → List Byte) (l : List α) : List Byte := b1 l.length ++ l.flatMap f

/-- A box clock time: day, seconds of the day, clock unset flag. -/
def bStamp (t : Stamp) : List Byte := b2 t.day ++ b4 t.second ++ bFlag t.unset

/-! ### Named values -/

/-- Lever state (R21). -/
def LeverPhase.ord : LeverPhase → Nat
  | .normal => 0 | .normalCatch => 1 | .normalFree => 2 | .travel => 3 | .reverse => 4 | .reverseCatch => 5
  | .reverseFree => 6 | .fault => 7
/-- Travel origin (R21). -/
def Origin.ord : Origin → Nat
  | .normal => 0 | .reverse => 1 | .none => 2
/-- Filter state (R3). -/
def Filter.ord : Filter → Nat
  | .clear => 0 | .occupied => 1 | .picking => 2
/-- Stage of a hold (R48). -/
def HoldStage.ord : HoldStage → Nat
  | .waiting => 0 | .occupied => 1 | .cleared => 2
/-- State of a hold (R48). -/
def HoldState.ord : HoldState → Nat
  | .active => 0 | .holding => 1 | .irregular => 2 | .timing => 3 | .ready => 4
/-- Prior state of a hold (R48). -/
def PriorState.ord : PriorState → Nat
  | .holding => 0 | .irregular => 1
/-- Line state: LB, LC, TOL (R73, R74). -/
def LineState.ord : LineState → Nat
  | .lb => 0 | .lc => 1 | .tol => 2
/-- State of an accepting section (R74). -/
def AccState.ord : AccState → Nat
  | .lb => 0 | .lc => 1 | .tol => 2 | .through => 3
/-- Line clear release (R87). -/
def Release.ord : Release → Nat
  | .available => 0 | .consumed => 1 | .none => 2
/-- Detector state (R98). -/
def Detector.ord : Detector → Nat
  | .off => 0 | .testing _ => 1 | .stroke _ => 2 | .ignored => 3
/-- Recognizer state (R99). -/
def RecPhase.ord : RecPhase → Nat
  | .idle => 0 | .assembling => 1 | .swallowing => 2
/-- Code outcome (R104). -/
def CodeOutcome.ord : CodeOutcome → Nat
  | .matched => 0 | .unrecognized => 1 | .malformed => 2
/-- Malformed reason (R99: none, too many groups, too many strokes). -/
def Malformed.ord : Malformed → Nat
  | .tooManyGroups => 1 | .tooManyStrokes => 2
/-- Plunger output (R112). -/
def PlungerOut.ord : PlungerOut → Nat
  | .off => 0 | .on => 1 | .spent => 2
/-- Stage of a half (R130). -/
def HalfStage.ord : HalfStage → Nat
  | .offered => 0 | .accepted => 1 | .entering => 2 | .atTrack => 3 | .ended => 4 | .cancelled => 5
/-- Completion reason (R129). -/
def Reason.ord : Reason → Nat
  | .finished => 0 | .cancelled => 1 | .closedBySignalman => 2
/-- Alert kind number, 1 to 12 in the order of R177, as the index of an indication names it (R183). -/
def AlertKind.number : AlertKind → Nat
  | .leverForced => 1 | .trackSuspect => 2 | .obstruction => 3 | .clearingFouled => 4 | .trackFailed => 5
  | .repetitionWrong => 6 | .noRepetition => 7 | .repeatOwed => 8 | .unexpectedOccupation => 9 | .travelOverdue => 10
  | .registerLow => 11 | .releaseLapsed => 12
/-- Alert kind as a field: named values count from 0 (R183). -/
def AlertKind.ord (k : AlertKind) : Nat := k.number - 1
/-- Sounder pattern, in the order of R179: silent, continuous, 1 Hz, beep. -/
def Pattern.ord : Pattern → Nat
  | .silent => 0 | .continuous => 1 | .oneHz => 2 | .beep => 3
/-- Box state (R164). -/
def BoxState.ord : BoxState → Nat
  | .opened => 0 | .switchedOut => 1
/-- Part mode (12 section 12.2). -/
def Mode.ord : Mode → Nat
  | .start => 0 | .running => 1 | .held _ => 2
/-- HELD cause (12 section 12.2). -/
def HeldCause.ord : HeldCause → Nat
  | .hold => 0 | .invalid => 1
/-- Reset cause (R195). -/
def ResetCause.ord : ResetCause → Nat
  | .powerOn => 0 | .resetLine => 1 | .restart => 2
/-- Result value (R185). -/
def Result.ord : Result → Nat
  | .ok => 0 | .refusedState => 1 | .notPermitted => 2 | .badRequest => 3 | .busy => 4 | .noSuch => 5 | .conditions => 6

/-- A locking term: kind, first operand, second operand (R183). -/
def bTerm : Term → List Byte
  | .ln n => b1 0 ++ b1 n ++ b1 0
  | .lr n => b1 1 ++ b1 n ++ b1 0
  | .lnc n m => b1 2 ++ b1 n ++ b1 m
  | .tc t => b1 3 ++ b1 t ++ b1 0
  | .lcr s => b1 4 ++ b1 s ++ b1 0

/-- A code: outcome, entry and meaning for MATCHED, group list (R183). -/
def bCode (c : Code) : List Byte :=
  b1 c.outcome.ord ++ bOpt (fun e => b1 e.1 ++ b1 e.2.ord) c.entry ++ bList b1 c.groups

/-- An alert entry (R177). -/
def bAlert (a : Alert) : List Byte :=
  b1 a.kind.ord ++ b1 a.object ++ b1 a.priority ++ bStamp a.stamp ++ b1 a.count ++ bFlag a.acked

/-! ### Objects of a CONDITIONS reply (R185) -/

/-- The object that a CONDITIONS reply names. A configuration item carries index, class and check. -/
inductive CondObject where
  | none
  | lever (n : Nat)
  | track (n : Nat)
  | sec (n : Nat)
  | line (n : Nat)
  | record (n : Nat)
  | item (index cls check : Nat)
  deriving DecidableEq, Repr

/-- Object kind and number, with item class and check for a configuration item (R185). -/
def bObject : CondObject → List Byte
  | .none => b1 0 ++ b1 0
  | .lever n => b1 1 ++ b1 n
  | .track n => b1 2 ++ b1 n
  | .sec n => b1 3 ++ b1 n
  | .line n => b1 4 ++ b1 n
  | .record n => b1 5 ++ b1 n
  | .item i c k => b1 6 ++ b1 i ++ b1 c ++ b1 k

/-! ### Frames (R183) -/

/-- One bit of the CRC with polynomial 1021h. -/
def crcBit (c : BitVec 16) : BitVec 16 :=
  if c.getLsbD 15 then (c <<< 1) ^^^ 0x1021#16 else c <<< 1

/-- One byte of the CRC, most significant bit first. -/
def crcByte (c : BitVec 16) (b : Byte) : BitVec 16 :=
  (fun x => crcBit (crcBit (crcBit (crcBit (crcBit (crcBit (crcBit (crcBit x))))))))
    (c ^^^ (b.setWidth 16 <<< 8))

/-- The check of a frame: CRC-16 over length, kind, tag and body from FFFFh, with no reflection and no
final inversion. -/
def crc (bytes : List Byte) : BitVec 16 := bytes.foldl crcByte 0xFFFF#16

/-- The bytes of a frame: start, length, kind, tag, body, check high byte first. -/
def frameBytes (kind tag : Byte) (body : List Byte) : List Byte :=
  let inner := BitVec.ofNat 8 body.length :: kind :: tag :: body
  0x5A#8 :: inner ++ b2 (crc inner).toNat

/-- The body of a reply begins with the result (R183). -/
def Reply.body (r : Reply) : List Byte := b1 r.result.ord ++ r.rest

/-- The bytes of a reply frame; the kind is already the reply's (R183). -/
def Reply.bytes (r : Reply) : List Byte := frameBytes r.kind r.tag r.body

/-! ### Notices (R191) -/

/-- The kind of a notice event. -/
def NoticeEvent.kind : NoticeEvent → NoticeKind
  | .leverReleased | .leverHeld | .leverWithdrawn | .leverGivenUp | .leverLeft | .leverArrived | .leverReturned
  | .leverFound | .leverOverdue | .leverForced | .leverBothDetectors | .leverMarkCleared => .lever
  | .trackOccupied | .trackClear | .trackFlicker | .trackFailed | .trackSuspect | .trackRestored | .trackUnexpected =>
    .track
  | .secStateChanged | .secDisagreement | .secAgrees | .secClearingFouled | .secArrivalProven | .secUnregistered
  | .secStart | .secRestored | .secRepeater | .secReleaseAvailable | .secReleaseWithdrawn | .secReleaseConsumed => .sec
  | .bellReceived => .bellRx
  | .bellCompleted | .bellAborted | .bellManual => .bellTx
  | .repRepeated | .repOutstanding | .repNotAcknowledged | .repSentWhileOwed | .repAcknowledged | .repIncorrect
  | .repNotGiven | .repOwed | .repNoRepetition | .repRepetitionOwed | .repRelayedExchange | .repRelayedNotRepeated =>
    .repetition
  | .holdCreated | .holdReactivated | .holdBound | .holdSequenceIrregular | .holdStarted | .holdReady | .holdLapsed
  | .holdCancelled | .holdRemoved => .hold
  | .recCreated | .recOutboundAttached | .recAccepted | .recStage | .recIrregularCode | .recCompleted | .recCollected
  | .recRegisterLow | .recOverwritten | .recRegisterFull | .recAttributed | .recBerth | .recSetBack | .recLost => .record
  | .alertRaised | .alertRefreshed | .alertDropped | .alertAcknowledged | .alertCleared => .alert
  | .modeSwitchedOut | .modeSwitchedIn | .modeStarted | .modeHeld | .modeResumed | .modeClockSet => .mode

/-- The position of a notice event among those of its kind, counting from 0 (R191). -/
def NoticeEvent.ord : NoticeEvent → Nat
  | .leverReleased => 0 | .leverHeld => 1 | .leverWithdrawn => 2 | .leverGivenUp => 3 | .leverLeft => 4
  | .leverArrived => 5 | .leverReturned => 6 | .leverFound => 7 | .leverOverdue => 8 | .leverForced => 9
  | .leverBothDetectors => 10 | .leverMarkCleared => 11
  | .trackOccupied => 0 | .trackClear => 1 | .trackFlicker => 2 | .trackFailed => 3 | .trackSuspect => 4
  | .trackRestored => 5 | .trackUnexpected => 6
  | .secStateChanged => 0 | .secDisagreement => 1 | .secAgrees => 2 | .secClearingFouled => 3 | .secArrivalProven => 4
  | .secUnregistered => 5 | .secStart => 6 | .secRestored => 7 | .secRepeater => 8 | .secReleaseAvailable => 9
  | .secReleaseWithdrawn => 10 | .secReleaseConsumed => 11
  | .bellReceived => 0
  | .bellCompleted => 0 | .bellAborted => 1 | .bellManual => 2
  | .repRepeated => 0 | .repOutstanding => 1 | .repNotAcknowledged => 2 | .repSentWhileOwed => 3 | .repAcknowledged => 4
  | .repIncorrect => 5 | .repNotGiven => 6 | .repOwed => 7 | .repNoRepetition => 8 | .repRepetitionOwed => 9
  | .repRelayedExchange => 10 | .repRelayedNotRepeated => 11
  | .holdCreated => 0 | .holdReactivated => 1 | .holdBound => 2 | .holdSequenceIrregular => 3 | .holdStarted => 4
  | .holdReady => 5 | .holdLapsed => 6 | .holdCancelled => 7 | .holdRemoved => 8
  | .recCreated => 0 | .recOutboundAttached => 1 | .recAccepted => 2 | .recStage => 3 | .recIrregularCode => 4
  | .recCompleted => 5 | .recCollected => 6 | .recRegisterLow => 7 | .recOverwritten => 8 | .recRegisterFull => 9
  | .recAttributed => 10 | .recBerth => 11 | .recSetBack => 12 | .recLost => 13
  | .alertRaised => 0 | .alertRefreshed => 1 | .alertDropped => 2 | .alertAcknowledged => 3 | .alertCleared => 4
  | .modeSwitchedOut => 0 | .modeSwitchedIn => 1 | .modeStarted => 2 | .modeHeld => 3 | .modeResumed => 4
  | .modeClockSet => 5

/-- The body of a notice (R191): event, object number, timebase time, box clock time, fields. -/
def Notice.body (n : Notice) : List Byte :=
  b1 n.event.ord ++ b1 n.object ++ b4 n.time ++ bStamp n.stamp ++ n.fields

/-- The bytes of a notice frame: kind C1h to CAh, tag 0 (R183, R191). -/
def Notice.bytes (n : Notice) : List Byte :=
  frameBytes (BitVec.ofNat 8 (0xC0 + n.event.kind.number)) 0 n.body

end Sys2Proof.Machine
end

