-- ==== Sys2Proof/Machine/Items.lean ====
section
/-!
DEFINITION. The items of the configuration as bytes (Table 12.1, R183, DESIGN CHOICE log 16): how READ_CONFIG
returns an item, and how WRITE_CONFIG reads one with the range and step tests of R198 (DEDUCED log 17).
-/

namespace Sys2Proof.Machine

/-! ### Reading fields -/

/-- A field read from the front of a body: its value and the rest, or nothing where the bytes are not one. -/
abbrev Parse (α : Type) := List Byte → Option (α × List Byte)

/-- A one-byte number from `lo` to `hi`. -/
def pNum (lo hi : Nat) : Parse Nat
  | [] => none
  | b :: rest => if lo ≤ b.toNat ∧ b.toNat ≤ hi then some (b.toNat, rest) else none

/-- A flag. -/
def pFlag : Parse Bool
  | [] => none
  | b :: rest => if b = 0 then some (false, rest) else if b = 1 then some (true, rest) else none

/-- A four-byte number. -/
def p4 : Parse Nat
  | a :: b :: c :: d :: rest => some (a.toNat * 16777216 + b.toNat * 65536 + c.toNat * 256 + d.toNat, rest)
  | _ => none

/-- A configured duration in milliseconds: from `lo` to `hi`, in whole steps (00 section 4.3, R198). -/
def pDuration (lo hi stepSize : Nat) : Parse Nat := fun b => do
  let (v, b) ← p4 b
  if lo ≤ v ∧ v ≤ hi ∧ v % stepSize = 0 then some (v, b) else none

/-- A named value, by its place in a list of all the values. -/
def pNamed {α : Type} (values : List α) : Parse α
  | [] => none
  | b :: rest => (values[b.toNat]?).map fun v => (v, rest)

/-- An optional field. -/
def pOpt {α : Type} (p : Parse α) : Parse (Option α)
  | [] => none
  | b :: rest =>
    if b = 0 then some (none, rest)
    else if b = 1 then (p rest).map fun r => (some r.1, r.2)
    else none

/-- A number of fields of one kind. -/
def pRepeat {α : Type} (p : Parse α) : Nat → Parse (List α)
  | 0 => fun b => some ([], b)
  | n + 1 => fun b => do
    let (v, b) ← p b
    let (vs, b) ← pRepeat p n b
    some (v :: vs, b)

/-- A list of `lo` to `hi` items. -/
def pList {α : Type} (lo hi : Nat) (p : Parse α) : Parse (List α) := fun b => do
  let (n, b) ← pNum lo hi b
  pRepeat p n b

/-- The whole body is one field. -/
def pWhole {α : Type} (p : Parse α) (b : List Byte) : Option α :=
  match p b with
  | some (v, []) => some v
  | _ => none

/-! ### Values in order -/

/-- The lever kinds (R19). -/
def leverKindValues : List LeverKind := [.signal, .points, .lock, .release, .spare]
/-- The track kinds (R1). -/
def trackKindValues : List TrackKind := [.running, .siding, .notFitted]
/-- The roles (R70). -/
def roleValues : List Role := [.accepting, .offering, .unused]
/-- The duties (R95). -/
def dutyValues : List Duty := [.quarter, .third, .half]
/-- The meanings (R96). -/
def meaningValues : List Meaning :=
  [.offer, .entering, .outOfSection, .cancel, .obstruction, .switchOutNotice, .switchInNotice, .callAttention, .test,
    .other]
/-- The source kinds (R173). -/
def sourceValues : List SourceKind :=
  [.leverNormal, .leverReverse, .leverFree, .leverFaultMark, .trackOccupied, .trackMarked, .sectionLB, .sectionLC,
    .sectionTOL, .sectionDisagreement, .sectionThrough, .releaseAvailable, .codeOwed, .codeOutstanding, .holdExists,
    .timeReleaseReady, .boxSwitchedOut, .alertActive, .codeReceived, .none]
/-- The display modes (R173). -/
def displayValues : List DisplayMode := [.steady, .flash, .pulse]
/-- The switch-out places (R163). -/
def placeValues : List LeverPlace := [.normal, .reverse, .either]

/-! ### One item of each class: to bytes and from bytes -/

/-- A locking term (R183). -/
def pTerm : Parse Term := fun b => do
  let (k, b) ← pNum 0 4 b
  let top := if k = 3 then 16 else if k = 4 then 6 else 24
  let (n, b) ← pNum 1 top b
  let (m, b) ← if k = 2 then pNum 1 24 b else pNum 0 0 b
  some (match k with
    | 0 => .ln n
    | 1 => .lr n
    | 2 => .lnc n m
    | 3 => .tc n
    | _ => .lcr n, b)

/-- A locking entry (R20). -/
def bEntry (e : Entry) : List Byte := bList bTerm e
/-- A locking entry of 0 to 8 terms (R20). -/
def pEntry : Parse Entry := pList 0 8 pTerm

/-- A route hold definition (R47). -/
def bHoldDef (d : HoldDef) : List Byte :=
  bFlag d.present ++ bOpt b1 d.approach ++ bList b1 d.holding ++ bList b1 d.held ++ b4 d.period
/-- A route hold definition (R47): its lists are at least one long when it is present. -/
def pHoldDef : Parse HoldDef := fun b => do
  let (present, b) ← pFlag b
  let least := if present then 1 else 0
  let (approach, b) ← pOpt (pNum 1 16) b
  let (holding, b) ← pList least 4 (pNum 1 16) b
  let (held, b) ← pList least 6 (pNum 1 24) b
  let (period, b) ← pDuration 30000 300000 1000 b
  some ({ present, approach, holding, held, period }, b)

/-- A flicker mode (R183). -/
def bFlicker : FlickerMode → List Byte
  | .off => b1 0 ++ b1 0
  | .each => b1 1 ++ b1 0
  | .limit k => b1 2 ++ b1 k
/-- A flicker mode (R1, R183). -/
def pFlicker : Parse FlickerMode := fun b => do
  let (m, b) ← pNum 0 2 b
  let (k, b) ← pNum 0 (if m = 2 then 6 else 0) b
  some (match m with
    | 0 => .off
    | 1 => .each
    | _ => .limit k, b)

/-- A track (R1). -/
def bTrackConf (c : TrackConf) : List Byte :=
  b1 c.kind.ord ++ b4 c.delay ++ bFlicker c.flicker ++ bList b1 c.neighbours ++ b4 c.grace
/-- A track (R1). -/
def pTrackConf : Parse TrackConf := fun b => do
  let (kind, b) ← pNamed trackKindValues b
  let (delay, b) ← pDuration 200 10000 100 b
  let (flicker, b) ← pFlicker b
  let (neighbours, b) ← pList 0 3 (pNum 1 16) b
  let (grace, b) ← pDuration 500 5000 100 b
  some ({ kind, delay, flicker, neighbours, grace }, b)

/-- A section (R70). -/
def bSectionConf (c : SectionConf) : List Byte :=
  b1 c.role.ord ++ b1 c.line ++ bOpt b1 c.pair ++ b1 c.home ++ b1 c.clearing ++ b1 c.entry ++ b1 c.starting ++
    b1 c.exit ++ bOpt b1 c.berth
/-- A section (R70). A field that the role uses lies in its range; one it does not use may be 0. -/
def pSectionConf : Parse SectionConf := fun b => do
  let (role, b) ← pNamed roleValues b
  let accepting := if role = .accepting then 1 else 0
  let offering := if role = .offering then 1 else 0
  let (line, b) ← pNum 1 3 b
  let (pair, b) ← pOpt (pNum 1 6) b
  let (home, b) ← pNum accepting 24 b
  let (clearing, b) ← pNum accepting 16 b
  let (entry, b) ← pNum accepting 16 b
  let (starting, b) ← pNum offering 24 b
  let (exit, b) ← pNum offering 16 b
  let (berth, b) ← pOpt (pNum 1 16) b
  some ({ role, line, pair, home, clearing, entry, starting, exit, berth }, b)

/-- A printable character of a name (R95, PRESUMED log 36: 20h to 7Eh). -/
def pPrintable : Parse Byte
  | [] => none
  | b :: rest => if 0x20 ≤ b.toNat ∧ b.toNat ≤ 0x7E then some (b, rest) else none

/-- A bell line (R95). -/
def bLineConf (c : LineConf) : List Byte :=
  bList (fun x => [x]) c.name ++ b4 c.receiveBeat ++ b4 c.sendBeat ++ b1 c.duty.ord ++ b4 c.repetitionTimeout ++
    b4 c.owedReminder
/-- A bell line (R95). -/
def pLineConf : Parse LineConf := fun b => do
  let (name, b) ← pList 0 16 pPrintable b
  let (receiveBeat, b) ← pDuration 100 600 10 b
  let (sendBeat, b) ← pDuration 150 500 10 b
  let (duty, b) ← pNamed dutyValues b
  let (repetitionTimeout, b) ← pDuration 5000 30000 1000 b
  let (owedReminder, b) ← pDuration 5000 60000 1000 b
  some ({ name, receiveBeat, sendBeat, duty, repetitionTimeout, owedReminder }, b)

/-- A code table entry (R96). -/
def bCodeEntry (c : CodeEntry) : List Byte := bFlag c.inUse ++ bList b1 c.pattern ++ b1 c.meaning.ord ++ b1 c.cls
/-- A code table entry (R96). Its pattern is checked at RESUME (R97). -/
def pCodeEntry : Parse CodeEntry := fun b => do
  let (inUse, b) ← pFlag b
  let (pattern, b) ← pList 0 255 (pNum 0 255) b
  let (meaning, b) ← pNamed meaningValues b
  let (cls, b) ← pNum 0 9 b
  some ({ inUse, pattern, meaning, cls }, b)

/-- An indication (R173). -/
def bIndicationConf (c : IndicationConf) : List Byte :=
  b1 c.source.ord ++ b1 c.index ++ bFlag c.litWhenFalse ++ b1 c.display.ord ++ b4 c.pulse
/-- An indication (R173). Its index and display mode are checked against its source at RESUME (Table 12.2). -/
def pIndicationConf : Parse IndicationConf := fun b => do
  let (source, b) ← pNamed sourceValues b
  let (index, b) ← pNum 0 255 b
  let (litWhenFalse, b) ← pFlag b
  let (display, b) ← pNamed displayValues b
  let (pulse, b) ← p4 b
  if pulse = 1000 ∨ pulse = 2000 ∨ pulse = 4000 ∨ pulse = 8000 then
    some ({ source, index, litWhenFalse, display, pulse }, b)
  else none

/-- The table of 24 switch-out places that a list begins. -/
def placesOf (l : List LeverPlace) : Tab 24 LeverPlace := Tab.build 24 fun n => (l[n - 1]?).getD .either

/-- The switch-out record (R163). -/
def bSwitchOutConf (c : SwitchOutConf) : List Byte :=
  bFlag c.may ++ b1 c.lineA ++ b1 c.lineB ++ c.places.toList.flatMap fun p => b1 p.ord
/-- The switch-out record (R163): the lines of the pair are different. -/
def pSwitchOutConf : Parse SwitchOutConf := fun b => do
  let (may, b) ← pFlag b
  let (lineA, b) ← pNum 1 3 b
  let (lineB, b) ← pNum 1 3 b
  let (places, b) ← pRepeat (pNamed placeValues) 24 b
  if lineA = lineB then none else some ({ may, lineA, lineB, places := placesOf places }, b)

/-- The notice enables (R191). -/
def bEnables (e : Tab 10 Bool) : List Byte := e.toList.flatMap bFlag
/-- The notice enables (R191). -/
def pEnables : Parse (Tab 10 Bool) := fun b => do
  let (l, b) ← pRepeat pFlag 10 b
  some (Tab.build 10 fun n => (l[n - 1]?).getD true, b)

/-! ### Items by class and index (Table 12.1) -/

/-- The index lies in the range of its class; no index does for a class outside 0 to 10 (Table 12.1). -/
def itemExists (cls index : Nat) : Bool :=
  match cls with
  | 0 => isLever index
  | 1 => 1 ≤ index && index ≤ 96
  | 2 => isLever index
  | 3 => isTrack index
  | 4 => isSection index
  | 5 => isLine index
  | 6 => isIndication index
  | 7 => isIndication index
  | 8 => index == 0
  | 9 => index == 0
  | 10 => index == 0
  | _ => false

/-- An item of a configuration, as READ_CONFIG returns it. -/
def itemBytes (c : Conf) (cls index : Nat) : List Byte :=
  match cls with
  | 0 => b1 (c.leverKinds.get .spare index).ord
  | 1 => bEntry (c.entries.get [] index)
  | 2 => bHoldDef (c.holdDefs.get {} index)
  | 3 => bTrackConf (c.tracks.get {} index)
  | 4 => bSectionConf (c.sections.get {} index)
  | 5 => bLineConf (c.lines.get {} index)
  | 6 => bCodeEntry (c.codes.get {} index)
  | 7 => bIndicationConf (c.indications.get {} index)
  | 8 => b1 c.threshold
  | 9 => bSwitchOutConf c.switchOut
  | 10 => bEnables c.enables
  | _ => []

/-- A configuration with an item replaced by the one that bytes spell; none where R198 refuses them. -/
def writeItem (c : Conf) (cls index : Nat) (body : List Byte) : Option Conf :=
  if itemExists cls index then
    match cls with
    | 0 => (pWhole (pNamed leverKindValues) body).map fun v => { c with leverKinds := c.leverKinds.put index v }
    | 1 => (pWhole pEntry body).map fun v => { c with entries := c.entries.put index v }
    | 2 => (pWhole pHoldDef body).map fun v => { c with holdDefs := c.holdDefs.put index v }
    | 3 => (pWhole pTrackConf body).map fun v => { c with tracks := c.tracks.put index v }
    | 4 => (pWhole pSectionConf body).map fun v => { c with sections := c.sections.put index v }
    | 5 => (pWhole pLineConf body).map fun v => { c with lines := c.lines.put index v }
    | 6 => (pWhole pCodeEntry body).map fun v => { c with codes := c.codes.put index v }
    | 7 => (pWhole pIndicationConf body).map fun v => { c with indications := c.indications.put index v }
    | 8 => (pWhole (pNum 1 15) body).map fun v => { c with threshold := v }
    | 9 => (pWhole pSwitchOutConf body).map fun v => { c with switchOut := v }
    | 10 => (pWhole pEnables body).map fun v => { c with enables := v }
    | _ => none
  else none

/-- The body of a WRITE_CONFIG request: class, index, fields (R198). -/
def writeBody (c : Conf) : List Byte → Option Conf
  | cls :: index :: fields => writeItem c cls.toNat index.toNat fields
  | _ => none

end Sys2Proof.Machine
end

