-- ==== Sys2Proof/Machine/Ops.lean ====
section
/-!
DEFINITION. The named operations every unit is written over: reading and replacing the things a state
holds by their numbers, the time and the box clock, notices, persistent counters, the alert list and
the sounder.
-/

namespace Sys2Proof

/-! ### The configuration, by number -/

/-- The kind of a lever (R19). -/
def Conf.leverKind (c : Conf) (n : Nat) : LeverKind := c.leverKinds.get .spare n
/-- The index, 1 to 96, of a locking entry (Table 12.1). -/
def entryIndex (lever : Nat) (set : EntrySet) (dir : Direction) : Nat :=
  4 * (lever - 1) + (match set, dir with
    | .a, .toReverse => 1 | .a, .toNormal => 2 | .b, .toReverse => 3 | .b, .toNormal => 4)
/-- A locking entry (R19). -/
def Conf.entry (c : Conf) (lever : Nat) (set : EntrySet) (dir : Direction) : Entry :=
  c.entries.get [] (entryIndex lever set dir)
/-- The route hold definition of a lever, when it is present (R47). -/
def Conf.holdDef (c : Conf) (n : Nat) : Option HoldDef :=
  let d := c.holdDefs.get {} n
  if d.present then some d else none
/-- The record of a track (R1). -/
def Conf.track (c : Conf) (t : Nat) : TrackConf := c.tracks.get {} t
/-- The record of a section (R70). -/
def Conf.sec (c : Conf) (x : Nat) : SectionConf := c.sections.get {} x
/-- The record of a bell line (R95). -/
def Conf.line (c : Conf) (l : Nat) : LineConf := c.lines.get {} l
/-- An entry of the code table (R96). -/
def Conf.code (c : Conf) (e : Nat) : CodeEntry := c.codes.get {} e
/-- The definition of an indication (R173). -/
def Conf.indication (c : Conf) (i : Nat) : IndicationConf := c.indications.get {} i
/-- What the switch-out lever set asks of a lever (R163). -/
def SwitchOutConf.place (c : SwitchOutConf) (n : Nat) : LeverPlace := c.places.get .either n

/-- The track is fitted: its kind is RUNNING or SIDING (R1, R7). -/
def Conf.fitted (c : Conf) (t : Nat) : Bool := (c.track t).kind ≠ .notFitted

/-- The sections of a role on a bell line, in number order (R70, R91). -/
def Conf.sectionsOf (c : Conf) (role : Role) (line : Nat) : List Nat :=
  (Tab.numbers 6).filter fun x => (c.sec x).role = role && (c.sec x).line = line
/-- The accepting section of a line (R71: at most one). -/
def Conf.acceptingOf (c : Conf) (line : Nat) : Option Nat := (c.sectionsOf .accepting line).head?
/-- The offering section of a line (R71: at most one). -/
def Conf.offeringOf (c : Conf) (line : Nat) : Option Nat := (c.sectionsOf .offering line).head?

end Sys2Proof

namespace Sys2Proof.Machine

/-! ### Reading a state -/

/-- The configuration in force (R194). -/
def State.conf (s : State) : Conf := s.store.inForce
/-- The inputs of a lever (R21). -/
def State.leverInputs (s : State) (n : Nat) : LeverInputs := s.inputs.levers.get {} n
/-- A track's raw input: true where the relay is picked up (R3). -/
def State.relayPicked (s : State) (t : Nat) : Bool := s.inputs.relays.get false t
/-- The current on a section's block line terminal (R73). -/
def State.blockLine (s : State) (x : Nat) : Current := s.inputs.blockLines.get .none x
/-- The contacts of a section's instrument switch (R75). -/
def State.contacts (s : State) (x : Nat) : Contacts := s.inputs.switches.get {} x
/-- The input of a recognizer is on (R98). -/
def State.earOn (s : State) (l : Nat) : Ear → Bool
  | .receive => s.inputs.receive.get false l
  | .manual => s.inputs.plungers.get false l
/-- A track. -/
def State.track (s : State) (t : Nat) : Track := s.tracks.get {} t
/-- A lever. -/
def State.lever (s : State) (n : Nat) : Lever := s.levers.get {} n
/-- A section. -/
def State.sec (s : State) (x : Nat) : Sec := s.sections.get {} x
/-- A bell line. -/
def State.bell (s : State) (l : Nat) : Bell := s.bells.get {} l
/-- A train record. -/
def State.record (s : State) (r : Nat) : Record := s.register.records.get {} r
/-- The hold of a signal, if the list has one (R48). -/
def State.hold? (s : State) (n : Nat) : Option Hold := s.holds.find? fun h => h.signal == n
/-- The pulse timer of an indication (R174). -/
def State.pulse (s : State) (i : Nat) : Option Time := s.panel.pulses.get none i

/-- The part takes its inputs and decodes codes: RUNNING, or HELD entered by HOLD. -/
def State.live (s : State) : Bool :=
  match s.control.mode with
  | .running => true
  | .held .hold => true
  | _ => false

/-- HELD with cause configuration invalid (R196). -/
def State.invalid (s : State) : Bool := s.control.mode = .held .invalid

/-! ### Replacing -/

/-- Replace a track. -/
def State.putTrack (t : Nat) (k : Track) (s : State) : State := { s with tracks := s.tracks.put t k }
/-- Replace a lever. -/
def State.putLever (n : Nat) (l : Lever) (s : State) : State := { s with levers := s.levers.put n l }
/-- Replace the accepting half of a section. -/
def State.putAcc (x : Nat) (a : Accepting) (s : State) : State :=
  { s with sections := s.sections.put x { s.sec x with acc := a } }
/-- Replace the offering half of a section. -/
def State.putOff (x : Nat) (o : Offering) (s : State) : State :=
  { s with sections := s.sections.put x { s.sec x with off := o } }
/-- Replace a bell line. -/
def State.putBell (l : Nat) (b : Bell) (s : State) : State := { s with bells := s.bells.put l b }
/-- Replace the route hold list. -/
def State.putHolds (hs : List Hold) (s : State) : State := { s with holds := hs }
/-- Replace what the TRU holds. -/
def State.putRegister (r : Register) (s : State) : State := { s with register := r }
/-- Replace a train record. -/
def State.putRecord (r : Nat) (x : Record) (s : State) : State :=
  { s with register := { s.register with records := s.register.records.put r x } }
/-- Replace what the POU holds. -/
def State.putPanel (p : Panel) (s : State) : State := { s with panel := p }
/-- Replace what the LKC holds. -/
def State.putLink (k : Link) (s : State) : State := { s with link := k }
/-- Replace what the MDC holds. -/
def State.putControl (c : Control) (s : State) : State := { s with control := c }
/-- Replace what the CFS holds. -/
def State.putStore (c : Store) (s : State) : State := { s with store := c }
/-- Replace the terminals. -/
def State.putInputs (i : Inputs) (s : State) : State := { s with inputs := i }
/-- Replace the set in force (R42). -/
def State.putSet (e : EntrySet) (s : State) : State := { s with set := e }

/-! ### Time -/

/-- Time comes to `tm`; it never runs back (DESIGN CHOICE log 1). -/
def State.advance (tm : Time) (s : State) : State := { s with now := max s.now tm }

/-- A running timer whose expiry time has come (DESIGN CHOICE log 3). -/
def due (timer : Option Time) (now : Time) : Bool := timer.any fun e => e ≤ now

/-- The timebase time reported on the link: it counts from the end of the last start interval and wraps at
2^32 (R183, R195). -/
def State.timebase (s : State) (t : Time) : Nat := (t - s.control.base) % 4294967296

/-- The present box clock time with the clock unset flag (R201). -/
def State.stamp (s : State) : Stamp := ⟨s.control.clock.day, s.control.clock.second, s.control.clock.unset⟩

/-- Milliseconds until a time, for the fields that report a time remaining. -/
def State.remaining (s : State) (e : Time) : Nat := e - s.now

/-! ### Notices -/

/-- A notice is produced; its body is made at the end of the event (R191, DEDUCED log 14). -/
def State.emit (e : NoticeEvent) (object : Nat) (extra : List Byte) (s : State) : State :=
  { s with emitted := s.emitted ++ [⟨e, object, extra⟩] }

/-! ### Counters -/

/-- Add 1, stopping at `top` (00 section 4.5). -/
def satAdd (top n : Nat) : Nat := if n < top then n + 1 else n

/-- The top of a persistent counter (R194). -/
def counterTop : Nat := 4294967295

/-- The value of a persistent counter: the greater of the copies whose check is good, and the top when both
are bad (R194). -/
def PCounter.value (c : PCounter) : Nat :=
  match c.first, c.second with
  | none, none => counterTop
  | some a, none => a
  | none, some b => b
  | some a, some b => max a b

/-- An increment, written to the first copy and then to the second; the counter saturates (R194). -/
def PCounter.increment (c : PCounter) : PCounter :=
  let v := satAdd counterTop c.value
  ⟨some v, some v⟩

/-- The counter named, in the store. -/
def Store.counter (c : Store) : CounterName → PCounter
  | .release n => c.releases.get {} n
  | .forced n => c.forced.get {} n
  | .mark t => c.marks.get {} t

/-- The store with the counter named replaced. -/
def Store.putCounter (c : Store) (k : CounterName) (p : PCounter) : Store :=
  match k with
  | .release n => { c with releases := c.releases.put n p }
  | .forced n => { c with forced := c.forced.put n p }
  | .mark t => { c with marks := c.marks.put t p }

/-- Increment a persistent counter (R10, R25, R62). -/
def State.count (k : CounterName) (s : State) : State :=
  s.putStore (s.store.putCounter k (s.store.counter k).increment)

/-! ### Standing positions (R23) -/

/-- Where a lever stands. -/
inductive Standing where
  | normal | reverse | nowhere
  deriving DecidableEq, Repr

/-- The standing position of a lever state (R23). -/
def LeverPhase.standing : LeverPhase → Standing
  | .normal | .normalCatch => .normal
  | .reverse | .reverseCatch => .reverse
  | _ => .nowhere

/-- The lever is in a FREE state. -/
def LeverPhase.isFree (p : LeverPhase) : Bool := p = .normalFree || p = .reverseFree
/-- The lever is in a CATCH state. -/
def LeverPhase.isCatch (p : LeverPhase) : Bool := p = .normalCatch || p = .reverseCatch

/-- Where lever `n` stands (R23). -/
def State.standing (s : State) (n : Nat) : Standing := (s.lever n).phase.standing

/-! ### Effective occupancy (R13) -/

/-- The track carries a mark (R3). -/
def Track.marked (k : Track) : Bool := k.failed || k.suspect

/-- The track is effectively clear: CLEAR and unmarked (R13). -/
def Track.effectivelyClear (k : Track) : Bool := k.filter = .clear && !k.marked

/-- Track `t` is effectively clear (R13). -/
def State.clear (s : State) (t : Nat) : Bool := (s.track t).effectivelyClear

/-! ### Readings of the block line (R73) -/

/-- The current that shows a line state (R72). -/
def LineState.current : LineState → Current
  | .lb => .negative
  | .lc => .positive
  | .tol => .none

/-- The raw reading of an offering section: it follows the line current at every change (R73). -/
def State.rawReading (s : State) (x : Nat) : LineState :=
  match s.blockLine x with
  | .negative => .lb
  | .positive => .lc
  | .none => .tol

/-! ### The alert list and the sounder (Chapter 10) -/

/-- The priority of a raise of an alert kind in a box state (R177). -/
def AlertKind.priority (box : BoxState) : AlertKind → Nat
  | .leverForced => 15
  | .trackSuspect => 14
  | .obstruction => 13
  | .clearingFouled => 12
  | .trackFailed => 11
  | .repetitionWrong => 10
  | .noRepetition => 9
  | .repeatOwed => 8
  | .unexpectedOccupation => if box = .opened then 7 else 3
  | .travelOverdue => 6
  | .registerLow => 5
  | .releaseLapsed => 4

/-- The alert threshold: the configured one, and 6 in HELD with configuration invalid (R179). -/
def State.threshold (s : State) : Nat := if s.invalid then 6 else s.conf.threshold

/-- The highest priority among the unacknowledged entries at or above the threshold (R179). -/
def State.soundingPriority (s : State) : Option Nat :=
  ((s.panel.alerts.filter fun a => !a.acked && decide (s.threshold ≤ a.priority)).map (·.priority)).max?

/-- The pattern of a sounding priority (R179). -/
def patternOf : Option Nat → Pattern
  | none => .silent
  | some p => if 12 ≤ p then .continuous else if 8 ≤ p then .oneHz else .beep

/-- A pattern at the start of its on period (R179). -/
def Pattern.begin (p : Pattern) (now : Time) : Sounder :=
  match p with
  | .silent => ⟨.silent, false, none⟩
  | .continuous => ⟨.continuous, true, none⟩
  | .oneHz => ⟨.oneHz, true, some (now + 500)⟩
  | .beep => ⟨.beep, true, some (now + 200)⟩

/-- The sounder recomputed: a pattern that changes, and a pattern that a new sounding alert begins again,
starts at its on period. It is silent during the start interval (R179). -/
def State.recomputeSounder (again : Bool) (s : State) : State :=
  let p := if s.control.mode = .start then .silent else patternOf s.soundingPriority
  if again || p ≠ s.panel.sounder.pattern then s.putPanel { s.panel with sounder := p.begin s.now } else s

/-- The entry of lowest priority, the oldest of several, with its place in the list (R178). -/
def lowestAlert (l : List Alert) : Option Alert :=
  l.foldl (fun m a => match m with
    | none => some a
    | some b => if a.priority < b.priority then some a else some b) none

/-- Two entries are for the same pair of kind and object (R177). -/
def Alert.same (a b : Alert) : Bool := a.kind = b.kind && a.object = b.object

/-- The list without the entry for the kind and object of `a`. -/
def dropAlert (a : Alert) (l : List Alert) : List Alert := l.filter fun b => !a.same b

/-- A raise of an alert (R178): refresh, append, or drop one and append. The notice of the raise comes before that of
the drop, in the order in which R178 lists them (R192, DEDUCED log 22). -/
def State.raise (kind : AlertKind) (object : Nat) (s : State) : State :=
  let fresh : Alert := ⟨kind, object, kind.priority s.control.box, s.stamp, 1, false⟩
  let sounds := decide (s.threshold ≤ fresh.priority)
  match s.panel.alerts.find? fresh.same with
  | some old =>
    let entry := { fresh with count := satAdd 255 old.count }
    ((s.putPanel { s.panel with alerts := dropAlert old s.panel.alerts ++ [entry] }).emit .alertRefreshed object
      (bAlert entry)).recomputeSounder sounds
  | none =>
    if s.panel.alerts.length < 16 then
      ((s.putPanel { s.panel with alerts := s.panel.alerts ++ [fresh] }).emit .alertRaised object
        (bAlert fresh)).recomputeSounder sounds
    else
      match lowestAlert (s.panel.alerts.filter (·.acked)) with
      | some out =>
        (((s.putPanel { s.panel with alerts := dropAlert out s.panel.alerts ++ [fresh] }).emit .alertRaised object
          (bAlert fresh)).emit .alertDropped out.object (bAlert out)).recomputeSounder sounds
      | none =>
        match lowestAlert (s.panel.alerts ++ [fresh]) with
        | some out =>
          if out.same fresh then s.emit .alertDropped object (bAlert fresh)
          else
            (((s.putPanel { s.panel with alerts := dropAlert out s.panel.alerts ++ [fresh] }).emit .alertRaised object
              (bAlert fresh)).emit .alertDropped out.object (bAlert out)).recomputeSounder sounds
        | none => s

end Sys2Proof.Machine
end

