-- ==== Sys2Proof/Machine/Holds.lean ====
section
/-!
DEFINITION. The Route Hold Unit (Chapter 3): the route hold list, stage progress, binding, and the releases.
-/

namespace Sys2Proof.Machine

/-- The approach track of a hold's definition (R47). -/
def State.approachOf (s : State) (h : Hold) : Option Nat := (s.conf.holdDef h.signal).bind (·.approach)
/-- The holding list of a hold's definition (R47). -/
def State.holdingOf (s : State) (h : Hold) : List Nat := ((s.conf.holdDef h.signal).map (·.holding)).getD []
/-- The held levers of a hold's definition (R47). -/
def State.heldOf (s : State) (h : Hold) : List Nat := ((s.conf.holdDef h.signal).map (·.held)).getD []

/-- The lowest-numbered signal among the holds that name lever `n` as held (R27 condition 3, R49). -/
def State.holdNaming (s : State) (n : Nat) : Option Nat :=
  (s.holds.find? fun h => (s.heldOf h).contains n).map (·.signal)

/-- The list with a hold entered in signal order (R48). -/
def insertHold (h : Hold) : List Hold → List Hold
  | [] => [h]
  | k :: ks => if h.signal < k.signal then h :: k :: ks else k :: insertHold h ks

/-- The list with the hold of `h.signal` replaced. -/
def replaceHold (h : Hold) (l : List Hold) : List Hold := l.map fun k => if k.signal == h.signal then h else k

/-- Replace a hold in the list. -/
def State.putHold (h : Hold) (s : State) : State := s.putHolds (replaceHold h s.holds)

/-- The causes that HOLD notices carry, in the order of R69. -/
inductive HoldCause where
  | reversal | startUp
  | signalman | approachOccupied | signalReversed | partHeld
  | sequential | approach | timeRelease
  deriving DecidableEq, Repr

/-- A cause by its place in its row of R69. -/
def HoldCause.ord : HoldCause → Nat
  | .reversal => 0 | .startUp => 1
  | .signalman => 0 | .approachOccupied => 1 | .signalReversed => 2 | .partHeld => 3
  | .sequential => 0 | .approach => 1 | .timeRelease => 2

/-- A hold is taken from the list and its removal is reported (R59). Its timer goes with it; the Lever
Locking Unit examines at the end of the event, and `State.settle` puts the notice behind that examination. -/
def State.removeHold (n : Nat) (cause : HoldCause) (s : State) : State :=
  (s.putHolds (s.holds.filter fun h => h.signal != n)).emit .holdRemoved n (b1 cause.ord)

/-- The release tests reach a hold in HOLDING, and one in TIMING or READY whose prior state is HOLDING (R57,
R58). -/
def Hold.testable (h : Hold) : Bool :=
  h.state = .holding || ((h.state = .timing || h.state = .ready) && h.prior = some .holding)

/-- The test for sequential release (R57). -/
def State.testSequential (n : Nat) (s : State) : State :=
  match s.hold? n with
  | none => s
  | some h =>
    if h.testable && s.standing n = .normal && h.stages.getLast? = some .cleared then s.removeHold n .sequential else s

/-- The approach track is absent or effectively clear (R58). -/
def State.approachClear (s : State) (h : Hold) : Bool := (s.approachOf h).all s.clear

/-- The test for approach release (R58). -/
def State.testApproach (n : Nat) (s : State) : State :=
  match s.hold? n with
  | none => s
  | some h =>
    if h.testable && s.standing n = .normal && h.stages.all (· = .waiting) && s.approachClear h then
      s.removeHold n .approach
    else s

/-- Both tests, sequential release first (R56). -/
def State.testRelease (n : Nat) (s : State) : State := (s.testSequential n).testApproach n

/-- A hold's prior state as a state (R63 to R65, R67). -/
def PriorState.toState : PriorState → HoldState
  | .holding => .holding
  | .irregular => .irregular

/-- A hold in TIMING or READY returned to its prior state: the timer is stopped and the prior state
discarded (R63, R64, R65, R67). -/
def Hold.backToPrior (h : Hold) : Hold :=
  { h with state := (h.prior.map PriorState.toState).getD .irregular, prior := none, timer := none }

/-- A time release in progress is cancelled (R64, R65, R67). -/
def State.cancelTimeRelease (h : Hold) (cause : HoldCause) (s : State) : State :=
  (s.putHold h.backToPrior).emit .holdCancelled h.signal (b1 cause.ord)

/-- The time release of a hold is running its countdown or its ready window. -/
def Hold.releasing (h : Hold) : Bool := h.state = .timing || h.state = .ready

/-! ### Creation, reactivation and binding -/

/-- A hold is created for a signal with a definition (R50, R68). A held lever in TRAVEL has its solenoid
de-energized (R33). -/
def State.createHold (n : Nat) (d : HoldDef) (state : HoldState) (reversal : Bool) (cause : HoldCause)
    (s : State) : State :=
  let h : Hold := { signal := n, stages := d.holding.map fun _ => .waiting, state, reversal }
  let s := s.putHolds (insertHold h s.holds)
  let s := d.held.foldl (fun s k =>
    if (s.lever k).phase = .travel then s.putLever k { s.lever k with solenoid := false } else s) s
  s.emit .holdCreated n (b1 cause.ord)

/-- A signal arrives at REVERSE (R50, R51): its hold is created, or reactivated with its stages kept. In HELD
with configuration invalid the definitions are not trusted (R68). -/
def State.signalArrivesReverse (n : Nat) (s : State) : State :=
  match s.conf.holdDef n with
  | none => s
  | some d =>
    if s.invalid then s
    else match s.hold? n with
    | none => s.createHold n d .active true .reversal
    | some h =>
      let s := if h.releasing then s.cancelTimeRelease h .signalReversed else s
      (s.putHold { h with state := .active, prior := none, timer := none, reversal := true }).emit .holdReactivated n []

/-- A signal comes to stand reverse without arriving: the reversal flag of its hold is set (R52). -/
def State.signalStandsReverse (n : Nat) (s : State) : State :=
  match s.hold? n with
  | none => s
  | some h => s.putHold { h with reversal := true }

/-- A signal comes to stand normal: an ACTIVE hold is bound (R56), and the release tests are made (R57, R58).
The notice
*bound* carries the new state itself, because the hold may be gone when the event ends. -/
def State.signalStandsNormal (n : Nat) (s : State) : State :=
  match s.hold? n with
  | none => s
  | some h =>
    if h.state = .active then
      let state : HoldState := if h.irregular then .irregular else .holding
      ((s.putHold { h with state := state }).emit .holdBound n (b1 state.ord)).testRelease n
    else s.testRelease n

/-! ### Stage progress -/

/-- An irregularity (R55). -/
def Hold.makeIrregular (h : Hold) : Hold :=
  match h.state with
  | .active | .holding | .irregular => { h with state := .irregular, irregular := true }
  | .timing | .ready => { h with prior := some .irregular, irregular := true }

/-- Holding track `i` (counting from 0) becomes effectively occupied (R53): the hold after it, and whether
the event is an irregularity. -/
def Hold.trackOccupied (h : Hold) (i : Nat) : Hold × Bool :=
  match h.stages[i]? with
  | some .waiting =>
    let inOrder := if i = 0 then h.reversal else (h.stages[i - 1]?).any (· ≠ .waiting)
    if inOrder then ({ h with stages := h.stages.set i .occupied }, false) else (h.makeIrregular, true)
  | some .cleared => (Hold.makeIrregular { h with stages := h.stages.set i .occupied }, true)
  | _ => (h, false)

/-- Holding track `i` (counting from 0) becomes effectively clear (R54); `nextOccupied` says whether the next
holding track is effectively occupied. -/
def Hold.trackCleared (h : Hold) (i : Nat) (nextOccupied : Bool) : Hold × Bool :=
  match h.stages[i]? with
  | some .occupied =>
    if i + 1 = h.stages.length || nextOccupied then ({ h with stages := h.stages.set i .cleared }, false)
    else (Hold.makeIrregular { h with stages := h.stages.set i .waiting }, true)
  | _ => (h, false)

/-- A hold after stage progress, with the *sequence irregular* notice where the event was one (R55). -/
def State.stageDone (t i : Nat) (r : Hold × Bool) (s : State) : State :=
  let s := s.putHold r.1
  if r.2 then s.emit .holdSequenceIrregular r.1.signal (b1 t ++ b1 (i + 1)) else s

/-- One hold takes the occupation of a track: stage progress (R53), and the approach rule of a time release
(R65), after which a hold back in HOLDING is tested. -/
def State.holdTrackOccupied (t n : Nat) (s : State) : State :=
  match s.hold? n with
  | none => s
  | some h =>
    match (s.holdingOf h).findIdx? (· == t) with
    | some i => s.stageDone t i (h.trackOccupied i)
    | none =>
      if s.approachOf h = some t && h.releasing && h.stages.all (· = .waiting) then
        (s.cancelTimeRelease h .approachOccupied).testRelease n
      else s

/-- One hold takes the clearing of a track: stage progress (R54) with the sequential test, and the approach
test (R58). -/
def State.holdTrackCleared (t n : Nat) (s : State) : State :=
  match s.hold? n with
  | none => s
  | some h =>
    match (s.holdingOf h).findIdx? (· == t) with
    | some i =>
      let next := ((s.holdingOf h)[i + 1]?).any fun u => !s.clear u
      (s.stageDone t i (h.trackCleared i next)).testSequential n
    | none => if s.approachOf h = some t then s.testApproach n else s

/-- The RHU takes *becomes effectively occupied*, each hold on its own (03 section 3.4), in list order (DESIGN
CHOICE log 13). -/
def State.holdsTrackOccupied (t : Nat) (s : State) : State :=
  (s.holds.map (·.signal)).foldl (fun s n => s.holdTrackOccupied t n) s

/-- The RHU takes *becomes effectively clear*, in list order as well (DESIGN CHOICE log 13). -/
def State.holdsTrackCleared (t : Nat) (s : State) : State :=
  (s.holds.map (·.signal)).foldl (fun s n => s.holdTrackCleared t n) s

/-! ### Timers, modes and start-up -/

/-- The countdown of a hold in TIMING expires (R61). -/
def State.countdownExpires (n : Nat) (s : State) : State :=
  match s.hold? n with
  | none => s
  | some h =>
    if h.state = .timing && due h.timer s.now then
      (s.putHold { h with state := .ready, timer := some (s.now + 30000) }).emit .holdReady n []
    else s

/-- HOLD: every hold in TIMING or READY returns to its prior state (R67), in list order (DESIGN CHOICE log 13). -/
def State.holdsOnHold (s : State) : State :=
  (s.holds.filter Hold.releasing).foldl (fun s h => s.cancelTimeRelease h .partHeld) s

/-- The start-up hold rule for one signal lever (R68). -/
def State.startUpHold (n : Nat) (s : State) : State :=
  match s.conf.holdDef n with
  | none => s
  | some d =>
    if s.standing n ≠ .normal then s.createHold n d .active (s.standing n = .reverse) .startUp
    else if (d.approach.any fun t => !s.clear t) || d.holding.any fun t => !s.clear t then
      s.createHold n d .irregular false .startUp
    else s

/-- The start-up hold rule, in lever order (R68). -/
def State.startUpHolds (s : State) : State := (Tab.numbers 24).foldl (fun s n => s.startUpHold n) s

end Sys2Proof.Machine
end

