-- ==== Sys2Proof/Machine/Register.lean ====
section
/-!
DEFINITION. The Train Record Unit (Chapters 7 and 8): the record pool, the code events, completion, the
attribution of occupations and head clearing.
-/

namespace Sys2Proof.Machine

/-! ### Collections and lists -/

/-- The record is in the open list (R128). -/
def State.isOpen (s : State) (r : Nat) : Bool := s.register.opened.contains r
/-- The record is in the completed queue (R128). -/
def State.isComplete (s : State) (r : Nat) : Bool := s.register.completed.contains r

/-- The inbound list of a section: the open records whose inbound half names it, in creation order (R131). -/
def State.inboundList (s : State) (x : Nat) : List Nat :=
  s.register.opened.filter fun r => (s.record r).inbound.any (·.sec == x)
/-- The outbound list of a section (R131). -/
def State.outboundList (s : State) (x : Nat) : List Nat :=
  s.register.opened.filter fun r => (s.record r).outbound.any (·.sec == x)

/-- The stage of a record's inbound half, when it has one. -/
def Record.inStage (x : Record) : Option HalfStage := x.inbound.map (·.stage)
/-- The stage of a record's outbound half, when it has one. -/
def Record.outStage (x : Record) : Option HalfStage := x.outbound.map (·.stage)

/-- The oldest inbound record of a section that holds it: OFFERED, ACCEPTED or ENTERING (R79, R86, R93, R138). -/
def State.holdingRecord (s : State) (x : Nat) : Option Nat :=
  (s.inboundList x).find? fun r => match (s.record r).inStage with
    | some .offered | some .accepted | some .entering => true
    | _ => false

/-- The link of a line to the offer it owes (R134). -/
def State.owedOffer (s : State) (l : Nat) : Option Nat := s.register.owedOffer.get none l
/-- The link of a line to the offer it has outstanding (R134). -/
def State.outstandingOffer (s : State) (l : Nat) : Option Nat := s.register.outstandingOffer.get none l

/-- Set the owed offer link of a line. -/
def State.linkOwed (l : Nat) (r : Option Nat) (s : State) : State :=
  s.putRegister { s.register with owedOffer := s.register.owedOffer.put l r }
/-- Set the outstanding offer link of a line. -/
def State.linkOutstanding (l : Nat) (r : Option Nat) (s : State) : State :=
  s.putRegister { s.register with outstandingOffer := s.register.outstandingOffer.put l r }

/-! ### Writing into a record -/

/-- A record in which a time has just been written: its clock unset flag is set when the clock is unset (R129). -/
def State.timed (s : State) (x : Record) : Record := { x with unset := x.unset || s.control.clock.unset }

/-- A half moved to a stage, with the time of the new stage; CANCELLED has no time of its own (R130). -/
def Half.moveTo (h : Half) (stage : HalfStage) (t : Stamp) : Half :=
  match stage with
  | .offered => { h with stage := .offered, offeredAt := some t }
  | .accepted => { h with stage := .accepted, acceptedAt := some t }
  | .entering => { h with stage := .entering, enteringAt := some t }
  | .atTrack => { h with stage := .atTrack, atTrackAt := some t }
  | .ended => { h with stage := .ended, endedAt := some t }
  | .cancelled => { h with stage := .cancelled }

/-- Move the inbound half of a record to a stage. -/
def State.moveInbound (r : Nat) (stage : HalfStage) (s : State) : State :=
  let x := s.record r
  let x := { x with inbound := x.inbound.map fun h => h.moveTo stage s.stamp }
  s.putRecord r (if stage = .cancelled then x else s.timed x)

/-- Move the outbound half of a record to a stage. -/
def State.moveOutbound (r : Nat) (stage : HalfStage) (s : State) : State :=
  let x := s.record r
  let x := { x with outbound := x.outbound.map fun h => h.moveTo stage s.stamp }
  s.putRecord r (if stage = .cancelled then x else s.timed x)

/-- What a RECORD notice (*stage*) carries beyond the record's fields: gate failed, the cancellation time,
the track and trail of a move made by the following of trains (R137, R139, R140, R151, R155; DESIGN CHOICE log 15). -/
def stageExtra (gateFailed : Bool) (cancelAt : Option Stamp) (track : Option (Nat × List Nat)) : List Byte :=
  bFlag gateFailed ++ bOpt bStamp cancelAt ++ bOpt (fun k => b1 k.1 ++ bList b1 k.2) track

/-! ### Allocation (R132, R133) -/

/-- The record is cleared and becomes the newest of the open list. -/
def State.openRecord (r : Nat) (s : State) : State :=
  s.putRegister { s.register with
    records := s.register.records.put r {}
    opened := s.register.opened ++ [r] }

/-- A record is allocated from the top of the free list (R132), or reclaimed from the head of the completed
queue (R133); none when all are open. -/
def State.allocate (s : State) : Option (Nat × State) :=
  match s.register.free with
  | r :: rest =>
    let s := (s.putRegister { s.register with free := rest }).openRecord r
    if rest.length = 4 && s.register.armed then
      let s := s.raise .registerLow 0
      let s := s.emit .recRegisterLow 0
        (b1 s.register.free.length ++ b1 s.register.opened.length ++ b1 s.register.completed.length)
      some (r, s.putRegister { s.register with armed := false })
    else some (r, s)
  | [] =>
    match s.register.completed with
    | r :: rest =>
      let s := (s.putRegister { s.register with
        completed := rest
        overwritten := satAdd 65535 s.register.overwritten }).openRecord r
      some (r, s.emit .recOverwritten r [])
    | [] => none

/-! ### Completion (R142, R143, R144) -/

/-- A half that is absent or in a final stage (R142). -/
def halfDone : Option Half → Bool
  | none => true
  | some h => h.stage = .ended || h.stage = .cancelled

/-- Every half that is present is CANCELLED (R142). -/
def Record.allCancelled (x : Record) : Bool :=
  x.inbound.all (·.stage = .cancelled) && x.outbound.all (·.stage = .cancelled)

/-- A record completes with a reason (R142): it moves to the tail of the completed queue, its links and its
head grace are cleared. -/
def State.complete (r : Nat) (reason : Reason) (s : State) : State :=
  let g := s.register
  let unlink : Option Nat → Option Nat := fun k => if k = some r then none else k
  (s.putRegister { g with
    records := g.records.put r { s.record r with reason := some reason, grace := none }
    opened := g.opened.filter (· != r)
    completed := g.completed ++ [r]
    owedOffer := g.owedOffer.mapAll unlink
    outstandingOffer := g.outstandingOffer.mapAll unlink }).emit .recCompleted r (b1 reason.ord)

/-- The completion test after a move into a final stage (R142). -/
def State.completeIfDone (r : Nat) (s : State) : State :=
  let x := s.record r
  if halfDone x.inbound && halfDone x.outbound then
    s.complete r (if x.allCancelled then .cancelled else .finished)
  else s

/-- A complete record is collected onto the top of the free list (R143). -/
def State.collect (r : Nat) (s : State) : State :=
  let g := s.register
  (s.putRegister { g with
    records := g.records.put r {}
    completed := g.completed.filter (· != r)
    free := r :: g.free
    armed := g.armed || g.free.length = 8 }).emit .recCollected r []

/-! ### Acceptance (R135, R136) -/

/-- An inbound half becomes ACCEPTED. -/
def State.acceptInbound (r : Nat) (s : State) : State := (s.moveInbound r .accepted).emit .recAccepted r []

/-- An outbound half becomes ACCEPTED. -/
def State.acceptOutbound (r : Nat) (s : State) : State := (s.moveOutbound r .accepted).emit .recAccepted r []

/-- An accepting section arrives at LC by the gate of R76: the oldest OFFERED record of its inbound list whose
repetition has been given becomes ACCEPTED (R135). -/
def State.acceptAtLC (x : Nat) (s : State) : State :=
  match (s.inboundList x).find? fun r => (s.record r).inbound.any fun h => h.stage = .offered && h.item with
  | some r => s.acceptInbound r
  | none => s

/-- A repeater transition of an offering section into LC (R136). -/
def State.acceptAtRepeater (x : Nat) (s : State) : State :=
  match (s.outboundList x).find? fun r => (s.record r).outbound.any fun h => h.stage = .offered && h.item with
  | some r => s.acceptOutbound r
  | none => s

/-- A repetition is taken on a line (R134, R135): a repetition of an OFFER gives the linked record its
repetition, and accepts it when its section is at LC. Every repetition clears the link. -/
def State.repetitionGiven (l : Nat) (code : Code) (s : State) : State :=
  let link := s.owedOffer l
  let s := s.linkOwed l none
  match link with
  | none => s
  | some r =>
    match (s.record r).inbound with
    | none => s
    | some h =>
      if code.entry.any (·.2 = .offer) && s.isOpen r && h.stage = .offered then
        let s := s.putRecord r { s.record r with inbound := some { h with item := true } }
        if (s.sec h.sec).acc.state = .lc then s.acceptInbound r else s
      else s

/-- An acknowledgement is taken on a line (R134, R136). -/
def State.acknowledged (l : Nat) (code : Code) (s : State) : State :=
  let link := s.outstandingOffer l
  let s := s.linkOutstanding l none
  match link with
  | none => s
  | some r =>
    match (s.record r).outbound with
    | none => s
    | some h =>
      if code.entry.any (·.2 = .offer) && s.isOpen r && h.stage = .offered then
        let s := s.putRecord r { s.record r with outbound := some { h with item := true } }
        if (s.sec h.sec).off.repeater = .lc then s.acceptOutbound r else s
      else s

/-! ### Code events -/

/-- What a code event asks of the register: its line, direction, code, the section that R91 chooses, and for
a manual OUT_OF_SECTION whether the gate of R93 failed. -/
structure CodeEvent where
  line : Nat
  sent : Bool
  code : Code
  sec : Option Nat
  gateFailed : Bool := false
  deriving DecidableEq, Repr

/-- A code event that finds no record in the stage it needs (R141); `switchedOut` is the cause of R169. -/
def State.irregularCode (e : CodeEvent) (sought : HalfStage) (switchedOut : Bool) (s : State) : State :=
  s.emit .recIrregularCode 0 (b1 e.line ++ bFlag e.sent ++ bCode e.code ++ bOpt b1 e.sec ++ b1 sought.ord ++
    bFlag e.gateFailed ++ bFlag switchedOut)

/-- No record can be made (R133). The notice *unregistered* is sent each time (R83, DESIGN CHOICE log 34). -/
def State.registerFull (e : CodeEvent) (x : Nat) (s : State) : State :=
  let s :=
    if e.sent then s
    else (s.putAcc x { (s.sec x).acc with unregistered := true }).emit .secUnregistered x []
  s.emit .recRegisterFull 0 (b1 e.line ++ bCode e.code ++ b1 x)

/-- A received OFFER code event on accepting section `x` (R135). Its *created* notice has the mark of R136
clear (DESIGN
CHOICE log 15). -/
def State.receivedOffer (e : CodeEvent) (cls x : Nat) (s : State) : State :=
  let regular := (s.sec x).acc.state = .lb
  match s.allocate with
  | none => s.registerFull e x
  | some (r, s) =>
    let half := Half.moveTo { sec := x } .offered s.stamp
    let rec' : Record := s.timed { cls := some cls, inbound := some half, irregular := !regular }
    ((s.putRecord r rec').linkOwed e.line (some r)).emit .recCreated r (bFlag false)

/-- The record takes an outbound half on section `x` (R136). -/
def State.attachOutbound (e : CodeEvent) (x r : Nat) (s : State) : State :=
  let half := Half.moveTo { sec := x } .offered s.stamp
  (s.putRecord r (s.timed { s.record r with outbound := some half })).linkOutstanding e.line (some r)

/-- The trail that a record made by a sent OFFER begins with: the starting berth track when it is effectively
occupied and no open record's head (R136, choice 3). -/
def State.berthTrail (s : State) (x : Nat) : List Nat :=
  match (s.conf.sec x).berth with
  | none => []
  | some t =>
    if !s.clear t && s.register.opened.all fun r => (s.record r).trail.getLast? ≠ some t then [t] else []

/-- A sent OFFER code event on offering section `x` (R136), with the record that SEND_BELL named. A record is named by
its number, also where that number has come to another train since (DESIGN CHOICE log 39). The mark *named record
unavailable* stands in the notices *outbound attached* and *created*, and not in *register full* (DESIGN CHOICE
log 38). -/
def State.sentOffer (e : CodeEvent) (x : Nat) (named : Option Nat) (s : State) : State :=
  let byName := named.filter fun r => s.isOpen r && (s.record r).outbound.isNone
  let byPair := s.register.opened.find? fun r =>
    (s.record r).outbound.isNone && (s.conf.sec x).pair.any fun p => (s.record r).inbound.any (·.sec == p)
  let unavailable := named.isSome && byName.isNone
  match byName <|> byPair with
  | some r => (s.attachOutbound e x r).emit .recOutboundAttached r (bFlag unavailable)
  | none =>
    let trail := s.berthTrail x
    match s.allocate with
    | none => s.registerFull e x
    | some (r, s) =>
      ((s.putRecord r { s.record r with trail := trail }).attachOutbound e x r).emit .recCreated r (bFlag unavailable)

/-- The record moves its inbound half and reports the stage. -/
def State.stageInbound (r : Nat) (stage : HalfStage) (gateFailed : Bool) (s : State) : State :=
  let cancelAt := if stage = .cancelled then some s.stamp else none
  (s.moveInbound r stage).emit .recStage r (stageExtra gateFailed cancelAt none)

/-- The record moves its outbound half and reports the stage. -/
def State.stageOutbound (r : Nat) (stage : HalfStage) (s : State) : State :=
  let cancelAt := if stage = .cancelled then some s.stamp else none
  (s.moveOutbound r stage).emit .recStage r (stageExtra false cancelAt none)

/-- The record of an accepting section that a code acts on: the oldest in a stage (R131). -/
def State.oldestInbound (s : State) (x : Nat) (stage : HalfStage) : Option Nat :=
  (s.inboundList x).find? fun r => (s.record r).inStage = some stage

/-- The record of an offering section that a code acts on: the oldest in a stage (R131). -/
def State.oldestOutbound (s : State) (x : Nat) (stage : HalfStage) : Option Nat :=
  (s.outboundList x).find? fun r => (s.record r).outStage = some stage

/-- OFFERED or ACCEPTED: the stages that a CANCEL reaches (R140). -/
def cancellable : Option HalfStage → Bool
  | some .offered | some .accepted => true
  | _ => false

/-- A code event on an accepting section: a received ENTERING or CANCEL, or a sent OUT_OF_SECTION (R137, R139,
R140). -/
def State.inboundCode (e : CodeEvent) (x : Nat) (m : Meaning) (s : State) : State :=
  match m with
  | .entering =>
    match s.oldestInbound x .accepted with
    | some r => s.stageInbound r .entering false
    | none => s.irregularCode e .accepted false
  | .outOfSection =>
    match s.oldestInbound x .atTrack with
    | some r =>
      let s := if e.gateFailed then s.putRecord r { s.record r with irregular := true } else s
      (s.stageInbound r .ended e.gateFailed).completeIfDone r
    | none => s.irregularCode e .atTrack false
  | .cancel =>
    match (s.inboundList x).reverse.find? fun r => cancellable (s.record r).inStage with
    | some r => (s.stageInbound r .cancelled false).completeIfDone r
    | none => s.irregularCode e .offered false
  | _ => s

/-- A code event on an offering section: a sent ENTERING or CANCEL, or a received OUT_OF_SECTION. -/
def State.outboundCode (e : CodeEvent) (x : Nat) (m : Meaning) (s : State) : State :=
  match m with
  | .entering =>
    match s.oldestOutbound x .accepted with
    | some r => s.stageOutbound r .entering
    | none => s.irregularCode e .accepted false
  | .outOfSection =>
    match s.oldestOutbound x .atTrack with
    | some r => (s.stageOutbound r .ended).completeIfDone r
    | none => s.irregularCode e .atTrack false
  | .cancel =>
    match (s.outboundList x).reverse.find? fun r => cancellable (s.record r).outStage with
    | some r => (s.stageOutbound r .cancelled).completeIfDone r
    | none => s.irregularCode e .offered false
  | _ => s

/-- The stage that a code of a meaning seeks, for the *irregular code* notice (R141, DESIGN CHOICE log 15). -/
def soughtStage : Meaning → HalfStage
  | .entering => .accepted
  | .outOfSection => .atTrack
  | _ => .offered

/-- The meanings that act on records (R134). -/
def actsOnRecords : Meaning → Bool
  | .offer | .entering | .outOfSection | .cancel => true
  | _ => false

/-- The register takes a code event (R134 to R141, R169). A received one clears both links of the line, a sent
one the outstanding offer link. -/
def State.codeEvent (e : CodeEvent) (cls : Nat) (named : Option Nat) (s : State) : State :=
  let s := s.linkOutstanding e.line none
  let s := if e.sent then s else s.linkOwed e.line none
  match e.code.entry with
  | none => s
  | some (_, m) =>
    if !actsOnRecords m then s
    else match e.sec with
    | none => s.irregularCode e (soughtStage m) false
    | some x =>
      if m = .offer then
        if s.control.box = .switchedOut then s.irregularCode e .offered true
        else if e.sent then s.sentOffer e x named
        else s.receivedOffer e cls x
      else if decide (m = .outOfSection) == e.sent then s.inboundCode e x m
      else s.outboundCode e x m

/-! ### Trails and attribution (Chapter 8) -/

/-- The head of a record: the last entry of its trail (R147). -/
def Record.head (x : Record) : Option Nat := x.trail.getLast?

/-- A track appended to a trail (R147). -/
def Record.append (x : Record) (t : Nat) : Record :=
  if x.head = some t then x
  else if 16 ≤ x.trail.length then { x with trail := x.trail.tail ++ [t], truncated := true }
  else { x with trail := x.trail ++ [t] }

/-- The record is followed (R148). -/
def State.followed (s : State) (r : Nat) : Bool :=
  let x := s.record r
  s.isOpen r && !x.trail.isEmpty && x.outbound.all fun h => h.stage ≠ .atTrack && h.stage ≠ .ended

/-- A followed record reaches a track: it is the head, or in the head's neighbour list (R150). -/
def State.reaches (s : State) (r t : Nat) : Bool :=
  (s.record r).head.any fun h => h == t || (s.conf.track h).neighbours.contains t

/-- The record is a candidate for an occupation of a track (R150). -/
def State.candidate (s : State) (t r : Nat) : Bool :=
  s.followed r && s.reaches r t &&
    ((s.record r).head.any (fun h => !s.clear h) || (s.record r).grace.isSome || (s.record r).lost)

/-- Attribution to the oldest candidate (R150). The track, the trail and the markers go behind the flags of the record
(R162), and the markers *ambiguous* and *truncated* speak of this attribution alone, while the flags of the record carry
the latched ones (DESIGN CHOICE log 15). -/
def State.attributeTo (t r : Nat) (ambiguous : Bool) (s : State) : State :=
  let x := s.record r
  let reoccupied := x.head = some t
  let y := { (x.append t) with grace := none, ambiguous := x.ambiguous || ambiguous }
  let truncated := !reoccupied && decide (16 ≤ x.trail.length)
  (s.putRecord r y).emit .recAttributed r
    (b1 t ++ bList b1 y.trail ++ bFlag ambiguous ++ bFlag truncated ++ bFlag reoccupied)

/-- The sections of a role whose entry track is `t` (R151). -/
def State.entrySections (s : State) (t : Nat) : List Nat :=
  (Tab.numbers 6).filter fun x => (s.conf.sec x).role = .accepting && (s.conf.sec x).entry == t
/-- The offering sections whose starting berth track is `t` (R152). -/
def State.berthSections (s : State) (t : Nat) : List Nat :=
  (Tab.numbers 6).filter fun x => (s.conf.sec x).role = .offering && (s.conf.sec x).berth = some t

/-- The oldest record at ENTERING of the accepting sections entered at `t` (R151). -/
def State.arriving (s : State) (t : Nat) : Option Nat :=
  s.register.opened.find? fun r => (s.record r).inbound.any fun h => h.stage = .entering && (s.entrySections t).contains h.sec

/-- The oldest record that qualifies under the starting berth rule: the oldest of its section's outbound list,
with an empty trail (R152). -/
def State.berthing (s : State) (t : Nat) : Option Nat :=
  s.register.opened.find? fun r => (s.record r).trail.isEmpty &&
    (s.berthSections t).any fun x => (s.outboundList x).head? = some r

/-- Attribution of an occupation of a RUNNING track, by the first rule that applies (R149 to R153). A grace
that runs is
stopped under R150 alone (R158, DEDUCED log 23). In its notices the trail stands behind the track (R162, DESIGN CHOICE
log 15). -/
def State.attribute (t : Nat) (s : State) : State :=
  match s.register.opened.filter (s.candidate t) with
  | r :: others => s.attributeTo t r !others.isEmpty
  | [] =>
    match s.arriving t with
    | some r =>
      let s := s.putRecord r ((s.record r).append t)
      let s := s.moveInbound r .atTrack
      s.emit .recStage r (stageExtra false none (some (t, (s.record r).trail)))
    | none =>
      match s.berthing t with
      | some r =>
        let s := s.putRecord r ((s.record r).append t)
        s.emit .recBerth r (b1 t ++ bList b1 (s.record r).trail)
      | none => (s.emit .trackUnexpected t []).raise .unexpectedOccupation t

/-! ### Head clearing (R154 to R158) -/

/-- The outbound half moves to DEPARTED and the record stops being followed (R155, R158). The trail stands
behind the exit
track in its notice (R162, DESIGN CHOICE log 15). -/
def State.depart (r t : Nat) (s : State) : State :=
  let s := s.putRecord r { s.record r with grace := none }
  let s := s.moveOutbound r .atTrack
  s.emit .recStage r (stageExtra false none (some (t, (s.record r).trail)))

/-- The record's outbound half is at ENTERING on an offering section whose exit track is `t` (R155). A section of
another role has no exit track and no repeater (R70). -/
def State.leavingAt (s : State) (r t : Nat) : Option Nat :=
  match (s.record r).outbound with
  | some h =>
    if h.stage = .entering && (s.conf.sec h.sec).role = .offering && (s.conf.sec h.sec).exit == t then some h.sec
    else none
  | none => none

/-- The entry before the head of a trail (R156). -/
def Record.beforeHead (x : Record) : Option Nat := x.trail.dropLast.getLast?

/-- Head clearing of one record whose head `t` becomes effectively clear: departure, set-back or head grace
(R155 to R157). A grace already running is kept (R154, DEDUCED log 23). The trail stands behind the new head in the
notice *set back* (R162, DESIGN CHOICE log 15). -/
def State.headClears (t : Nat) (s : State) (r : Nat) : State :=
  let x := s.record r
  if (s.leavingAt r t).any fun o => (s.sec o).off.repeater = .tol then s.depart r t
  else
    match x.beforeHead with
    | some p =>
      if !s.clear p then
        let y := x.append p
        (s.putRecord r y).emit .recSetBack r (b1 p ++ bList b1 y.trail)
      else if x.grace.isSome then s
      else s.putRecord r { x with grace := some (s.now + (s.conf.track t).grace) }
    | none =>
      if x.grace.isSome then s
      else s.putRecord r { x with grace := some (s.now + (s.conf.track t).grace) }

/-- The TRU takes *becomes effectively clear*: each followed record whose head is the track (R154). -/
def State.headsClear (t : Nat) (s : State) : State :=
  (s.register.opened.filter fun r => s.followed r && (s.record r).head = some t).foldl (State.headClears t) s

/-- A repeater transition of an offering section into TOL: departure on the repeater (R158). -/
def State.departOnRepeater (x : Nat) (s : State) : State :=
  (s.register.opened.filter fun r => s.followed r &&
    (s.record r).outbound.any (fun h => h.sec == x && h.stage = .entering) &&
    (s.record r).head = some (s.conf.sec x).exit && s.clear (s.conf.sec x).exit).foldl
      (fun s r => s.depart r (s.conf.sec x).exit) s

end Sys2Proof.Machine
end

