-- ==== Sys2Proof/Machine/Sections.lean ====
section
/-!
DEFINITION. The Block Section Unit (Chapter 4): instrument moves and their gates, the arrival proof, the
fouled clearing point, the repeater and the line clear release.
-/

namespace Sys2Proof

/-- The switch position that the contacts show: the one whose contact alone is made (R75). -/
def Contacts.position (c : Contacts) : Option Machine.LineState :=
  match c.lb, c.lc, c.tol with
  | true, false, false => some .lb
  | false, true, false => some .lc
  | false, false, true => some .tol
  | _, _, _ => none

end Sys2Proof

namespace Sys2Proof.Machine

/-- The causes of a *state changed* notice (R94), and of a *start* notice. -/
inductive SecCause where
  | switch | clearingFouled | restore | through
  deriving DecidableEq, Repr

/-- A cause by its place in R94. -/
def SecCause.ord : SecCause → Nat
  | .switch => 0 | .clearingFouled => 1 | .restore => 2 | .through => 3

/-- A section of role ACCEPTING in the configuration in force. -/
def State.isAccepting (s : State) (x : Nat) : Bool := isSection x && decide ((s.conf.sec x).role = .accepting)
/-- A section of role OFFERING in the configuration in force. -/
def State.isOffering (s : State) (x : Nat) : Bool := isSection x && decide ((s.conf.sec x).role = .offering)

/-- The state as a switch position, for LB, LC and TOL (R75). -/
def AccState.position : AccState → Option LineState
  | .lb => some .lb
  | .lc => some .lc
  | .tol => some .tol
  | .through => none

/-! ### Entry to TOL (R77) -/

/-- An accepting section entering TOL: the arrival proof is cleared and the clearing occupation seen takes
`seen` (R77). -/
def Accepting.enterTol (a : Accepting) (seen : Bool) : Accepting := { a with state := .tol, proof := false, seen := seen }

/-! ### Gates (R76 to R79) -/

/-- Why a gate refuses: the condition's place in its rule, and for R79 the record that fails it. -/
structure GateFail where
  condition : Nat
  record : Option Nat := none
  deriving DecidableEq, Repr

/-- The gate from LB to LC (R76). -/
def State.gateToLC (s : State) (x : Nat) : Option GateFail :=
  let c := s.conf.sec x
  if s.control.mode ≠ .running then some { condition := 1 }
  else if s.control.box ≠ .opened then some { condition := 2 }
  else if s.standing c.home ≠ .normal then some { condition := 3 }
  else if !s.clear c.clearing then some { condition := 4 }
  else if !s.clear c.entry then some { condition := 5 }
  else none

/-- The gate from TOL to LB (R79). -/
def State.gateToLB (s : State) (x : Nat) : Option GateFail :=
  if !(s.sec x).acc.proof then some { condition := 1 }
  else (s.holdingRecord x).map fun r => { condition := 2, record := some r }

/-- The gate of a move to a different position; none when it passes. -/
def State.gate (s : State) (x : Nat) (dest : LineState) : Option GateFail :=
  match (s.sec x).acc.state, dest with
  | .lb, .lc => s.gateToLC x
  | .lc, .lb => if (s.sec x).acc.entering then some { condition := 1 } else none
  | .tol, .lb => s.gateToLB x
  | .tol, .lc => some { condition := 1 }
  | _, _ => none

/-- A move that has passed its gate (R76 to R79). The arrival at LC accepts an offered train (R135), whose RECORD notice
stands before the SECTION notice *state changed*, as R74 lists the two (R192). -/
def State.moveSection (x : Nat) (dest : LineState) (s : State) : State :=
  let a := { (s.sec x).acc with disagreement := false }
  match dest with
  | .lb =>
    (s.putAcc x { a with state := .lb, assumed := false, unregistered := false }).emit .secStateChanged x
      (b1 SecCause.switch.ord)
  | .lc =>
    ((s.putAcc x { a with state := .lc, entering := false }).acceptAtLC x).emit .secStateChanged x (b1 SecCause.switch.ord)
  | .tol =>
    (s.putAcc x (a.enterTol (!s.clear (s.conf.sec x).clearing))).emit .secStateChanged x (b1 SecCause.switch.ord)

/-- A move request to a position, in RUNNING or in HELD entered by HOLD (R75). The move that *disagreement* carries is
the state left and the position asked for (DESIGN CHOICE log 15). -/
def State.moveRequest (x : Nat) (dest : LineState) (s : State) : State :=
  let a := (s.sec x).acc
  match a.state.position with
  | none => s
  | some at_ =>
    if at_ = dest then
      if a.disagreement then (s.putAcc x { a with disagreement := false }).emit .secAgrees x [] else s
    else
      match s.gate x dest with
      | none => s.moveSection x dest
      | some f =>
        (s.putAcc x { a with disagreement := true }).emit .secDisagreement x
          (b1 at_.ord ++ b1 dest.ord ++ b1 f.condition ++ bOpt b1 f.record)

/-- The instrument switch takes its contacts: a change of position is a move request (R75). In THROUGH, in the
start interval and in HELD with configuration invalid the position follows and no request is taken (R85, R167). -/
def State.switchMoves (x : Nat) (s : State) : State :=
  match (s.contacts x).position with
  | none => s
  | some p =>
    let a := (s.sec x).acc
    if a.switch = p then s
    else
      let s := s.putAcc x { a with switch := p }
      if s.live && s.isAccepting x then s.moveRequest x p else s

/-! ### The clearing track (R81, R82) -/

/-- The clearing point is fouled (R82). -/
def State.foul (x : Nat) (s : State) : State :=
  let a := (s.sec x).acc
  let s := s.putAcc x { (a.enterTol true) with disagreement := true }
  ((s.emit .secStateChanged x (b1 SecCause.clearingFouled.ord)).emit .secClearingFouled x []).raise .clearingFouled x

/-- An accepting section's clearing track becomes effectively occupied (R81, R82). -/
def State.clearingOccupied (s : State) (x : Nat) : State :=
  let a := (s.sec x).acc
  match a.state with
  | .tol => s.putAcc x { a with seen := true }
  | .lc => s.foul x
  | _ => s

/-- An accepting section's clearing track becomes effectively clear (R81). The notice is sent when the proof
is newly set (DESIGN CHOICE log 21). -/
def State.clearingCleared (s : State) (x : Nat) : State :=
  let a := (s.sec x).acc
  if a.state = .tol && a.seen && !a.proof then
    (s.putAcc x { a with proof := true }).emit .secArrivalProven x []
  else s

/-- The accepting sections whose clearing track is `t`. -/
def State.clearingSections (s : State) (t : Nat) : List Nat :=
  (Tab.numbers 6).filter fun x => (s.conf.sec x).role = .accepting && (s.conf.sec x).clearing == t

/-- The BSU takes *becomes effectively occupied*. -/
def State.sectionsTrackOccupied (t : Nat) (s : State) : State := (s.clearingSections t).foldl State.clearingOccupied s
/-- The BSU takes *becomes effectively clear*. -/
def State.sectionsTrackCleared (t : Nat) (s : State) : State := (s.clearingSections t).foldl State.clearingCleared s

/-! ### The repeater and the release (R73, R87 to R89) -/

/-- The line clear release follows a repeater transition from `old` to `dest` (R87, R89). -/
def State.releaseFollows (x : Nat) (old dest : LineState) (s : State) : State :=
  let o := (s.sec x).off
  if dest = .lc then (s.putOff x { o with release := .available }).emit .secReleaseAvailable x []
  else if old = .lc && o.release = .available then
    (s.putOff x { o with release := .none }).emit .secReleaseWithdrawn x []
  else s

/-- A repeater transition is presented to the Train Record Unit (R73): an arrival at LC (R136) or at TOL (R158). -/
def State.recordsTakeRepeater (x : Nat) (dest : LineState) (s : State) : State :=
  match dest with
  | .lc => s.acceptAtRepeater x
  | .tol => s.departOnRepeater x
  | .lb => s

/-- A repeater transition. Its notices stand in the order in which R73 lists its effects (R192): those of the Train
Record Unit, that of the line clear release, and the SECTION notice *repeater*. -/
def State.repeaterTransition (x : Nat) (dest : LineState) (s : State) : State :=
  let o := (s.sec x).off
  (((s.putOff x { o with repeater := dest }).recordsTakeRepeater x dest).releaseFollows x o.repeater dest).emit
    .secRepeater x []

/-- The current on a block line has changed (R73). While repeater transitions are not taken the stability timer is
held (R90). -/
def State.blockLineChanged (x : Nat) (s : State) : State :=
  if s.live && s.isOffering x then s.putOff x { (s.sec x).off with timer := some (s.now + 100) } else s

/-- The starting signal arrives at REVERSE: the release of its section is consumed (R88). -/
def State.consumeRelease (n : Nat) (s : State) : State :=
  if s.invalid then s
  else
    ((Tab.numbers 6).filter fun x => s.isOffering x && (s.conf.sec x).starting == n).foldl (fun s x =>
      let o := (s.sec x).off
      (s.putOff x { o with release := .consumed }).emit .secReleaseConsumed x
        (b1 o.release.ord ++ bFlag (o.release = .none))) s

/-! ### The line driven (R72, R167) -/

/-- The current that the part drives on a section's block line: from the state of an accepting section, from
the mirrored repeater in THROUGH, and none in the start interval and in HELD with configuration invalid. -/
def State.lineCurrent (s : State) (x : Nat) : Current :=
  if s.live && s.isAccepting x then
    match (s.sec x).acc.state with
    | .lb => .negative
    | .lc => .positive
    | .tol => .none
    | .through => (((s.conf.sec x).pair).map fun p => (s.sec p).off.repeater.current).getD .none
  else .none

/-! ### Codes and sections (R91 to R93) -/

/-- The section that a code of a meaning acts on, by its line and direction (R91). -/
def State.sectionFor (s : State) (line : Nat) (sent : Bool) (m : Meaning) : Option Nat :=
  match m, sent with
  | .offer, false | .entering, false | .cancel, false | .outOfSection, true => s.conf.acceptingOf line
  | .offer, true | .entering, true | .cancel, true | .outOfSection, false => s.conf.offeringOf line
  | _, _ => none

/-- A received code event acts on its section: ENTERING sets the entering-since-LC flag (R80), OBSTRUCTION raises
its alert for the line (R92). -/
def State.sectionTakesReceived (line : Nat) (m : Meaning) (s : State) : State :=
  match m with
  | .entering =>
    match s.conf.acceptingOf line with
    | some x => s.putAcc x { (s.sec x).acc with entering := true }
    | none => s
  | .obstruction => s.raise .obstruction line
  | _ => s

/-- The OUT_OF_SECTION gate of a line (R93): the sub-condition and its object, none when it passes. -/
def State.outOfSectionGate (s : State) (line : Nat) : Option (Nat × CondObject) :=
  match s.conf.acceptingOf line with
  | none => none
  | some x =>
    match (s.sec x).acc.state with
    | .lc => some (1, .sec x)
    | .tol =>
      match s.gateToLB x with
      | none => none
      | some f => match f.record with
        | some r => some (3, .record r)
        | none => some (2, .sec x)
    | _ => none

end Sys2Proof.Machine
end

