-- ==== Sys2Proof/Machine/Locking.lean ====
section
/-!
DEFINITION. The locking of the Lever Locking Unit (Chapter 2): terms, the grant conditions, grants and withdrawals,
and the examination of all levers that ends every event which can change an outcome (R29, DESIGN CHOICE log 12); the
events of route holds and sections that can.
-/

namespace Sys2Proof

/-- The levers that a term names (R20). -/
def Term.levers : Term → List Nat
  | .ln n => [n]
  | .lr n => [n]
  | .lnc n m => [n, m]
  | .tc _ => []
  | .lcr _ => []

/-- The levers named by an entry, each once, in the order in which they first appear (R20, R21). -/
def namedBy (e : Entry) : List Nat :=
  (e.flatMap Term.levers).foldl (fun l n => if l.contains n then l else l ++ [n]) []

end Sys2Proof

namespace Sys2Proof.Machine

/-! ### Locking entries (R20) -/

/-- A term is satisfied (R20). -/
def State.termOk (s : State) : Term → Bool
  | .ln n => s.standing n = .normal
  | .lr n => s.standing n = .reverse
  | .lnc n m => s.standing n = .normal || s.standing m = .normal
  | .tc t => s.clear t
  | .lcr x => (s.sec x).off.release = .available

/-- An entry is satisfied when every term is (R20). -/
def State.satisfied (s : State) (e : Entry) : Bool := e.all s.termOk

/-- The first unsatisfied term of an entry with its position, counting from 1 (R30). -/
def State.firstFailing (s : State) (e : Entry) : Option (Nat × Term) :=
  ((e.zipIdx 1).find? fun k => !s.termOk k.1).map fun k => (k.2, k.1)

/-! ### The grant conditions (R27, R30) -/

/-- The first of the grant conditions that fails, with what a *held* or *withdrawn* notice says of it (R30). -/
inductive GrantFail where
  | mode
  | entry (position : Nat) (term : Option Term)
  | hold (signal : Nat)
  | named (lever : Nat)
  | fresh
  deriving DecidableEq, Repr

/-- The failing condition as a notice carries it (R30); the condition number says what follows, so only the term has a
presence byte (DESIGN CHOICE log 15). -/
def GrantFail.bytes : GrantFail → List Byte
  | .mode => b1 1
  | .entry p t => b1 2 ++ b1 p ++ bOpt bTerm t
  | .hold n => b1 3 ++ b1 n
  | .named n => b1 4 ++ b1 n
  | .fresh => b1 5

/-- The direction in which a lever leaves the position of its state. -/
def LeverPhase.direction : LeverPhase → Direction
  | .reverse | .reverseCatch | .reverseFree => .toNormal
  | _ => .toReverse

/-- The grant record of lever `m` holds lever `n`: it names `n` and `m` is another lever in a FREE state or in
TRAVEL (R27 condition 4). -/
def State.names (s : State) (m n : Nat) : Bool :=
  m != n && ((s.lever m).phase.isFree || (s.lever m).phase = .travel) && (s.lever m).grant.any (·.named.contains n)

/-- The lowest-numbered lever whose grant record holds lever `n` (R30). -/
def State.holder (s : State) (n : Nat) : Option Nat := (Tab.numbers 24).find? fun m => s.names m n

/-- Condition 2: the entry that the examination reads is satisfied and the lever is not SPARE (R19, R27, R30). -/
def State.entryFail (s : State) (n : Nat) : Option GrantFail :=
  match s.firstFailing (s.conf.entry n s.set (s.lever n).phase.direction) with
  | some (p, t) => some (.entry p (some t))
  | none => if s.conf.leverKind n = .spare then some (.entry 0 none) else none

/-- The first of conditions 1 to 4 that fails for a lever (R27, R32). -/
def State.keepFail (s : State) (n : Nat) : Option GrantFail :=
  if s.control.mode ≠ .running then some .mode
  else match s.entryFail n with
  | some f => some f
  | none => match s.holdNaming n with
    | some h => some (.hold h)
    | none => (s.holder n).map GrantFail.named

/-- The first of the five conditions that fails for a lever in a CATCH state (R27). -/
def State.grantFail (s : State) (n : Nat) : Option GrantFail :=
  match s.keepFail n with
  | some f => some f
  | none => if (s.lever n).fresh then none else some .fresh

/-! ### Standing positions presented (R23) -/

/-- A lever comes to stand where its new state says: the Route Hold Unit takes a change of standing position,
and an arrival at REVERSE is handed to it and to the Block Section Unit (R23, R35, R40). -/
def State.present (n : Nat) (old : Standing) (arrived : Bool) (s : State) : State :=
  let new := s.standing n
  if new = old then s
  else match new with
  | .normal => s.signalStandsNormal n
  | .reverse => if arrived then (s.signalArrivesReverse n).consumeRelease n else s.signalStandsReverse n
  | .nowhere => s

/-- A lever takes a new state with a LEVER notice, and its standing position is presented. -/
def State.moveLever (n : Nat) (l : Lever) (e : NoticeEvent) (extra : List Byte) (arrived : Bool) (s : State) : State :=
  ((s.putLever n l).emit e n extra).present n (s.standing n) arrived

/-! ### Grants and withdrawals -/

/-- The FREE state of a lever's position. -/
def LeverPhase.freed : LeverPhase → LeverPhase
  | .normalCatch => .normalFree
  | .reverseCatch => .reverseFree
  | p => p

/-- The CATCH state of a lever's position. -/
def LeverPhase.caught : LeverPhase → LeverPhase
  | .normal | .normalFree => .normalCatch
  | .reverse | .reverseFree => .reverseCatch
  | p => p

/-- The position state with the catch down. -/
def LeverPhase.seated : LeverPhase → LeverPhase
  | .normalCatch | .normalFree => .normal
  | .reverseCatch | .reverseFree => .reverse
  | p => p

/-- A lever in a CATCH state is granted its release (R27, R28). -/
def State.grantLever (n : Nat) (s : State) : State :=
  let l := s.lever n
  let dir := l.phase.direction
  let record : Grant := ⟨dir, s.set, namedBy (s.conf.entry n s.set dir)⟩
  s.moveLever n { l with phase := l.phase.freed, solenoid := true, grant := some record } .leverReleased [] false

/-- A release is withdrawn with its failing condition (R32). -/
def State.withdraw (n : Nat) (f : GrantFail) (s : State) : State :=
  let l := s.lever n
  s.moveLever n { l with phase := l.phase.caught, solenoid := false, grant := none } .leverWithdrawn f.bytes false

/-- The levers in a FREE state whose conditions fail now, in lever order, each with its failing condition. -/
def State.failing (s : State) : List (Nat × GrantFail) :=
  (Tab.numbers 24).filterMap fun n =>
    if (s.lever n).phase.isFree then (s.keepFail n).map fun f => (n, f) else none

/-- Every failing release is withdrawn (R32, DESIGN CHOICE log 12). -/
def State.withdrawPass (s : State) : State := s.failing.foldl (fun s k => s.withdraw k.1 k.2) s

/-- The levers in a CATCH state for which every condition holds now, in lever order (R29). -/
def State.grantable (s : State) : List Nat :=
  (Tab.numbers 24).filter fun n => (s.lever n).phase.isCatch && (s.grantFail n).isNone

/-- Examination of all levers: failing releases are withdrawn, then one grantable lever is granted, again and
again while there is one; the choice among several is free (R29, R31, DESIGN CHOICE log 11, DESIGN CHOICE log 12). -/
def State.settleLevers : Nat → State → State
  | 0, s => s.withdrawPass
  | fuel + 1, s =>
    let s := s.withdrawPass
    match s.grantable with
    | [] => s
    | [n] => State.settleLevers fuel (s.grantLever n)
    | n :: m :: rest =>
      let l := n :: m :: rest
      let k := (l[Config.grantChoice s.choices % l.length]?).getD n
      State.settleLevers fuel (State.grantLever k { s with choices := s.choices + 1 })

/-- The notices *removed* of the event stand behind its others: a hold's removal is reported after the examination of
the levers it held (R59). -/
def State.removalsLast (s : State) : State :=
  { s with emitted := s.emitted.filter (·.event ≠ .holdRemoved) ++ s.emitted.filter (·.event = .holdRemoved) }

/-- The examination that ends an event of R29. Without LNC terms a lever is granted at most once in an event, so 48
rounds are more than enough; where LNC terms make grants and withdrawals chase each other the rules state no end,
and the examination ends after 48 rounds (DESIGN CHOICE log 12). -/
def State.settle (s : State) : State := (s.settleLevers 48).removalsLast

/-! ### Events of holds and sections that end with an examination -/

/-- The ready window of a hold in READY lapses (R63). -/
def State.readyLapses (n : Nat) (s : State) : State :=
  match s.hold? n with
  | none => s
  | some h =>
    if h.state = .ready && due h.timer s.now then
      (((s.putHold h.backToPrior).raise .releaseLapsed n).emit .holdLapsed n []).testRelease n |>.settle
    else s

/-- The stability timer expires (R73). -/
def State.stabilityExpires (x : Nat) (s : State) : State :=
  let o := (s.sec x).off
  if s.live && s.isOffering x && due o.timer s.now then
    let s := s.putOff x { o with timer := none }
    if s.rawReading x ≠ o.repeater then (s.repeaterTransition x (s.rawReading x)).settle else s
  else s

end Sys2Proof.Machine
end

