-- ==== Sys2Proof/Machine/Tracks.lean ====
section
/-!
DEFINITION. The Track Circuit Unit (Chapter 1): the filter, the flicker count, the two marks, the events of
R14 with their consumers, and the expiry of a head grace (R159).
-/

namespace Sys2Proof

/-- The flicker limit of a flicker mode, 2 to the power k; none in OFF and EACH (R1). -/
def FlickerMode.limit? : FlickerMode → Option Nat
  | .limit k => some (2 ^ k)
  | _ => none

end Sys2Proof

namespace Sys2Proof.Machine

/-! ### The events of R14 -/

/-- *Becomes effectively occupied* is presented to its consumers (R14, DESIGN CHOICE log 13). -/
def State.becomesOccupied (t : Nat) (s : State) : State := (s.holdsTrackOccupied t).sectionsTrackOccupied t

/-- *Becomes effectively clear* is presented to its consumers (R14, DESIGN CHOICE log 13). -/
def State.becomesClear (t : Nat) (s : State) : State := ((s.holdsTrackCleared t).sectionsTrackCleared t).headsClear t

/-- The filter is worked: RUNNING or HELD entered by HOLD, and the track is fitted (R3, R7, R18). -/
def State.filtering (s : State) (t : Nat) : Bool := s.live && s.conf.fitted t

/-! ### The filter (R4 to R6) -/

/-- A mark is set: the persistent mark counter is incremented where the mark was absent (R10). -/
def State.countMark (t : Nat) (present : Bool) (s : State) : State := if present then s else s.count (.mark t)

/-- The start of an occupation: a drop in CLEAR (R4). -/
def State.occupationStarts (t : Nat) (s : State) : State :=
  let unmarked := !(s.track t).marked
  let s := s.putTrack t { s.track t with filter := .occupied }
  let s := if unmarked then (s.emit .trackOccupied t []).becomesOccupied t else s
  let s := if (s.conf.track t).kind = .running then s.attribute t else s
  if unmarked then s.settle else s

/-- A flicker: a drop in PICKING, counted according to the flicker mode (R8, R9). -/
def State.flicker (t : Nat) (s : State) : State :=
  let k := { s.track t with filter := .occupied, timer := none }
  match (s.conf.track t).flicker with
  | .off => s.putTrack t k
  | .each => (s.putTrack t { k with flickers := satAdd 255 k.flickers }).emit .trackFlicker t []
  | .limit e =>
    if k.flickers < 2 ^ e then
      if k.flickers + 1 = 2 ^ e then
        let s := s.putTrack t { k with flickers := k.flickers + 1, failed := true }
        ((s.countMark t k.failed).emit .trackFailed t []).raise .trackFailed t
      else s.putTrack t { k with flickers := k.flickers + 1 }
    else s.putTrack t k

/-- A change of the raw input from PICKED to DROPPED (R4). -/
def State.relayDrops (t : Nat) (s : State) : State :=
  if s.filtering t then
    match (s.track t).filter with
    | .clear => s.occupationStarts t
    | .picking => s.flicker t
    | .occupied => s
  else s

/-- A track begins to pick up: the pick-up timer starts with the full delay (R5, R18). -/
def State.beginPicking (t : Nat) (s : State) : State :=
  s.putTrack t { s.track t with filter := .picking, timer := some (s.now + (s.conf.track t).delay) }

/-- A change of the raw input from DROPPED to PICKED (R5). -/
def State.relayPicksUp (t : Nat) (s : State) : State :=
  if s.filtering t && (s.track t).filter = .occupied then s.beginPicking t else s

/-- The pick-up timer expires (R6). -/
def State.pickUpExpires (t : Nat) (s : State) : State :=
  let k := s.track t
  if s.filtering t && k.filter = .picking && due k.timer s.now then
    let s := s.putTrack t { k with filter := .clear, timer := none, flickers := 0 }
    if k.marked then s else ((s.emit .trackClear t []).becomesClear t).settle
  else s

/-! ### The marks (R11, R12) -/

/-- A suspect-mark request from the Train Record Unit (R11). -/
def State.suspectRequest (t : Nat) (s : State) : State :=
  let k := s.track t
  if s.conf.fitted t && !k.suspect then
    let wasClear := s.clear t
    let s := s.putTrack t { k with suspect := true }
    let s := (s.countMark t false).emit .trackSuspect t []
    if wasClear then s.becomesOccupied t else s
  else s

/-- TRACK_RESTORE of a track: the result, with the object of a CONDITIONS reply, and the state after (R12,
DEDUCED log 19). The notice says which marks were cleared as two flags, failed and suspect (DESIGN CHOICE log 15). -/
def State.trackRestore (t : Nat) (s : State) : Result × List Byte × State :=
  let k := s.track t
  if k.filter = .clear then
    let s := s.putTrack t { k with failed := false, suspect := false, flickers := 0 }
    let s := s.emit .trackRestored t (bFlag k.failed ++ bFlag k.suspect)
    (.ok, [], if k.marked then (s.becomesClear t).settle else s)
  else (.conditions, b1 1 ++ bObject (.track t), s)

/-! ### A lost record (R159) -/

/-- The head grace of a record expires (R159). The neighbours are marked, and listed in the notice *lost*, in the order
of the configured neighbour list of the head (DESIGN CHOICE log 13). In that notice the trail stands behind the head
and the tracks marked (R162, DESIGN CHOICE log 15). -/
def State.graceExpires (r : Nat) (s : State) : State :=
  let x := s.record r
  match x.head with
  | some h =>
    if due x.grace s.now then
      let s := s.putRecord r { x with grace := none, lost := true }
      let s := s.raise .trackSuspect h
      let marked := (s.conf.track h).neighbours.filter s.clear
      let s := marked.foldl (fun s t => s.suspectRequest t) s
      (s.emit .recLost r (b1 h ++ bList b1 marked ++ bList b1 x.trail)).settle
    else s
  | none => s

/-! ### Resets and modes (R16 to R18) -/

/-- Every track held in OCCUPIED with its timer stopped and its count 0; the marks kept or cleared (R16, R17). -/
def State.resetTracks (keepMarks : Bool) (s : State) : State :=
  { s with tracks := s.tracks.mapAll fun k => { failed := keepMarks && k.failed, suspect := keepMarks && k.suspect } }

/-- The end of a start interval that ends in RUNNING, for one track (R7, R18). -/
def State.trackStarts (s : State) (t : Nat) : State :=
  if s.conf.fitted t then
    if s.relayPicked t then s.beginPicking t else s
  else s.putTrack t { s.track t with failed := false, suspect := false }

/-- The end of a start interval that ends in RUNNING (R7, R18). -/
def State.tracksStart (s : State) : State := (Tab.numbers 16).foldl State.trackStarts s

end Sys2Proof.Machine
end

