-- ==== Sys2Proof/Machine/Levers.lean ====
section
/-!
DEFINITION. The levers (Chapter 2): the start interval, the events at a position, travel, faults, and CLEAR_STICKY.
-/

namespace Sys2Proof.Machine

/-! ### The start interval (R44) -/

/-- The lever state derived from the inputs in the start interval (R44). -/
def LeverInputs.phase (i : LeverInputs) : LeverPhase :=
  match i.normalMade, i.reverseMade with
  | true, false => if i.catchLifted then .normalCatch else .normal
  | false, true => if i.catchLifted then .reverseCatch else .reverse
  | false, false => .travel
  | true, true => .fault

/-- A lever's state is re-derived at an input change in the start interval (R44). -/
def State.derive (n : Nat) (s : State) : State := s.putLever n { s.lever n with phase := (s.leverInputs n).phase }

/-- The levers at the start of a start interval (R44). -/
def State.resetLevers (keepMarks : Bool) (s : State) : State :=
  { s with levers := Tab.build 24 fun n =>
      { phase := (s.leverInputs n).phase, faultMark := keepMarks && (s.lever n).faultMark } }

/-- One lever at the end of a start interval (R45). -/
def State.leverStarts (s : State) (n : Nat) : State :=
  let l := s.lever n
  s.putLever n { l with
    fresh := !(s.leverInputs n).catchLifted
    timer := if l.phase = .travel then .running (s.now + 10000) else .stopped
    faultMark := l.faultMark || decide (l.phase = .fault) }

/-- The levers at the end of a start interval (R45). -/
def State.leversStart (s : State) : State := (Tab.numbers 24).foldl State.leverStarts s

/-! ### Ends of travel and of FAULT (R35, R36, R38) -/

/-- The one position at which a lever is seated: one detector made, the other open, the catch down (R35). -/
def LeverInputs.seatedAt (i : LeverInputs) : Option LeverPhase :=
  if i.catchLifted then none
  else match i.normalMade, i.reverseMade with
  | true, false => some .normal
  | false, true => some .reverse
  | _, _ => none

/-- The lever at rest in a position state: lock off, no grant record, no travel. -/
def Lever.atRest (l : Lever) (p : LeverPhase) : Lever :=
  { l with phase := p, solenoid := false, grant := none, origin := .none, timer := .stopped }

/-- What an end of travel is called, by origin and position (R35). -/
def travelOutcome (o : Origin) (p : LeverPhase) : NoticeEvent :=
  match o with
  | .none => .leverFound
  | .normal => if p = .reverse then .leverArrived else .leverReturned
  | .reverse => if p = .normal then .leverArrived else .leverReturned

/-- A lever in TRAVEL ends its travel, and a lever in FAULT is found, when it is seated (R35, R38). -/
def State.tryEnd (n : Nat) (s : State) : State :=
  let l := s.lever n
  match (s.leverInputs n).seatedAt with
  | none => s
  | some p =>
    match l.phase with
    | .travel =>
      let e := travelOutcome l.origin p
      (s.moveLever n (l.atRest p) e [] (decide (e = .leverArrived))).settle
    | .fault => (s.moveLever n (l.atRest p) .leverFound [] false).settle
    | _ => s

/-! ### Events at a lever -/

/-- The catch lifts (R24): the release is examined at once, and refused with a *held* notice (R30). -/
def State.catchLifts (n : Nat) (s : State) : State :=
  let l := s.lever n
  if s.control.mode = .start then s.derive n
  else if l.phase = .normal ∨ l.phase = .reverse then
    let s := s.putLever n { l with phase := l.phase.caught }
    match s.grantFail n with
    | none => (s.grantLever n).settle
    | some f => s.emit .leverHeld n f.bytes
  else s

/-- The catch lowers (R24, R36, R38): the fresh-lift flag is set. -/
def State.catchLowers (n : Nat) (s : State) : State :=
  if s.control.mode = .start then s.derive n
  else
    let l := { s.lever n with fresh := true }
    match l.phase with
    | .normalCatch | .reverseCatch => s.putLever n { l with phase := l.phase.seated }
    | .normalFree | .reverseFree => (s.moveLever n (l.atRest l.phase.seated) .leverGivenUp [] false).settle
    | .travel | .fault => (s.putLever n l).tryEnd n
    | .normal | .reverse => s.putLever n l

/-- A lever enters FAULT (R25, R26). -/
def Lever.toFault (l : Lever) : Lever := { l.atRest .fault with faultMark := true }

/-- A forced movement (R25). -/
def State.forcedMovement (n : Nat) (s : State) : State :=
  (((s.putLever n (s.lever n).toFault).count (.forced n)).raise .leverForced n).emit .leverForced n []

/-- A detector opens (R25, R34, R35, R38). -/
def State.detectorOpens (n : Nat) (s : State) : State :=
  let l := s.lever n
  if s.control.mode = .start then s.derive n
  else match l.phase with
  | .normal | .normalCatch | .reverse | .reverseCatch => (s.forcedMovement n).settle
  | .normalFree | .reverseFree =>
    s.moveLever n { l with
      phase := .travel
      origin := if l.phase = .normalFree then .normal else .reverse
      timer := .running (s.now + 10000) } .leverLeft [] false
  | .travel | .fault => s.tryEnd n

/-- A detector makes (R26, R35, R38). -/
def State.detectorMakes (n : Nat) (s : State) : State :=
  let l := s.lever n
  let i := s.leverInputs n
  if s.control.mode = .start then s.derive n
  else if i.normalMade && i.reverseMade then
    if l.phase = .fault then s else (s.moveLever n l.toFault .leverBothDetectors [] false).settle
  else s.tryEnd n

/-- The travel timer expires (R37). -/
def State.travelExpires (n : Nat) (s : State) : State :=
  let l := s.lever n
  match l.timer with
  | .running e =>
    if l.phase = .travel && decide (e ≤ s.now) then
      ((s.putLever n { l with timer := .expired }).emit .leverOverdue n []).raise .travelOverdue n
    else s
  | _ => s

/-! ### Modes and requests -/

/-- HOLD de-energizes every lever in TRAVEL (R43); the FREE levers lose their release at the examination. -/
def State.leversOnHold (s : State) : State :=
  { s with levers := s.levers.mapAll fun l => if l.phase = .travel then { l with solenoid := false } else l }

/-- The fault mark of a lever that is not in FAULT is cleared (R39). -/
def State.clearMark (s : State) (n : Nat) : State :=
  let l := s.lever n
  if l.phase ≠ .fault && l.faultMark then (s.putLever n { l with faultMark := false }).emit .leverMarkCleared n [] else s

/-- CLEAR_STICKY for one lever, or for all (R39, DEDUCED log 19). -/
def State.clearSticky (n : Nat) (s : State) : Result × List Byte × State :=
  if n = 0 then (.ok, [], (Tab.numbers 24).foldl State.clearMark s)
  else if (s.lever n).phase = .fault then (.conditions, b1 1 ++ bObject (.lever n), s)
  else (.ok, [], s.clearMark n)

end Sys2Proof.Machine
end

