-- ==== Sys2Proof/Machine/Switching.lean ====
section
/-!
DEFINITION. The Mode Control's switching of the box (Chapter 9): the through pair, the conditions of SWITCH_OUT
and SWITCH_IN and their effects, the through exchange, and the check at the end of a start interval.
-/

namespace Sys2Proof.Machine

/-! ### The through pair (R163) -/

/-- The line is one of the through pair. -/
def State.inPair (s : State) (l : Nat) : Bool := l == s.conf.switchOut.lineA || l == s.conf.switchOut.lineB

/-- The lines of the through pair, lower-numbered first. -/
def State.pairLines (s : State) : List Nat := (Tab.numbers 3).filter s.inPair

/-- The other line of the pair. -/
def State.otherLine (s : State) (l : Nat) : Nat :=
  if l = s.conf.switchOut.lineA then s.conf.switchOut.lineB else s.conf.switchOut.lineA

/-- The accepting sections of the pair, in number order. -/
def State.pairAccepting (s : State) : List Nat :=
  (Tab.numbers 6).filter fun x => (s.conf.sec x).role = .accepting && s.inPair (s.conf.sec x).line

/-- The offering sections of the pair, in number order. -/
def State.pairOffering (s : State) : List Nat :=
  (Tab.numbers 6).filter fun x => (s.conf.sec x).role = .offering && s.inPair (s.conf.sec x).line

/-- The line is in through relay (R164, R168). -/
def State.inRelay (s : State) (l : Nat) : Bool := s.control.relayOn && s.inPair l

/-! ### Codes -/

/-- Two codes are the same (R120). -/
def Code.same (a b : Code) : Bool := a.outcome ≠ .malformed && b.outcome ≠ .malformed && decide (a.groups = b.groups)

/-- The last completed exchange of a line becomes a code in a direction, at the present time (R125). -/
def State.exchanged (l : Nat) (code : Code) (sent : Bool) (s : State) : State :=
  s.putBell l { s.bell l with exchange := some ⟨code, sent, s.now, s.stamp⟩ }

/-- The through exchange takes a relayed code (R170). The object of *relayed exchange* is the line of the
completing code;
the pending line, that line and the code follow (DESIGN CHOICE log 15). -/
def State.throughExchange (l : Nat) (code : Code) (s : State) : State :=
  match s.control.through with
  | some p =>
    if p.code.same code && l ≠ p.line && s.now ≤ p.deadline then
      (((s.exchanged p.line code false).exchanged l code true).putControl { s.control with through := none }).emit
        .repRelayedExchange l (b1 p.line ++ b1 l ++ bCode code)
    else s.putControl { s.control with
      through := some ⟨code, l, s.now + (s.conf.line (s.otherLine l)).repetitionTimeout⟩ }
  | none => s.putControl { s.control with
      through := some ⟨code, l, s.now + (s.conf.line (s.otherLine l)).repetitionTimeout⟩ }

/-- The deadline of the pending through code passes (R170). Its line is the object of the notice and an item of
it (DESIGN
CHOICE log 15). -/
def State.throughExpires (s : State) : State :=
  match s.control.through with
  | some p =>
    if p.deadline ≤ s.now then
      (s.putControl { s.control with through := none }).emit .repRelayedNotRepeated p.line (b1 p.line ++ bCode p.code)
    else s
  | none => s

/-! ### Conditions (R165, R171) -/

/-- A lever stands in its switch-out position (R163). -/
def State.inPlace (s : State) (n : Nat) : Bool :=
  match s.conf.switchOut.place n, s.standing n with
  | .normal, .normal => true
  | .reverse, .reverse => true
  | .either, .normal => true
  | .either, .reverse => true
  | _, _ => false

/-- The lowest-numbered lever that is not in its switch-out position. -/
def State.misplaced (s : State) : Option Nat := (Tab.numbers 24).find? fun n => !s.inPlace n

/-- A section of the pair reads LB: its state when accepting, its repeater when offering (R165 condition 3). -/
def State.pairSectionBlocked (s : State) (x : Nat) : Bool :=
  if (s.conf.sec x).role = .accepting then (s.sec x).acc.state = .lb else (s.sec x).off.repeater = .lb

/-- The sending side of a line is quiet (R165 condition 7). -/
def State.sendQuiet (s : State) (l : Nat) : Bool :=
  (s.bell l).send.isNone && (s.bell l).man.phase = .idle && (s.bell l).plunger = .off

/-- The last completed exchange of a line is of a meaning and at most 120,000 ms old (R165, R171). -/
def State.noticed (s : State) (m : Meaning) (l : Nat) : Bool :=
  (s.bell l).exchange.any fun e => e.code.entry.any (·.2 = m) && decide (s.now ≤ e.at_ + 120000)

/-- The first condition of SWITCH_OUT that fails, with its object (R165). -/
def State.switchOutFail (s : State) : Option (Nat × CondObject) :=
  if !s.conf.switchOut.may then some (1, .none)
  else if s.control.mode ≠ .running then some (2, .none)
  else match (Tab.numbers 6).find? fun x =>
      ((s.pairAccepting).contains x || (s.pairOffering).contains x) && !s.pairSectionBlocked x with
  | some x => some (3, .sec x)
  | none => match s.register.opened with
    | r :: _ => some (4, .record r)
    | [] => match s.holds with
      | h :: _ => some (5, .lever h.signal)
      | [] => match s.misplaced with
        | some n => some (6, .lever n)
        | none => match s.pairLines.find? fun l => !s.sendQuiet l with
          | some l => some (7, .line l)
          | none => (s.pairLines.find? fun l => !s.noticed .switchOutNotice l).map fun l => (8, .line l)

/-- The first condition of SWITCH_IN that fails, with its object (R171). -/
def State.switchInFail (s : State) : Option (Nat × CondObject) :=
  match s.pairOffering.find? fun x => (s.sec x).off.repeater ≠ .lb || s.rawReading x ≠ .lb with
  | some x => some (1, .sec x)
  | none => match s.misplaced with
    | some n => some (2, .lever n)
    | none => (s.pairLines.find? fun l => !s.noticed .switchInNotice l).map fun l => (3, .line l)

/-! ### Effects (R166, R171, R172) -/

/-- The causes of a MODE notice of a change of box state: a request, or the configuration (R172, DESIGN CHOICE
log 15). -/
def modeCause (configuration : Bool) : List Byte := bFlag configuration

/-- An accepting section moves from LB to THROUGH (R166). -/
def State.toThrough (s : State) (x : Nat) : State :=
  (s.putAcc x { (s.sec x).acc with state := .through, disagreement := false }).emit .secStateChanged x
    (b1 SecCause.through.ord)

/-- A line of the pair as the box switches out: nothing outstanding, nothing owed, no ignored presses (R166). -/
def State.lineSwitchesOut (s : State) (l : Nat) : State :=
  s.putBell l { s.bell l with outstanding := none, owed := none, ignored := 0 }

/-- The box is switched out (R166). -/
def State.doSwitchOut (s : State) : State :=
  let s := (s.putControl { s.control with box := .switchedOut }).putSet .b
  let s := s.pairAccepting.foldl State.toThrough s
  let s := s.putControl { s.control with relayOn := true, through := none }
  let s := s.pairLines.foldl State.lineSwitchesOut s
  s.emit .modeSwitchedOut 0 (b1 s.control.box.ord ++ modeCause false)

/-- The disagreement flag set or cleared by comparing the switch position with the state (R85, R86, R171). -/
def Accepting.compare (a : Accepting) : Accepting := { a with disagreement := decide (a.state.position ≠ some a.switch) }

/-- An accepting section moves from THROUGH to LB (R171). -/
def State.fromThrough (s : State) (x : Nat) : State :=
  let a := Accepting.compare { (s.sec x).acc with state := .lb, assumed := false, unregistered := false }
  (s.putAcc x a).emit .secStateChanged x (b1 SecCause.through.ord)

/-- The relayed stroke of a line is cut (R168). -/
def State.cutRelay (s : State) (l : Nat) : State := s.putBell l { s.bell l with relay := none }

/-- The box is switched in (R171). -/
def State.doSwitchIn (s : State) : State :=
  let s := (s.putControl { s.control with box := .opened }).putSet .a
  let s := s.putControl { s.control with relayOn := false, through := none }
  let s := s.pairLines.foldl State.cutRelay s
  let s := s.pairAccepting.foldl State.fromThrough s
  s.emit .modeSwitchedIn 0 (b1 s.control.box.ord ++ modeCause false)

/-- SWITCH_OUT (R165, R166). -/
def State.switchOut (s : State) : Result × List Byte × State :=
  if s.control.box = .switchedOut || s.invalid then (.refusedState, [], s)
  else match s.switchOutFail with
    | some (k, o) => (.conditions, b1 k ++ bObject o, s)
    | none => (.ok, [], s.doSwitchOut.settle)

/-- SWITCH_IN (R171). -/
def State.switchIn (s : State) : Result × List Byte × State :=
  if s.control.box = .opened || s.invalid then (.refusedState, [], s)
  else match s.switchInFail with
    | some (k, o) => (.conditions, b1 k ++ bObject o, s)
    | none => (.ok, [], s.doSwitchIn.settle)

/-- The accepting sections in THROUGH. -/
def State.throughSections (s : State) : List Nat := (Tab.numbers 6).filter fun x => (s.sec x).acc.state = .through

/-- A section in THROUGH moves to TOL when the box is returned to OPEN by the configuration (R74, R172). -/
def State.throughToTol (s : State) (x : Nat) : State :=
  (s.putAcc x { ((s.sec x).acc.enterTol false) with assumed := true }).emit .secStateChanged x (b1 SecCause.through.ord)

/-- The end of a start interval that ends in RUNNING (R172). -/
def State.switchingStarts (s : State) : State :=
  if s.control.box = .opened then s
  else if s.conf.switchOut.may && decide (s.throughSections = s.pairAccepting) then
    s.putControl { s.control with relayOn := true }
  else
    let s := (s.putControl { s.control with box := .opened }).putSet .a
    let s := s.throughSections.foldl State.throughToTol s
    s.emit .modeSwitchedIn 0 (b1 s.control.box.ord ++ modeCause true)

end Sys2Proof.Machine
end

