-- ==== Sys2Proof/Machine/Bells.lean ====
section
/-!
DEFINITION. The Bell Unit (Chapters 5 and 6, R168, R169): stroke detectors, recognizers, coded sends, plungers,
the repetition of codes, and where a finished code goes.
-/

namespace Sys2Proof

/-- The beat reference after a gap within a group: (3B + g) / 4 to the nearest millisecond, a half up, clamped to
80 to 800 ms (R101). -/
def nextBeat (beat gap : Nat) : Nat := max 80 (min 800 ((3 * beat + gap + 2) / 4))

/-- The end gap: 4B clamped to 1,000 to 3,000 ms (R100, R101). -/
def endGapOf (beat : Nat) : Nat := max 1000 (min 3000 (4 * beat))

/-- A gap is a pause between groups (R101). -/
def isPause (beat gap : Nat) : Bool := 7 * beat ≤ 4 * gap

/-- The stroke width of a coded send (R113). -/
def Duty.width (d : Duty) (beat : Nat) : Nat :=
  match d with
  | .quarter => beat / 4
  | .third => beat / 3
  | .half => beat / 2

/-- The start times of the strokes of a pattern whose first stroke starts at `t` (R113). -/
def strokeStarts (beat t : Nat) : List Nat → List Nat
  | [] => []
  | g :: gs => (List.range g).map (fun i => t + i * beat) ++ strokeStarts beat (t + (g - 1) * beat + 3 * beat) gs

/-- The last group of a list made one stroke larger (R101). -/
def growLast : List Nat → List Nat
  | [] => []
  | [g] => [g + 1]
  | g :: gs => g :: growLast gs

/-- The entry in use whose pattern is a group list, with its meaning and class (R104). -/
def Conf.matching (c : Conf) (groups : List Nat) : Option (Nat × Meaning × Nat) :=
  ((Tab.numbers 32).find? fun e => (c.code e).inUse && (c.code e).pattern == groups).map fun e =>
    (e, (c.code e).meaning, (c.code e).cls)

end Sys2Proof

namespace Sys2Proof.Machine

/-! ### Recognizers of a line -/

/-- A recognizer of a line. -/
def Bell.recognizer (b : Bell) : Ear → Recognizer
  | .receive => b.rx
  | .manual => b.man

/-- A line with a recognizer replaced. -/
def Bell.withRecognizer (b : Bell) (ear : Ear) (r : Recognizer) : Bell :=
  match ear with
  | .receive => { b with rx := r }
  | .manual => { b with man := r }

/-- A recognizer. -/
def State.recognizer (s : State) (l : Nat) (ear : Ear) : Recognizer := (s.bell l).recognizer ear

/-- Replace a recognizer. -/
def State.putRecognizer (l : Nat) (ear : Ear) (r : Recognizer) (s : State) : State :=
  s.putBell l ((s.bell l).withRecognizer ear r)

/-- The nominal beat of a recognizer (R100). -/
def State.nominalBeat (s : State) (l : Nat) : Ear → Nat
  | .receive => (s.conf.line l).receiveBeat
  | .manual => (s.conf.line l).sendBeat

/-- A recognizer returned to IDLE; its detector, last stroke time, width and last code stay (R99). -/
def Recognizer.toIdle (r : Recognizer) : Recognizer :=
  { detector := r.detector, lastStroke := r.lastStroke, width := r.width, lastCode := r.lastCode }

/-- The first stroke of a code, at time `t` with the nominal beat (R100). -/
def Recognizer.firstStroke (r : Recognizer) (beat t : Nat) : Recognizer :=
  { r with
    phase := .assembling, beat, groups := [1], strokes := 1, first := some t, last := some t
    endGap := endGapOf beat, gapTimer := .running (t + endGapOf beat), reason := none }

/-- The gap of a stroke at time `t`. -/
def Recognizer.gap (r : Recognizer) (t : Nat) : Nat := t - r.last.getD t

/-- The stroke would pass a limit: the 25th stroke, or the opening of a 7th group (R101, R103). -/
def Recognizer.limit (r : Recognizer) (t : Nat) : Option Malformed :=
  if 24 ≤ r.strokes then some .tooManyStrokes
  else if isPause r.beat (r.gap t) && decide (6 ≤ r.groups.length) then some .tooManyGroups
  else none

/-- A later stroke of an assembling code (R101, R103). -/
def Recognizer.laterStroke (r : Recognizer) (t : Nat) : Recognizer :=
  match r.limit t with
  | some reason =>
    { r with
      phase := .swallowing, reason := some reason, strokes := satAdd 255 r.strokes, last := some t
      gapTimer := .running (t + r.endGap) }
  | none =>
    let pause := isPause r.beat (r.gap t)
    let beat := if pause then r.beat else nextBeat r.beat (r.gap t)
    { r with
      beat, groups := if pause then r.groups ++ [1] else growLast r.groups
      strokes := satAdd 255 r.strokes, last := some t
      endGap := endGapOf beat, gapTimer := .running (t + endGapOf beat) }

/-- A stroke of a swallowed code (R103). -/
def Recognizer.swallow (r : Recognizer) (t : Nat) : Recognizer :=
  { r with strokes := satAdd 255 r.strokes, last := some t, gapTimer := .running (t + r.endGap) }

/-- A stroke is handed to a recognizer whose nominal beat is `beat` (R100, R101, R103). -/
def Recognizer.stroke (r : Recognizer) (beat t : Nat) : Recognizer :=
  match r.phase with
  | .idle => r.firstStroke beat t
  | .assembling => r.laterStroke t
  | .swallowing => r.swallow t

/-! ### Finishing (R104) -/

/-- The code of a code result, as repetition holds it (R112). -/
def CodeResult.code (k : CodeResult) : Code := ⟨k.outcome, k.entry.map fun e => (e.1, e.2.1), k.groups⟩

/-- The code result that a recognizer forms at a finish (R104). -/
def State.codeResult (s : State) (l : Nat) (ear : Ear) : CodeResult :=
  let r := s.recognizer l ear
  let swallowed := r.phase = .swallowing
  let found := if swallowed then none else s.conf.matching r.groups
  { line := l, ear
    outcome := if swallowed then .malformed else if found.isSome then .matched else .unrecognized
    entry := found, groups := r.groups, strokes := r.strokes
    reason := if swallowed then r.reason else none
    beat := r.beat, first := r.first.getD s.now, finish := s.now, stamp := s.stamp }

/-- A code result as notices and READ_LINES carry it (R104, R106). -/
def State.bResult (s : State) (k : CodeResult) : List Byte :=
  b1 k.line ++ b1 k.ear.ord ++ b1 k.outcome.ord ++ bOpt (fun e => b1 e.1 ++ b1 e.2.1.ord ++ b1 e.2.2) k.entry ++
    bList b1 k.groups ++ b1 k.strokes ++ bOpt (fun m => b1 m.ord) k.reason ++ b4 k.beat ++
    b4 (s.timebase k.first) ++ b4 (s.timebase k.finish) ++ bStamp k.stamp

/-! ### Repetition (R120 to R125) -/

/-- The sent code repeats the owed code of its line (R121). -/
def State.repeatsOwed (s : State) (l : Nat) (c : Code) : Bool := (s.bell l).owed.any fun o => o.code.same c

/-- The received code acknowledges the outstanding code of its line (R122). -/
def State.acknowledges (s : State) (l : Nat) (c : Code) : Bool := (s.bell l).outstanding.any fun o => o.code.same c

/-- A sent code repeats the owed code (R121). -/
def State.giveRepetition (l : Nat) (c : Code) (s : State) : State :=
  ((s.putBell l { s.bell l with owed := none }).exchanged l c false).emit .repRepeated l (bCode c)

/-- Any other sent code becomes the outstanding code (R121). -/
def State.becomeOutstanding (l : Nat) (c : Code) (s : State) : State :=
  let b := s.bell l
  let deadline := s.now + (s.conf.line l).repetitionTimeout
  let s := s.putBell l { b with outstanding := some ⟨c, s.now, deadline⟩ }
  let s := match b.outstanding with
    | some o => s.emit .repNotAcknowledged l (bCode o.code)
    | none => s
  let s := match b.owed with
    | some o => s.emit .repSentWhileOwed l (bCode c ++ bCode o.code)
    | none => s
  s.emit .repOutstanding l (bCode c ++ b4 (s.timebase deadline))

/-- A received code acknowledges the outstanding code (R122). -/
def State.takeAcknowledgement (l : Nat) (c : Code) (s : State) : State :=
  ((s.putBell l { s.bell l with outstanding := none }).exchanged l c true).emit .repAcknowledged l (bCode c)

/-- Any other received code becomes the owed code (R122). -/
def State.becomeOwed (l : Nat) (c : Code) (s : State) : State :=
  let b := s.bell l
  let reminder := s.now + (s.conf.line l).owedReminder
  let s := s.putBell l { b with outstanding := none, owed := some { code := c, receivedAt := s.now, reminder } }
  let s := match b.outstanding with
    | some o => (s.emit .repIncorrect l (bCode o.code ++ bCode c)).raise .repetitionWrong l
    | none => s
  let s := match b.owed with
    | some o => s.emit .repNotGiven l (bCode o.code)
    | none => s
  s.emit .repOwed l (bCode c ++ b4 (s.timebase reminder))

/-- The deadline of the outstanding code passes (R123). -/
def State.deadlineExpires (l : Nat) (s : State) : State :=
  match (s.bell l).outstanding with
  | some o =>
    if o.deadline ≤ s.now then
      ((s.putBell l { s.bell l with outstanding := none }).emit .repNoRepetition l
        (bCode o.code ++ b4 (s.timebase o.sentAt))).raise .noRepetition l
    else s
  | none => s

/-- The reminder time of the owed code passes (R124). -/
def State.reminderExpires (l : Nat) (s : State) : State :=
  match (s.bell l).owed with
  | some o =>
    if !o.expired && decide (o.reminder ≤ s.now) then
      ((s.putBell l { s.bell l with owed := some { o with expired := true } }).raise .repeatOwed l).emit
        .repRepetitionOwed l (bCode o.code ++ b4 (s.timebase o.receivedAt))
    else s
  | none => s

/-! ### Where codes go (R105, R117, R169) -/

/-- The pulse timers that a code received on a line starts (R174). -/
def State.startPulses (l : Nat) (s : State) : State :=
  s.putPanel { s.panel with
    pulses := Tab.build 32 fun i =>
      let d := s.conf.indication i
      if d.source = .codeReceived && d.index == l && d.display = .pulse then some (s.now + d.pulse) else s.pulse i }

/-- A received code that is neither relayed nor an acknowledgement acts on its section and on records (R91, R134). -/
def State.receivedActs (l : Nat) (k : CodeResult) (s : State) : State :=
  let s := match k.entry with
    | some (_, m, _) => s.sectionTakesReceived l m
    | none => s
  let x := k.entry.bind fun e => s.sectionFor l false e.2.1
  s.codeEvent { line := l, sent := false, code := k.code, sec := x } ((k.entry.map (·.2.2)).getD 0) none

/-- A code received on a line, marked relayed where the line is in through relay (R105, R106, R122, R169). -/
def State.receivedCode (l : Nat) (k : CodeResult) (s : State) : State :=
  let relayed := s.inRelay l
  let s := (s.emit .bellReceived l (s.bResult k ++ bFlag relayed)).startPulses l
  if relayed then s.throughExchange l k.code
  else if s.acknowledges l k.code then (s.takeAcknowledgement l k.code).acknowledged l k.code
  else (s.becomeOwed l k.code).receivedActs l k

/-- A sent code (R117): a repetition, or a code event on its section and records, with the record that a coded
send named and, for a manual OUT_OF_SECTION, the result of the gate of R93. -/
def State.sentCode (l : Nat) (c : Code) (cls : Nat) (named : Option Nat) (manual : Bool) (s : State) : State :=
  if s.repeatsOwed l c then (s.giveRepetition l c).repetitionGiven l c
  else
    let x := c.entry.bind fun e => s.sectionFor l true e.2
    let failed := manual && c.entry.any (·.2 = .outOfSection) && (s.outOfSectionGate l).isSome
    (s.becomeOutstanding l c).codeEvent { line := l, sent := true, code := c, sec := x, gateFailed := failed } cls named

/-- A code result of the manual recognizer (R117). -/
def State.manualCode (l : Nat) (k : CodeResult) (s : State) : State :=
  let s := s.emit .bellManual l (s.bResult k)
  if k.outcome = .malformed then s
  else s.sentCode l k.code ((k.entry.map (·.2.2)).getD 0) none true

/-- A code finishes (R104): the recognizer returns to IDLE, and the result goes to its consumers. -/
def State.finishCode (l : Nat) (ear : Ear) (s : State) : State :=
  let k := s.codeResult l ear
  let s := s.putRecognizer l ear { (s.recognizer l ear).toIdle with lastCode := some k }
  match ear with
  | .receive => s.receivedCode l k
  | .manual => s.manualCode l k

/-! ### The stroke detector (R98) and the through relay (R168) -/

/-- An input turns on (R98). -/
def State.inputOn (l : Nat) (ear : Ear) (s : State) : State :=
  let r := s.recognizer l ear
  if s.live && r.detector = .off then
    let bounce := r.lastStroke.any fun t => s.now < t + 40
    s.putRecognizer l ear { r with detector := if bounce then .ignored else .testing s.now }
  else s

/-- A stroke accepted on a line in through relay turns its relay output on (R168). -/
def State.relayStroke (l : Nat) (s : State) : State :=
  s.putBell l { s.bell l with relay := some ⟨s.now, s.now + 500⟩ }

/-- The pulse under test passes (R98): the stroke, timed at its edge, is handed to the recognizer and, on a line in
through relay, a receive stroke is relayed and a manual one is handed to nothing (R168). -/
def State.acceptStroke (l : Nat) (ear : Ear) (edge : Time) (s : State) : State :=
  let r := { s.recognizer l ear with detector := .stroke edge, lastStroke := some edge }
  let relayed := s.inRelay l
  match ear with
  | .receive =>
    let s := s.putRecognizer l ear (r.stroke (s.nominalBeat l ear) edge)
    if relayed then s.relayStroke l else s
  | .manual => s.putRecognizer l ear (if relayed then r else r.stroke (s.nominalBeat l ear) edge)

/-- The 20 ms test expires (R98). -/
def State.testExpires (l : Nat) (ear : Ear) (s : State) : State :=
  match (s.recognizer l ear).detector with
  | .testing edge => if s.live && decide (edge + 20 ≤ s.now) then s.acceptStroke l ear edge else s
  | _ => s

/-- The source of a relayed stroke turns off: the relay output keeps the recorded width, 500 ms at most (R168). -/
def State.relayWidth (l width : Nat) (s : State) : State :=
  match (s.bell l).relay with
  | some k => s.putBell l { s.bell l with relay := some { k with offAt := min (k.onAt + width) (k.onAt + 500) } }
  | none => s

/-- An input turns off (R98). A short pulse that a finish waits for lets the code finish (R102). -/
def State.inputOff (l : Nat) (ear : Ear) (s : State) : State :=
  let s := s.testExpires l ear
  let r := s.recognizer l ear
  match r.detector with
  | .testing _ =>
    let s := s.putRecognizer l ear { r with detector := .off }
    if r.gapTimer = .waiting then s.finishCode l ear else s
  | .stroke edge =>
    let s := s.putRecognizer l ear { r with detector := .off, width := some (s.now - edge) }
    match ear with
    | .receive => s.relayWidth l (s.now - edge)
    | .manual => s
  | .ignored => s.putRecognizer l ear { r with detector := .off }
  | .off => s

/-- The end-gap timer expires (R102): the code finishes, unless a pulse whose edge came no later is under test. -/
def State.endGapExpires (l : Nat) (ear : Ear) (s : State) : State :=
  let r := s.recognizer l ear
  match r.gapTimer with
  | .running e =>
    if s.live && r.phase ≠ .idle && decide (e ≤ s.now) then
      match r.detector with
      | .testing edge =>
        if edge ≤ e then s.putRecognizer l ear { r with gapTimer := .waiting } else s.finishCode l ear
      | _ => s.finishCode l ear
    else s
  | _ => s

/-- The relay output of a line reaches its turn-off (R168). -/
def State.relayOff (l : Nat) (s : State) : State :=
  match (s.bell l).relay with
  | some k => if k.offAt ≤ s.now then s.putBell l { s.bell l with relay := none } else s
  | none => s

/-! ### Coded sends (R113, R115, R116) -/

/-- The tests of SEND_BELL before its CONDITIONS (R115), and its answer. -/
def State.sendBellFail (s : State) (l e : Nat) (named : Option Nat) : Option (Result × List Byte) :=
  let entry := s.conf.code e
  if s.invalid then some (.refusedState, [])
  else if !entry.inUse then some (.noSuch, [])
  else if named.isSome && entry.meaning ≠ .offer then some (.badRequest, [])
  else if s.inRelay l || (s.bell l).send.isSome then some (.busy, [])
  else if (s.bell l).man.phase ≠ .idle || (s.bell l).plunger ≠ .off then some (.busy, [])
  else match (if entry.meaning = .outOfSection then s.outOfSectionGate l else none) with
  | some (sub, o) => some (.conditions, b1 1 ++ b1 sub ++ bObject o)
  | none =>
    match named with
    | none => none
    | some r =>
      if (s.conf.offeringOf l).isNone then some (.conditions, b1 2 ++ bObject (.line l))
      else if !s.isOpen r || (s.record r).outbound.isSome then some (.noSuch, [])
      else none

/-- The transmitter moves to SENDING with the first stroke on (R116). -/
def State.startSend (l e : Nat) (named : Option Nat) (s : State) : State :=
  let c := s.conf.line l
  s.putBell l { s.bell l with
    send := some {
      entry := e, record := named, acceptedAt := s.now
      starts := strokeStarts c.sendBeat s.now (s.conf.code e).pattern
      width := c.duty.width c.sendBeat, index := 0, on := true } }

/-- SEND_BELL (R115, R116). -/
def State.sendBell (l e : Nat) (named : Option Nat) (s : State) : Result × List Byte × State :=
  match s.sendBellFail l e named with
  | some (r, b) => (r, b, s)
  | none => (.ok, [], s.startSend l e named)

/-- The start time of the current stroke of a send. -/
def Send.strokeAt (k : Send) : Option Time := k.starts[k.index]?

/-- The transmitter reaches a stroke start (R113). -/
def State.strokeStarts (l : Nat) (s : State) : State :=
  match (s.bell l).send with
  | some k =>
    if !k.on && k.strokeAt.any (fun t => decide (t ≤ s.now)) then
      s.putBell l { s.bell l with send := some { k with on := true } }
    else s
  | none => s

/-- A coded send completes (R116). -/
def State.sendCompletes (l : Nat) (k : Send) (s : State) : State :=
  let c := s.conf.code k.entry
  let s := s.putBell l { s.bell l with send := none }
  let s := s.emit .bellCompleted l
    (b1 k.entry ++ b1 c.meaning.ord ++ b1 c.cls ++ bList b1 c.pattern ++ bOpt b1 k.record ++
      b4 (s.timebase k.acceptedAt) ++ b4 (s.timebase s.now))
  s.sentCode l ⟨.matched, some (k.entry, c.meaning), c.pattern⟩ c.cls k.record false

/-- The transmitter reaches a stroke end (R113, R116). -/
def State.strokeEnds (l : Nat) (s : State) : State :=
  match (s.bell l).send with
  | some k =>
    if k.on && k.strokeAt.any (fun t => decide (t + k.width ≤ s.now)) then
      if k.index + 1 < k.starts.length then
        s.putBell l { s.bell l with send := some { k with on := false, index := k.index + 1 } }
      else s.sendCompletes l k
    else s
  | none => s

/-- The number of strokes of a send that have started (R119, R127). -/
def Send.started (k : Send) : Nat := if k.on then k.index + 1 else k.index

/-! ### The plunger (R118, R119, R168) -/

/-- A press aborts a coded send in flight (R119). -/
def State.abortSend (l : Nat) (s : State) : State :=
  match (s.bell l).send with
  | some k =>
    (s.putBell l { s.bell l with send := none }).emit .bellAborted l
      (b1 k.entry ++ bOpt b1 k.record ++ b1 k.started ++ b4 (s.timebase s.now))
  | none => s

/-- The plunger is pressed (R118, R119, R168). -/
def State.plungerPressed (l : Nat) (s : State) : State :=
  let b := s.bell l
  if !s.live then s
  else if s.inRelay l then s.putBell l { b with ignored := satAdd 65535 b.ignored }
  else if b.plunger = .off then
    (s.putBell l { b with plunger := .on, plungerTimer := some (s.now + 500) }).abortSend l
  else s

/-- The plunger is released (R118). -/
def State.plungerReleased (l : Nat) (s : State) : State :=
  let b := s.bell l
  if s.live && b.plunger ≠ .off then s.putBell l { b with plunger := .off, plungerTimer := none } else s

/-- The plunger output timer expires (R118). -/
def State.plungerExpires (l : Nat) (s : State) : State :=
  let b := s.bell l
  if b.plunger = .on && due b.plungerTimer s.now then s.putBell l { b with plunger := .spent, plungerTimer := none }
  else s

/-- The send output of a line carries current: the transmitter has a stroke on, the plunger output is ON, or the
relay output of the other line of the pair is on (R112, R114, R168). -/
def State.sendOutput (s : State) (l : Nat) : Bool :=
  s.live && ((s.bell l).send.any (·.on) || (s.bell l).plunger = .on ||
    (s.inRelay l && (s.bell (s.otherLine l)).relay.isSome))

/-! ### Resets (R109, R110, R126) -/

/-- Every line at a reset: recognizers IDLE, detectors OFF, nothing sent, outstanding or owed (R109, R126, R168). -/
def State.resetBells (s : State) : State := { s with bells := Tab.rep 3 {} }

/-- One line at the end of a start interval that ends in RUNNING (R110, R126). A made plunger contact gives SPENT on a
line in through relay too (DESIGN CHOICE log 37). -/
def State.bellStarts (s : State) (l : Nat) : State :=
  let b := s.bell l
  let held (ear : Ear) : Detector := if s.earOn l ear then .ignored else .off
  s.putBell l { b with
    rx := { b.rx with detector := held .receive }
    man := { b.man with detector := held .manual }
    plunger := if s.earOn l .manual then .spent else .off }

/-- The lines at the end of a start interval that ends in RUNNING (R110, R126). -/
def State.bellsStart (s : State) : State := (Tab.numbers 3).foldl State.bellStarts s

end Sys2Proof.Machine
end

