-- ==== Sys2Proof/Machine/Panel.lean ====
section
/-!
DEFINITION. The Panel Output Unit (Chapter 10): sources and lamps, the flasher, pulse timers, lamp test, the
sounder's timer, and the requests on the alert list.
-/

namespace Sys2Proof.Machine

/-! ### Indications (R173, R174) -/

/-- A section source: the state of an accepting section, the repeater of an offering one, false for an unused one
(R173). -/
def State.sectionReads (s : State) (x : Nat) (p : LineState) : Bool :=
  match (s.conf.sec x).role with
  | .accepting => (s.sec x).acc.state.position = some p
  | .offering => (s.sec x).off.repeater = p
  | .unused => false

/-- The alert list holds an unacknowledged entry of a kind number, or of any kind for 0 (R173). -/
def State.alertActive (s : State) (kind : Nat) : Bool :=
  s.panel.alerts.any fun a => !a.acked && (kind == 0 || a.kind.number == kind)

/-- The value of a source; `i` is the indication whose pulse timer answers for *code received* (R173, R174). -/
def State.sourceTrue (s : State) (i : Nat) (k : SourceKind) (n : Nat) : Bool :=
  match k with
  | .leverNormal => s.standing n = .normal
  | .leverReverse => s.standing n = .reverse
  | .leverFree => (s.lever n).phase.isFree
  | .leverFaultMark => (s.lever n).faultMark
  | .trackOccupied => !s.clear n
  | .trackMarked => (s.track n).marked
  | .sectionLB => s.sectionReads n .lb
  | .sectionLC => s.sectionReads n .lc
  | .sectionTOL => s.sectionReads n .tol
  | .sectionDisagreement => s.isAccepting n && (s.sec n).acc.disagreement
  | .sectionThrough => s.isAccepting n && decide ((s.sec n).acc.state = .through)
  | .releaseAvailable => s.isOffering n && decide ((s.sec n).off.release = .available)
  | .codeOwed => (s.bell n).owed.isSome
  | .codeOutstanding => (s.bell n).outstanding.isSome
  | .holdExists => (s.hold? n).isSome
  | .timeReleaseReady => (s.hold? n).any (·.state = .ready)
  | .boxSwitchedOut => s.control.box = .switchedOut
  | .alertActive => s.alertActive n
  | .codeReceived => (s.pulse i).isSome
  | .none => false

/-- The flasher is in its dark half (R174). -/
def State.flasherDark (s : State) : Bool := s.panel.flasher.any fun f => !f.lit

/-- The lit value of an indication (R174). NONE is always dark (R173). -/
def State.litValue (s : State) (i : Nat) : Bool :=
  let d := s.conf.indication i
  if d.source = .none || !s.live then false
  else
    let shown := s.sourceTrue i d.source d.index != d.litWhenFalse
    if d.display = .flash then shown && !s.flasherDark else shown

/-- The lamp output of an indication (R175, R176). -/
def State.lampOutput (s : State) (i : Nat) : Bool := s.panel.lampTest.isSome || s.litValue i

/-- The flasher reaches the end of a half (R174). -/
def State.flasherTurns (s : State) : State :=
  match s.panel.flasher with
  | some f =>
    if f.nextAt ≤ s.now then s.putPanel { s.panel with flasher := some ⟨!f.lit, f.nextAt + 500⟩ } else s
  | none => s

/-- A pulse timer expires (R174). -/
def State.pulseExpires (i : Nat) (s : State) : State :=
  if due (s.pulse i) s.now then s.putPanel { s.panel with pulses := s.panel.pulses.put i none } else s

/-! ### Lamp test (R175) -/

/-- LAMP_TEST starts the lamp test timer. -/
def State.startLampTest (s : State) : State := s.putPanel { s.panel with lampTest := some (s.now + 5000) }

/-- The lamp test timer expires. -/
def State.lampTestExpires (s : State) : State :=
  if due s.panel.lampTest s.now then s.putPanel { s.panel with lampTest := none } else s

/-! ### The sounder (R179) -/

/-- How long the part of a pattern that begins now lasts: `on` says whether it is the on part (R179). -/
def Pattern.part (p : Pattern) (on : Bool) : Option Nat :=
  match p with
  | .oneHz => some 500
  | .beep => some (if on then 200 else 4800)
  | _ => none

/-- The sounder's pattern timer reaches the end of a part (R179). -/
def State.sounderTurns (s : State) : State :=
  let k := s.panel.sounder
  match k.timer with
  | some e =>
    if e ≤ s.now then
      s.putPanel { s.panel with
        sounder := { k with sounding := !k.sounding, timer := (k.pattern.part !k.sounding).map (e + ·) } }
    else s
  | none => s

/-! ### Requests on the alert list (R180) -/

/-- ACK_ALERTS: every entry becomes acknowledged; the reply and the notice carry how many were not. -/
def State.ackAlerts (s : State) : Result × List Byte × State :=
  let count := (s.panel.alerts.filter fun a => !a.acked).length
  let s := (s.putPanel { s.panel with alerts := s.panel.alerts.map fun a => { a with acked := true } }).recomputeSounder
    false
  (.ok, b1 count, s.emit .alertAcknowledged 0 (b1 count))

/-- CLEAR_ALERTS: every acknowledged entry is removed; the reply and the notice carry how many. -/
def State.clearAlerts (s : State) : Result × List Byte × State :=
  let count := (s.panel.alerts.filter (·.acked)).length
  let s := (s.putPanel { s.panel with alerts := s.panel.alerts.filter fun a => !a.acked }).recomputeSounder false
  (.ok, b1 count, s.emit .alertCleared 0 (b1 count))

/-! ### Resets (R176, R181) -/

/-- The panel at a reset: dark, silent, no alerts (R176, R179, R181). -/
def State.resetPanel (s : State) : State := s.putPanel {}

/-- The panel at the end of a start interval: the sounder plays what the list asks, and in RUNNING the flasher
starts in its lit half (R176, R181). -/
def State.panelStarts (s : State) : State :=
  let s := if s.control.mode = .running then s.putPanel { s.panel with flasher := some ⟨true, s.now + 500⟩ } else s
  s.recomputeSounder true

end Sys2Proof.Machine
end

