-- ==== Sys2Proof/Machine/Reads.lean ====
section
/-!
DEFINITION. What the outside reads: the bodies of the Observer requests (R189, R190 and the rules they name), and the
state that notices carry (R191). Byte conventions that the manual leaves open are in DESIGN CHOICE log 15.
-/

namespace Sys2Proof.Machine

/-! ### Paged reads (R189) -/

/-- An entry of a page: its object number, its length, its bytes. -/
def pageEntry (k : Nat × List Byte) : List Byte := b1 k.1 ++ b1 k.2.length ++ k.2

/-- The entries that fit in a number of bytes, and the rest. -/
def takePage (room : Nat) : List (Nat × List Byte) → List (Nat × List Byte) × List (Nat × List Byte)
  | [] => ([], [])
  | k :: ks =>
    if (pageEntry k).length ≤ room then
      let r := takePage (room - (pageEntry k).length) ks
      (k :: r.1, r.2)
    else ([], k :: ks)

/-- A page of entries with the fields that follow it: a count, whole entries, the next number or 0, `more`. The
result, the count and the next number take 3 of the 240 bytes. -/
def pageBody (entries : List (Nat × List Byte)) (more : List Byte) : List Byte :=
  let r := takePage (237 - more.length) entries
  b1 r.1.length ++ r.1.flatMap pageEntry ++ b1 ((r.2.head?.map (·.1)).getD 0) ++ more

/-- The entries of the objects 1 to `n` from the first wanted. -/
def entriesFrom (n first : Nat) (f : Nat → List Byte) : List (Nat × List Byte) :=
  ((Tab.numbers n).filter (first ≤ ·)).map fun k => (k, f k)

/-! ### Levers, tracks, sections, holds (R46, R15, R94, R69) -/

/-- The three filtered inputs of a lever (R21, R46): made and lifted are 1 (DESIGN CHOICE log 15). -/
def LeverInputs.bytes (i : LeverInputs) : List Byte :=
  bFlag i.normalMade ++ bFlag i.reverseMade ++ bFlag i.catchLifted

/-- A READ_LEVERS entry (R46). -/
def State.leverEntry (s : State) (n : Nat) : List Byte :=
  let l := s.lever n
  let left := match l.timer with
    | .running e => some (s.remaining e)
    | _ => none
  b1 (s.conf.leverKind n).ord ++ (s.leverInputs n).bytes ++ b1 l.phase.ord ++ b1 (if l.solenoid then 0 else 1) ++ bFlag l.faultMark ++
    bFlag l.fresh ++ b1 s.set.ord ++ b1 l.origin.ord ++ bOpt b4 left ++ bFlag (l.timer = .expired) ++
    bOpt (fun g => b1 g.direction.ord ++ b1 g.set.ord ++ bList b1 g.named) l.grant

/-- A READ_TRACKS entry (R15). Its effective occupancy is 0 for clear and 1 for occupied (DESIGN CHOICE log 15); the
kind is the stored one in every mode (DEDUCED log 28). -/
def State.trackEntry (s : State) (t : Nat) : List Byte :=
  let k := s.track t
  b1 (s.conf.track t).kind.ord ++ b1 (if s.relayPicked t then 0 else 1) ++ b1 k.filter.ord ++ b1 k.flickers ++
    bFlag k.failed ++ bFlag k.suspect ++ bFlag (!s.clear t) ++ bOpt (fun e => b4 (s.remaining e)) k.timer

/-- The flags of an accepting section (R94). -/
def Accepting.flags (a : Accepting) : List Byte :=
  bFlag a.assumed ++ bFlag a.seen ++ bFlag a.proof ++ bFlag a.entering ++ bFlag a.disagreement ++ bFlag a.unregistered

/-- A READ_SECTIONS entry (R94, R167): an unused section is its role alone. -/
def State.sectionEntry (s : State) (x : Nat) : List Byte :=
  let c := s.conf.sec x
  let a := (s.sec x).acc
  let o := (s.sec x).off
  match c.role with
  | .unused => b1 c.role.ord
  | .accepting =>
    let driven := if a.state = .through then some (s.lineCurrent x) else none
    b1 c.role.ord ++ b1 c.line ++ b1 a.state.ord ++ b1 a.switch.ord ++ a.flags ++ bOpt (fun k => b1 k.ord) driven
  | .offering =>
    b1 c.role.ord ++ b1 c.line ++ b1 (s.rawReading x).ord ++ b1 o.repeater.ord ++
      bOpt (fun e => b4 (s.remaining e)) o.timer ++ b1 o.release.ord

/-- The stages of a hold as READ_HOLDS reports them, each with its track number (R69). -/
def State.holdStages (s : State) (h : Hold) : List Byte :=
  bList (fun k => b1 k.1.ord ++ b1 k.2) (h.stages.zip (s.holdingOf h))

/-- The state and the stages of a hold as HOLD notices carry them (R69). -/
def Hold.noticeBytes (h : Hold) : List Byte := b1 h.state.ord ++ bList (fun st => b1 st.ord) h.stages

/-- A READ_HOLDS entry (R69). The signal stands in the entry as well as in its page header (DESIGN CHOICE log 15). -/
def State.holdEntry (s : State) (h : Hold) : List Byte :=
  b1 h.signal ++ b1 h.state.ord ++ bOpt (fun p => b1 p.ord) h.prior ++ bFlag h.reversal ++ bFlag h.irregular ++
    s.holdStages h ++ bOpt (fun e => b4 (s.remaining e)) h.timer

/-! ### Lines (R111, R127, R168) -/

/-- The edge time of a detector in TESTING (R111). -/
def Detector.edge? : Detector → Option Time
  | .testing e => some e
  | _ => none

/-- The recognizer items of a READ_LINES entry (R111). -/
def State.recognizerItems (s : State) (r : Recognizer) : List Byte :=
  let left := match r.gapTimer with
    | .running e => s.remaining e
    | _ => 0
  let code := b4 r.beat ++ bList b1 r.groups ++ b1 r.strokes ++ b4 (s.now - r.first.getD s.now) ++ b4 left
  b1 r.detector.ord ++ bOpt (fun e => b4 (s.timebase e)) r.detector.edge? ++ b1 r.phase.ord ++
    (if r.phase = .idle then b1 0 else b1 1 ++ code) ++ bOpt (fun m => b1 m.ord) r.reason ++ bOpt s.bResult r.lastCode

/-- When a send in flight completes (R127). -/
def Send.completesAt (k : Send) : Time := (k.starts.getLast?.getD k.acceptedAt) + k.width

/-- A READ_LINES entry (R111, R127, R168). The presence byte of the items of a send is the transmitter state, 0 IDLE and
1 SENDING; the current stroke index counts from 0; and the indication that the reminder of an owed code has expired is
the absence of the time remaining until it, presence byte 0, with no flag of its own (DESIGN CHOICE log 15). -/
def State.lineEntry (s : State) (l : Nat) : List Byte :=
  let b := s.bell l
  bList (fun x => [x]) (s.conf.line l).name ++ s.recognizerItems b.rx ++ s.recognizerItems b.man ++
    bOpt (fun k => b1 k.entry ++ bOpt b1 k.record ++ b1 k.started ++ b1 k.index ++ b4 (s.remaining k.completesAt)) b.send ++
    b1 b.plunger.ord ++ bOpt (fun e => b4 (s.remaining e)) b.plungerTimer ++
    bOpt (fun o => bCode o.code ++ b4 (s.timebase o.sentAt) ++ b4 (s.remaining o.deadline)) b.outstanding ++
    bOpt (fun o => bCode o.code ++ b4 (s.timebase o.receivedAt) ++
      bOpt b4 (if o.expired then none else some (s.remaining o.reminder))) b.owed ++
    bOpt (fun e => bCode e.code ++ bFlag (!e.sent) ++ b4 (s.timebase e.at_) ++ bStamp e.stamp) b.exchange ++
    b2 b.ignored

/-! ### Records (R129, R130, R146) -/

/-- The status of a record: OPEN or COMPLETE, absent for a free one (R128, R129). -/
def State.statusByte (s : State) (r : Nat) : Option Nat :=
  if s.isOpen r then some 0 else if s.isComplete r then some 1 else none

/-- A half of a record (R130). -/
def Half.bytes (h : Half) : List Byte :=
  b1 h.sec ++ b1 h.stage.ord ++ bOpt bStamp h.offeredAt ++ bOpt bStamp h.acceptedAt ++ bOpt bStamp h.enteringAt ++
    bOpt bStamp h.atTrackAt ++ bOpt bStamp h.endedAt ++ bFlag h.item

/-- The flags of a record (R129). -/
def Record.flags (x : Record) : List Byte :=
  bFlag x.irregular ++ bFlag x.ambiguous ++ bFlag x.truncated ++ bFlag x.lost ++ bFlag x.unset

/-- A READ_RECORD reply (R129, R130, R162). -/
def State.recordBytes (s : State) (r : Nat) : List Byte :=
  let x := s.record r
  b1 r ++ b1 ((s.statusByte r).getD 0) ++ bOpt (fun k => b1 k.ord) x.reason ++ bOpt b1 x.cls ++
    bOpt Half.bytes x.inbound ++ bOpt Half.bytes x.outbound ++ x.flags ++ bList b1 x.trail ++
    bOpt (fun e => b4 (s.timebase e)) x.grace

/-- The three collection counts (R146, R189). -/
def Register.counts (g : Register) : List Byte := b1 g.free.length ++ b1 g.opened.length ++ b1 g.completed.length

/-- A LIST_RECORDS reply (R146): the collections in the order free, open, completed. -/
def State.listBytes (s : State) (collection : Nat) : List Byte :=
  let g := s.register
  bList b1 (if collection = 0 then g.free else if collection = 1 then g.opened else g.completed) ++ g.counts

/-! ### Alerts, counters, status (R181, R190, R189) -/

/-- What a READ_ALERTS reply carries on its first page (R181, R190). The 32 lit values have no count (DESIGN CHOICE
log 15). -/
def State.alertExtras (s : State) : List Byte :=
  bOpt b1 s.soundingPriority ++ b1 s.panel.sounder.pattern.ord ++ b1 s.threshold ++
    (Tab.numbers 32).flatMap (fun i => bFlag (s.litValue i)) ++ bOpt (fun e => b4 (s.remaining e)) s.panel.lampTest

/-- The alert entries numbered 1 to 16 in list order, oldest first (R190). -/
def State.alertEntries (s : State) (first : Nat) : List (Nat × List Byte) :=
  (((s.panel.alerts.zipIdx 1).map fun k => (k.2, bAlert k.1)).filter fun k => first ≤ k.1)

/-- The 69 counters in the order of R190. -/
def State.counterEntry (s : State) (n : Nat) : List Byte :=
  if n ≤ 24 then b4 (s.store.counter (.release n)).value
  else if n ≤ 48 then b4 (s.store.counter (.forced (n - 24))).value
  else if n ≤ 64 then b4 (s.store.counter (.mark (n - 48))).value
  else if n = 65 then b2 s.register.overwritten
  else if n = 66 then b2 s.link.linkErrors
  else if n = 67 then b2 s.link.abandoned
  else if n = 68 then b2 s.link.discarded
  else b2 s.link.lost

/-- The part mode, then the cause in HELD (12 section 12.2). -/
def Mode.bytes (m : Mode) : List Byte :=
  b1 m.ord ++ bOpt (fun c => b1 c.ord) (match m with
    | .held c => some c
    | _ => none)

/-- A STATUS reply (R189). -/
def State.statusBytes (s : State) : List Byte :=
  s.control.mode.bytes ++ b1 s.control.box.ord ++ b1 s.control.cause.ord ++ bFlag s.inputs.key ++ bStamp s.stamp ++
    b4 (s.timebase s.now) ++ s.register.counts ++ bOpt b1 s.soundingPriority ++ b2 s.link.lostSinceStatus ++
    b2 s.link.discarded ++ bFlag s.store.fault

/-! ### What notices carry (R191) -/

/-- What a SECTION notice carries of its section (R94). -/
def State.sectionFields (s : State) (x : Nat) : List Byte :=
  match (s.conf.sec x).role with
  | .offering => b1 (s.sec x).off.repeater.ord ++ b1 (s.sec x).off.release.ord
  | _ => b1 (s.sec x).acc.state.ord ++ (s.sec x).acc.flags

/-- What a SECTION notice *start* carries of its accepting section: the state, the switch position and the flags, as
R85 names them. -/
def State.sectionStartFields (s : State) (x : Nat) : List Byte :=
  b1 (s.sec x).acc.state.ord ++ b1 (s.sec x).acc.switch.ord ++ (s.sec x).acc.flags

/-- What a RECORD notice carries of its record (R146): nothing where it names none. -/
def State.recordFields (s : State) (r : Nat) : List Byte :=
  let x := s.record r
  if r = 0 then []
  else bOpt b1 (s.statusByte r) ++ bOpt (fun h => b1 h.stage.ord) x.inbound ++ bOpt (fun h => b1 h.stage.ord) x.outbound ++
    x.flags

/-- The fields of a notice, read from the state as it stands at the end of the event (R191, DEDUCED log 14). The state
and the stages of a HOLD notice (R69) stand under one presence byte, which is 0 with nothing behind it where the hold
is gone at the end of the event (DESIGN CHOICE log 15). -/
def State.noticeFields (s : State) (d : Draft) : List Byte :=
  match d.event.kind with
  | .lever => b1 (s.lever d.object).phase.ord ++ (s.leverInputs d.object).bytes ++ d.extra
  | .track =>
    let k := s.track d.object
    b1 k.filter.ord ++ b1 k.flickers ++ bFlag k.failed ++ bFlag k.suspect ++ d.extra
  | .sec => d.extra ++ (if d.event = .secStart then s.sectionStartFields d.object else s.sectionFields d.object)
  | .hold => bOpt Hold.noticeBytes (s.hold? d.object) ++ d.extra
  | .record => s.recordFields d.object ++ d.extra
  | .bellRx | .bellTx | .repetition | .alert | .mode => d.extra

/-- The notice that a draft becomes. -/
def State.noticeOf (s : State) (d : Draft) : Notice := ⟨d.event, d.object, s.timebase s.now, s.stamp, s.noticeFields d⟩

end Sys2Proof.Machine
end

