-- ==== Sys2Proof/Machine/Validation.lean ====
section
/-!
DEFINITION. The validation of a configuration (R199, Table 12.2). Items are taken in class order and index order,
each with the checks that apply to it; a check that relates two items is made at both, so that the one that
comes first
reports it (DEDUCED log 18).
-/

namespace Sys2Proof

/-- Where validation fails: the item and the check (Table 12.2). -/
structure CheckFail where
  cls : Nat
  index : Nat
  check : Nat
  deriving DecidableEq, Repr

/-- A track number in range whose track is fitted. -/
def Conf.fittedTrack (c : Conf) (t : Nat) : Bool := isTrack t && c.fitted t
/-- A track number in range whose track is RUNNING. -/
def Conf.runningTrack (c : Conf) (t : Nat) : Bool := isTrack t && decide ((c.track t).kind = .running)
/-- A lever number in range whose lever is SIGNAL. -/
def Conf.signalLever (c : Conf) (n : Nat) : Bool := isLever n && decide (c.leverKind n = .signal)

/-- A list holds nothing twice. -/
def noRepeats : List Nat → Bool
  | [] => true
  | n :: ns => !ns.contains n && noRepeats ns

/-! ### Check 1, and the checks of each class -/

/-- Check 1 for a locking term. -/
def Conf.termIndices (c : Conf) : Term → Bool
  | .ln n => isLever n
  | .lr n => isLever n
  | .lnc n m => isLever n && isLever m
  | .tc t => c.fittedTrack t
  | .lcr x => isSection x

/-- Check 3 for a term of an entry of lever `owner` (R20). -/
def Conf.termFits (c : Conf) (owner : Nat) : Term → Bool
  | .ln n => n ≠ owner
  | .lr n => n ≠ owner
  | .lnc n m => n ≠ owner && m ≠ owner
  | .tc _ => true
  | .lcr x => (c.sec x).role = .offering

/-- The lever that an entry belongs to, four entries to a lever (Table 12.1). -/
def entryOwner (i : Nat) : Nat := (i - 1) / 4 + 1

/-- Entry `i` is a to-reverse entry of the starting signal of section `x` (R40, Table 12.1). -/
def Conf.startsFrom (c : Conf) (i x : Nat) : Bool :=
  (c.sec x).role = .offering && isLever (c.sec x).starting &&
    (i == entryIndex (c.sec x).starting .a .toReverse || i == entryIndex (c.sec x).starting .b .toReverse)

/-- Check 6 for an entry: it has the LCR of each section whose starting signal it lets go to reverse (R40, R71). -/
def Conf.clearsLine (c : Conf) (i : Nat) : Bool :=
  (Tab.numbers 6).all fun x => !c.startsFrom i x || (c.entries.get [] i).contains (.lcr x)

/-- The checks of a locking entry. Check 6 relates it to a section and is reported here, because entries come before
sections (R199, DEDUCED log 18). -/
def Conf.checkEntry (c : Conf) (i : Nat) : Option Nat :=
  let e := c.entries.get [] i
  if !e.all c.termIndices then some 1
  else if !e.all (c.termFits (entryOwner i)) then some 3
  else if !c.clearsLine i then some 6
  else none

/-- Check 4 for a definition that is present (R47). -/
def Conf.holdFits (c : Conf) (n : Nat) (d : HoldDef) : Bool :=
  c.leverKind n = .signal && noRepeats d.holding && noRepeats d.held && !d.held.contains n &&
    d.approach.all fun t => !d.holding.contains t

/-- The checks of a route hold definition. -/
def Conf.checkHold (c : Conf) (n : Nat) : Option Nat :=
  match c.holdDef n with
  | none => none
  | some d =>
    if !(d.approach.all c.fittedTrack && d.holding.all c.fittedTrack && d.held.all isLever) then some 1
    else if !c.holdFits n d then some 4
    else none

/-- Check 2 for a track (R2): both directions of the relation are read. That a NOT_FITTED track is in no list is tested
at the NOT_FITTED track alone, by its own list being empty: a fitted track that it names back passes (DEDUCED log 18). -/
def Conf.neighboursFit (c : Conf) (t : Nat) : Bool :=
  let l := (c.track t).neighbours
  !l.contains t && noRepeats l && l.all (fun u => (c.track u).neighbours.contains t) &&
    (Tab.numbers 16).all (fun u => !(c.track u).neighbours.contains t || l.contains u) &&
    (c.fitted t || l.isEmpty)

/-- The checks of a track. -/
def Conf.checkTrack (c : Conf) (t : Nat) : Option Nat :=
  if !(c.track t).neighbours.all isTrack then some 1
  else if !c.neighboursFit t then some 2
  else none

/-- Check 1 for a section. -/
def Conf.sectionIndices (c : Conf) (x : Nat) : Bool :=
  let k := c.sec x
  match k.role with
  | .unused => true
  | .accepting =>
    isLine k.line && k.pair.all isSection && isLever k.home && c.fittedTrack k.clearing && c.fittedTrack k.entry
  | .offering =>
    isLine k.line && k.pair.all isSection && isLever k.starting && c.fittedTrack k.exit && k.berth.all c.fittedTrack

/-- The role that a paired section has. -/
def Role.other : Role → Role
  | .accepting => .offering
  | .offering => .accepting
  | .unused => .unused

/-- Section `x` may name section `p` as its pair (R71). -/
def Conf.pairFits (c : Conf) (x p : Nat) : Bool :=
  (c.sec p).role = (c.sec x).role.other && (c.sec p).line ≠ (c.sec x).line && (c.sec p).pair = some x

/-- The pairings that section `x` is in are consistent, whichever side names the other (R71). -/
def Conf.pairingFits (c : Conf) (x : Nat) : Bool :=
  ((c.sec x).role = .unused || (c.sec x).pair.all (c.pairFits x)) &&
    (Tab.numbers 6).all fun y => (c.sec y).role = .unused || (c.sec y).pair ≠ some x || c.pairFits y x

/-- The signal lever of a section in use: home or starting (R71). -/
def Conf.signalOf (c : Conf) (x : Nat) : Option Nat :=
  match (c.sec x).role with
  | .accepting => some (c.sec x).home
  | .offering => some (c.sec x).starting
  | .unused => none

/-- Check 5 for a section (R71). -/
def Conf.sectionFits (c : Conf) (x : Nat) : Bool :=
  let k := c.sec x
  let alone := k.role = .unused || (Tab.numbers 6).all fun y => y == x || (c.sec y).role ≠ k.role || (c.sec y).line ≠ k.line
  let signal := (c.signalOf x).all fun n => c.signalLever n &&
    (Tab.numbers 6).all fun y => y == x || c.signalOf y ≠ some n
  let tracks := match k.role with
    | .accepting => c.runningTrack k.clearing && c.runningTrack k.entry && k.clearing ≠ k.entry
    | .offering => c.runningTrack k.exit && k.berth.all c.runningTrack
    | .unused => true
  alone && c.pairingFits x && signal && tracks

/-- Check 6 for a section (R40, R71); the entry that breaks it has been met before (DEDUCED log 18). -/
def Conf.startingFits (c : Conf) (x : Nat) : Bool :=
  (c.sec x).role ≠ .offering ||
    ((c.entry (c.sec x).starting .a .toReverse).contains (.lcr x) &&
      (c.entry (c.sec x).starting .b .toReverse).contains (.lcr x))

/-- The checks of a section. -/
def Conf.checkSection (c : Conf) (x : Nat) : Option Nat :=
  if !c.sectionIndices x then some 1
  else if !c.sectionFits x then some 5
  else if !c.startingFits x then some 6
  else none

/-- Check 7: a valid pattern (R97). -/
def patternFits (p : List Nat) : Bool :=
  !p.isEmpty && decide (p.length ≤ 6) && p.all (fun g => 1 ≤ g && g ≤ 9) && decide (p.sum ≤ 24)

/-- The checks of a code entry. -/
def Conf.checkCode (c : Conf) (e : Nat) : Option Nat :=
  let k := c.code e
  if !k.inUse then none
  else if !patternFits k.pattern then some 7
  else if (Tab.numbers 32).any fun f => f != e && (c.code f).inUse && (c.code f).pattern == k.pattern then some 8
  else none

/-- The index lies in the range that a source kind requires (R173). -/
def SourceKind.indexFits (k : SourceKind) (n : Nat) : Bool :=
  match k with
  | .leverNormal | .leverReverse | .leverFree | .leverFaultMark | .holdExists | .timeReleaseReady => isLever n
  | .trackOccupied | .trackMarked => isTrack n
  | .sectionLB | .sectionLC | .sectionTOL | .sectionDisagreement | .sectionThrough | .releaseAvailable => isSection n
  | .codeOwed | .codeOutstanding | .codeReceived => isLine n
  | .alertActive => n ≤ 12
  | .boxSwitchedOut | .none => true

/-- The display mode fits the source kind (R173). -/
def IndicationConf.displayFits (k : IndicationConf) : Bool :=
  k.source = .none || (decide (k.source = .codeReceived) == decide (k.display = .pulse))

/-- The check of an indication. -/
def Conf.checkIndication (c : Conf) (i : Nat) : Option Nat :=
  let k := c.indication i
  if k.displayFits && k.source.indexFits k.index then none else some 9

/-- The accepting section of line `a` is paired with the offering section of line `b` (R163). -/
def Conf.mirrored (c : Conf) (a b : Nat) : Bool :=
  match c.sectionsOf .accepting a, c.sectionsOf .offering b with
  | [x], [y] => (c.sec x).pair = some y
  | _, _ => false

/-- The checks of the switch-out record. -/
def Conf.checkSwitchOut (c : Conf) : Option Nat :=
  let k := c.switchOut
  if !(isLine k.lineA && isLine k.lineB) then some 1
  else if k.may && !(k.lineA ≠ k.lineB && c.mirrored k.lineA k.lineB && c.mirrored k.lineB k.lineA) then some 10
  else none

/-- The checks of an item (Table 12.2); classes 0, 5, 8 and 10 have none. -/
def Conf.checkItem (c : Conf) (cls index : Nat) : Option Nat :=
  match cls with
  | 1 => c.checkEntry index
  | 2 => c.checkHold index
  | 3 => c.checkTrack index
  | 4 => c.checkSection index
  | 6 => c.checkCode index
  | 7 => c.checkIndication index
  | 9 => c.checkSwitchOut
  | _ => none

/-- The items in class order and index order (Table 12.1). -/
def allItems : List (Nat × Nat) :=
  let those (cls n : Nat) := (Tab.numbers n).map fun i => (cls, i)
  those 0 24 ++ those 1 96 ++ those 2 24 ++ those 3 16 ++ those 4 6 ++ those 5 3 ++ those 6 32 ++ those 7 32 ++
    [(8, 0), (9, 0), (10, 0)]

/-- The first failure of a list of items. -/
def Conf.firstFail (c : Conf) : List (Nat × Nat) → Option CheckFail
  | [] => none
  | (cls, i) :: rest =>
    match c.checkItem cls i with
    | some k => some ⟨cls, i, k⟩
    | none => c.firstFail rest

/-- Validation: the first failure of the configuration, none where every item passes (R199). -/
def Conf.validate (c : Conf) : Option CheckFail := c.firstFail allItems

end Sys2Proof
end

