-- ==== Sys2Proof/Machine/Modes.lean ====
section
/-!
DEFINITION. The Mode Control and the Configuration Store (Chapter 12): power, resets, the start interval, HOLD,
RESUME, RESTART, WRITE_CONFIG, the store write, and the box clock.
-/

namespace Sys2Proof.Machine

/-! ### The store (R194) -/

/-- The store with its working copy loaded from the items in force and the written flag clear (R194, R197). -/
def Store.loaded (c : Store) : Store := { c with working := c.inForce, written := false }

/-- A persistent counter as power-on leaves it: both copies hold the value taken (R194). -/
def PCounter.repaired (c : PCounter) : PCounter := ⟨some c.value, some c.value⟩

/-- Both copies of the counter are bad (R194). -/
def PCounter.bothBad (c : PCounter) : Bool := c.first.isNone && c.second.isNone

/-- The store at power-on: counters read and repaired, the fault flag set when both copies of one were bad, the
working copy loaded (R189, R194). -/
def Store.atPowerOn (c : Store) : Store :=
  { c.loaded with
    releases := c.releases.mapAll PCounter.repaired
    forced := c.forced.mapAll PCounter.repaired
    marks := c.marks.mapAll PCounter.repaired
    fault := c.releases.toList.any PCounter.bothBad || c.forced.toList.any PCounter.bothBad ||
      c.marks.toList.any PCounter.bothBad }

/-- A counter whose increment a loss of power cuts short: the copy being written has a bad check (R194, DESIGN
CHOICE log 10). -/
def PCounter.cut (c : PCounter) (second : Bool) : PCounter :=
  if second then ⟨some (satAdd counterTop c.value), none⟩ else ⟨none, c.second⟩

/-- The items of a store write cut short: each is the old one or the new one, freely (R199, DESIGN CHOICE log 9). -/
def cutItems (n : Nat) (old new : Conf) : Conf :=
  let pick {k : Nat} {α : Type} (cls : Nat) (d : α) (a b : Tab k α) : Tab k α :=
    Tab.build k fun i => if Config.cutItemIsNew n cls i then b.get d i else a.get d i
  let one {α : Type} (cls : Nat) (a b : α) : α := if Config.cutItemIsNew n cls 0 then b else a
  { leverKinds := pick 0 .spare old.leverKinds new.leverKinds
    entries := pick 1 [] old.entries new.entries
    holdDefs := pick 2 {} old.holdDefs new.holdDefs
    tracks := pick 3 {} old.tracks new.tracks
    sections := pick 4 {} old.sections new.sections
    lines := pick 5 {} old.lines new.lines
    codes := pick 6 {} old.codes new.codes
    indications := pick 7 {} old.indications new.indications
    threshold := one 8 old.threshold new.threshold
    switchOut := one 9 old.switchOut new.switchOut
    enables := one 10 old.enables new.enables }

/-- A store write in progress is cut short: the old check word stands over items partly new, and is bad (R199). -/
def State.cutStoreWrite (s : State) : State :=
  if s.control.writing then
    State.putStore { s.store with inForce := cutItems s.choices s.store.inForce s.store.working, checkGood := false }
      { s with choices := s.choices + 1 }
  else s

/-! ### Resets (R195) -/

/-- An accepting section at a warm restart: LC is forced to TOL and assumed (R85). The mark of a
section forced before is kept until a start notice carries it (DESIGN CHOICE log 35). -/
def Accepting.warm (a : Accepting) : Accepting :=
  if a.state = .lc then { (a.enterTol false) with assumed := true, forced := true } else a

/-- The switch position at a reset: the position whose contact alone is made, TOL otherwise (R85). -/
def State.switchAtReset (s : State) (x : Nat) : LineState := ((s.contacts x).position).getD .tol

/-- A section at power-on (R85, R90). -/
def State.sectionAtPowerOn (s : State) (x : Nat) : Sec := { acc := { switch := s.switchAtReset x } }

/-- A section at a warm restart (R85, R90). Under roles `old` and `new` that differ it begins in its power-on state
(DESIGN CHOICE log 20). -/
def State.sectionAtRestart (s : State) (old new : Role) (x : Nat) : Sec :=
  let k := s.sec x
  if old = new then
    { acc := k.acc.warm, off := { k.off with timer := none } }
  else s.sectionAtPowerOn x

/-- The register at a warm restart: records kept, links cleared, graces discarded (R145, R161). -/
def Register.warm (g : Register) : Register :=
  { g with
    records := g.records.mapAll fun x => { x with grace := none }
    owedOffer := Tab.rep 3 none
    outstandingOffer := Tab.rep 3 none }

/-- A warm restart (R195), into the configuration that the store holds; `old` is the one that was in force. The
interval is stopped while the reset line is low. -/
def State.warmRestart (cause : ResetCause) (old : Conf) (s : State) : State :=
  let s := (((s.resetTracks true).resetLevers true).putHolds []).resetBells
  let s := { s with
    sections := Tab.build 6 fun x => s.sectionAtRestart (old.sec x).role (s.conf.sec x).role x
    link := {}
    store := s.store.loaded }
  let s := (s.resetPanel).putRegister s.register.warm
  s.putControl { s.control with
    mode := .start
    interval := if s.inputs.resetLow then none else some (s.now + 2000)
    cause, relayOn := false, through := none, after := none, writing := false }

/-- The supply is lost: everything but the store and the persistent counters goes (95 LOSS_OF_POWER, DESIGN
CHOICE log 30). -/
def State.powerLost (cut : Option CounterCut) (s : State) : State :=
  let s := s.cutStoreWrite
  let store := match cut with
    | some c => s.store.putCounter c.counter ((s.store.counter c.counter).cut c.second)
    | none => s.store
  { State.reset with
    now := s.now, powered := false, inputs := s.inputs, choices := s.choices, pending := s.pending
    control := { interval := none }
    store := { store.loaded with fault := false } }

/-- The supply is applied (R195): every unit in its power-on state. -/
def State.powerUp (s : State) : State :=
  let s := { State.reset with
    now := s.now, inputs := s.inputs, choices := s.choices, pending := s.pending
    store := s.store.atPowerOn
    sections := Tab.build 6 s.sectionAtPowerOn
    control := {
      interval := if s.inputs.resetLow then none else some (s.now + 2000)
      clock := { nextAt := s.now + 1000 } } }
  s.resetLevers false

/-- The reset line has stayed low (R195): the part stays in reset until it goes high. A store write in progress is cut
short (R199), and the roles that held before it are those that the sections restart from. -/
def State.resetLineReset (s : State) : State := s.cutStoreWrite.warmRestart .resetLine s.conf

/-- The reset line goes high again (R195): the start interval begins to count. -/
def State.resetLineReleased (s : State) : State :=
  if s.control.mode = .start && s.control.interval.isNone then
    s.putControl { s.control with interval := some (s.now + 2000) }
  else s

/-! ### The end of the start interval (R196) -/

/-- A section at the end of a start interval that ends in RUNNING (R85, R90). The cause of the notice *start* is a flag,
set for *restart* (DESIGN CHOICE log 15). -/
def State.sectionStarts (s : State) (x : Nat) : State :=
  let k := s.sec x
  match (s.conf.sec x).role with
  | .accepting =>
    let a := if k.acc.state = .through then k.acc else k.acc.compare
    (s.putAcc x { a with forced := false }).emit .secStart x (bFlag a.forced)
  | .offering => s.putOff x { k.off with timer := some (s.now + 100) }
  | .unused => s

/-- The sections at the end of a start interval that ends in RUNNING. -/
def State.sectionsStart (s : State) : State := (Tab.numbers 6).foldl State.sectionStarts s

/-- Every unit's rule for the end of a start interval (R7, R18, R45, R68, R85, R90, R110, R126, R172, R176). -/
def State.unitsStart (s : State) : State :=
  if s.control.mode = .running then
    ((((((s.tracksStart).switchingStarts).leversStart).startUpHolds).sectionsStart).bellsStart).panelStarts
  else (s.leversStart).panelStarts

/-- What a MODE notice (*started*) carries (R196). -/
def State.startedFields (s : State) : List Byte :=
  s.control.mode.bytes ++ b1 s.control.cause.ord ++ b1 s.control.box.ord ++ bFlag s.control.clock.unset

/-- The start interval expires (R196). The notice *started* comes first, and reports the state after the event. -/
def State.intervalEnds (s : State) : State :=
  let mode : Mode := if s.store.checkGood then .running else .held .invalid
  let s := s.putControl { s.control with mode, interval := none, base := s.now }
  let s := s.unitsStart.settle
  { s with emitted := ⟨.modeStarted, 0, s.startedFields⟩ :: s.emitted }

/-! ### Requests (R197 to R201) -/

/-- HOLD (R197). The notice *held* comes first, then the withdrawn releases of the levers (R43), then the cancelled
time releases (R67), as R197 lists them. -/
def State.holdPart (s : State) : Result × List Byte × State :=
  if s.control.mode = .running then
    let s := (s.putControl { s.control with mode := .held .hold }).putStore s.store.loaded
    (.ok, [], (((s.emit .modeHeld 0 []).leversOnHold).settle).holdsOnHold)
  else (.refusedState, [], s)

/-- WRITE_CONFIG (R198). -/
def State.writeConfig (body : List Byte) (s : State) : Result × List Byte × State :=
  match s.control.mode with
  | .held _ =>
    match writeBody s.store.working body with
    | some c => (.ok, [], s.putStore { s.store with working := c, written := true })
    | none => (.badRequest, [], s)
  | _ => (.refusedState, [], s)

/-- RESUME with every item passing: back to RUNNING, or the store write after the reply (R199). -/
def State.resumePasses (s : State) : Result × List Byte × State :=
  if s.store.written then (.ok, [], s.putControl { s.control with after := some .storeWrite })
  else (.ok, [], (s.putControl { s.control with mode := .running }).emit .modeResumed 0 [] |>.settle)

/-- RESUME (R199). -/
def State.resumePart (s : State) : Result × List Byte × State :=
  match s.control.mode with
  | .held cause =>
    if cause = .invalid && !s.store.written then (.refusedState, [], s)
    else match s.store.working.validate with
      | some f => (.conditions, b1 1 ++ bObject (.item f.index f.cls f.check), s)
      | none => s.resumePasses
  | _ => (.refusedState, [], s)

/-- RESTART (R200). -/
def State.restartPart (s : State) : Result × List Byte × State :=
  match s.control.mode with
  | .start => (.refusedState, [], s)
  | _ => (.ok, [], s.putControl { s.control with after := some .restart })

/-- SET_CLOCK (R201). -/
def State.setClock (day second : Nat) (s : State) : Result × List Byte × State :=
  if 86399 < second then (.badRequest, [], s)
  else
    let before := s.stamp
    let s := s.putControl { s.control with clock := ⟨day, second, false, s.now + 1000⟩ }
    (.ok, [], s.emit .modeClockSet 0 (bStamp before ++ bStamp s.stamp))

/-! ### The box clock (R201) -/

/-- The clock one second on. -/
def Clock.tick (c : Clock) : Clock :=
  let c := { c with nextAt := c.nextAt + 1000 }
  if c.second < 86399 then { c with second := c.second + 1 }
  else { c with second := 0, day := if c.day < 65535 then c.day + 1 else 0 }

/-- A second of the timebase has passed. -/
def State.clockTicks (s : State) : State :=
  if s.control.clock.nextAt ≤ s.now then s.putControl { s.control with clock := s.control.clock.tick } else s

/-! ### Resets that follow a reply (R190, R199, R200, DEDUCED log 8) -/

/-- The reply that a reset waits for has gone out: its slot is empty, or it is being sent (DEDUCED log 8). -/
def State.replyGoes (s : State) : Bool := s.link.slot.isNone || s.link.tx = .reply

/-- The last byte of the RESTART reply has been sent. -/
def State.restartReset (s : State) : State :=
  if s.control.after = some .restart && s.replyGoes then s.warmRestart .restart s.conf else s

/-- The last byte of a RESUME reply has been sent after writes: the store write begins. -/
def State.storeWriteBegins (s : State) : State :=
  if s.control.after = some .storeWrite && s.replyGoes then
    (s.putControl { s.control with after := none, writing := true }).putLink { s.link with
      slot := none
      tx := if s.link.tx = .reply then .idle else s.link.tx }
  else s

/-- The store write is done: the working copy is in force with a good check word, and the part restarts on it. -/
def State.storeWriteEnds (s : State) : State :=
  if s.control.writing then
    let old := s.conf
    (s.putStore { s.store with inForce := s.store.working, checkGood := true }).warmRestart .restart old
  else s

end Sys2Proof.Machine
end

