-- ==== Sys2Proof/Machine/Requests.lean ====
section
/-!
DEFINITION. The requests on route holds, sections and records (R60, R62, R64, R86, R143, R144), and the reading,
testing and serving of every request (R183, R185, R188, R190).
-/

namespace Sys2Proof.Machine

/-- What a request gives: its result, the rest of the reply body, and the state after it (R185). -/
abbrev Served := Result × List Byte × State

/-! ### Route holds (R60, R62, R64) -/

/-- The time release of a hold starts (R60). -/
def State.releaseStarts (h : Hold) (prior : PriorState) (s : State) : State :=
  let period := ((s.conf.holdDef h.signal).map (·.period)).getD 0
  (s.putHold { h with state := .timing, prior := some prior, timer := some (s.now + period) }).emit .holdStarted h.signal
    (b1 prior.ord ++ b4 period)

/-- The state of a hold that a time release may start from, as its prior state (R60). -/
def HoldState.startable : HoldState → Option PriorState
  | .holding => some .holding
  | .irregular => some .irregular
  | _ => none

/-- TIME_RELEASE_START (R60). It goes by the stored definition in every mode (DEDUCED log 28). -/
def State.timeReleaseStart (n : Nat) (s : State) : Served :=
  if (s.conf.holdDef n).isNone then (.noSuch, [], s)
  else match s.hold? n with
    | none => (.refusedState, [], s)
    | some h =>
      if s.control.mode ≠ .running then (.refusedState, [], s)
      else match h.state.startable with
        | some p => if s.standing n = .normal then (.ok, [], s.releaseStarts h p) else (.refusedState, [], s)
        | none => (.refusedState, [], s)

/-- TIME_RELEASE_CONFIRM (R62). It goes by the stored definition in every mode (DEDUCED log 28). -/
def State.timeReleaseConfirm (n : Nat) (s : State) : Served :=
  if (s.conf.holdDef n).isNone then (.noSuch, [], s)
  else match s.hold? n with
    | none => (.refusedState, [], s)
    | some h =>
      if h.state = .ready && s.standing n = .normal then (.ok, [], ((s.removeHold n .timeRelease).count (.release n)).settle)
      else (.refusedState, [], s)

/-- TIME_RELEASE_CANCEL (R64). It goes by the stored definition in every mode (DEDUCED log 28). -/
def State.timeReleaseCancel (n : Nat) (s : State) : Served :=
  if (s.conf.holdDef n).isNone then (.noSuch, [], s)
  else match s.hold? n with
    | none => (.refusedState, [], s)
    | some h =>
      if h.releasing then (.ok, [], ((s.cancelTimeRelease h .signalman).testRelease n).settle) else (.refusedState, [], s)

/-! ### Sections (R86) -/

/-- The first condition of SECTION_RESTORE that fails for an accepting section, with its object; of several records that
hold the section, the oldest (R86, DEDUCED log 19). -/
def State.restoreFail (s : State) (x : Nat) : Option (Nat × CondObject) :=
  let c := s.conf.sec x
  let a := (s.sec x).acc
  if a.state ≠ .tol || !a.assumed then some (1, .sec x)
  else if !s.clear c.clearing then some (2, .track c.clearing)
  else if !s.clear c.entry then some (3, .track c.entry)
  else (s.holdingRecord x).map fun r => (4, .record r)

/-- A section is restored to LB (R86). -/
def State.restoreSection (x : Nat) (s : State) : State :=
  let a := Accepting.compare { (s.sec x).acc with state := .lb, assumed := false, unregistered := false }
  ((s.putAcc x a).emit .secStateChanged x (b1 SecCause.restore.ord)).emit .secRestored x []

/-- SECTION_RESTORE (R86, R190). -/
def State.sectionRestore (x : Nat) (s : State) : Served :=
  if s.invalid then (.refusedState, [], s)
  else if !s.isAccepting x then (.noSuch, [], s)
  else match s.restoreFail x with
    | some (k, o) => (.conditions, b1 k ++ bObject o, s)
    | none => (.ok, [], s.restoreSection x)

/-! ### Records (R143, R144) -/

/-- CLOSE_RECORD (R144). -/
def State.closeRecord (r : Nat) (s : State) : Served :=
  if s.isOpen r then (.ok, [], s.complete r .closedBySignalman)
  else if s.isComplete r then (.refusedState, [], s)
  else (.noSuch, [], s)

/-- COLLECT_RECORD (R143). -/
def State.collectRecord (r : Nat) (s : State) : Served :=
  if s.isComplete r then (.ok, [], s.collect r)
  else if s.isOpen r then (.refusedState, [], s)
  else (.noSuch, [], s)

/-! ### Reading a request from its frame (R183, R190) -/

/-- A request whose body is one field. -/
def oneField (kind : Byte) (f : Byte → Request) : List Byte → Request
  | [a] => f a
  | _ => .malformed kind

/-- A request with no fields. -/
def noField (kind : Byte) (r : Request) : List Byte → Request
  | [] => r
  | _ => .malformed kind

/-- The body of SEND_BELL: line, entry, optional record. -/
def sendBellFields : List Byte → Request
  | [l, e, p] => if p = 0 then .sendBell l e none else .malformed 0x10
  | [l, e, p, r] => if p = 1 then .sendBell l e (some r) else .malformed 0x10
  | _ => .malformed 0x10

/-- The body of SET_CLOCK: day (2 bytes), seconds of the day (4 bytes). -/
def setClockFields : List Byte → Request
  | [d1, d0, s3, s2, s1, s0] => .setClock (d1 ++ d0) (s3 ++ s2 ++ s1 ++ s0)
  | _ => .malformed 0x1C

/-- The body of READ_CONFIG: class, index. -/
def readConfigFields : List Byte → Request
  | [c, i] => .readConfig c i
  | _ => .malformed 0x0A

/-- The request that a frame of a kind with a body spells (R190). -/
def Request.parse (kind : Byte) (body : List Byte) : Request :=
  match kind.toNat with
  | 0x01 => noField kind .status body
  | 0x02 => oneField kind .readLevers body
  | 0x03 => oneField kind .readTracks body
  | 0x04 => oneField kind .readSections body
  | 0x05 => oneField kind .readHolds body
  | 0x06 => oneField kind .readLines body
  | 0x07 => oneField kind .listRecords body
  | 0x08 => oneField kind .readRecord body
  | 0x09 => oneField kind .readAlerts body
  | 0x0A => readConfigFields body
  | 0x0B => oneField kind .readCounters body
  | 0x10 => sendBellFields body
  | 0x11 => oneField kind .timeReleaseStart body
  | 0x12 => oneField kind .timeReleaseConfirm body
  | 0x13 => oneField kind .timeReleaseCancel body
  | 0x14 => oneField kind .sectionRestore body
  | 0x15 => oneField kind .closeRecord body
  | 0x16 => oneField kind .collectRecord body
  | 0x17 => noField kind .switchOut body
  | 0x18 => noField kind .switchIn body
  | 0x19 => noField kind .lampTest body
  | 0x1A => noField kind .ackAlerts body
  | 0x1B => noField kind .clearAlerts body
  | 0x1C => setClockFields body
  | 0x20 => noField kind .hold body
  | 0x21 => noField kind .resume body
  | 0x22 => .writeConfig body
  | 0x23 => oneField kind .trackRestore body
  | 0x24 => oneField kind .clearSticky body
  | 0x25 => noField kind .restart body
  | _ => .unknown kind

/-- The kind byte of a request (R190). -/
def Request.kind : Request → Byte
  | .unknown k => k
  | .malformed k => k
  | .status => 0x01
  | .readLevers _ => 0x02
  | .readTracks _ => 0x03
  | .readSections _ => 0x04
  | .readHolds _ => 0x05
  | .readLines _ => 0x06
  | .listRecords _ => 0x07
  | .readRecord _ => 0x08
  | .readAlerts _ => 0x09
  | .readConfig _ _ => 0x0A
  | .readCounters _ => 0x0B
  | .sendBell _ _ _ => 0x10
  | .timeReleaseStart _ => 0x11
  | .timeReleaseConfirm _ => 0x12
  | .timeReleaseCancel _ => 0x13
  | .sectionRestore _ => 0x14
  | .closeRecord _ => 0x15
  | .collectRecord _ => 0x16
  | .switchOut => 0x17
  | .switchIn => 0x18
  | .lampTest => 0x19
  | .ackAlerts => 0x1A
  | .clearAlerts => 0x1B
  | .setClock _ _ => 0x1C
  | .hold => 0x20
  | .resume => 0x21
  | .writeConfig _ => 0x22
  | .trackRestore _ => 0x23
  | .clearSticky _ => 0x24
  | .restart => 0x25

/-- The body of a request as the host sends it (R190). -/
def Request.body : Request → List Byte
  | .readLevers a | .readTracks a | .readSections a | .readHolds a | .readLines a | .listRecords a | .readRecord a
  | .readAlerts a | .readCounters a | .timeReleaseStart a | .timeReleaseConfirm a | .timeReleaseCancel a
  | .sectionRestore a | .closeRecord a | .collectRecord a | .trackRestore a | .clearSticky a => [a]
  | .readConfig c i => [c, i]
  | .sendBell l e none => [l, e, 0]
  | .sendBell l e (some r) => [l, e, 1, r]
  | .setClock d t => b2 d.toNat ++ b4 t.toNat
  | .writeConfig b => b
  | _ => []

/-! ### The tests of a request (R185, R188) -/

/-- The kind of a reply: the request's with 80h added, FFh for an unknown kind (R183). -/
def Request.replyKind : Request → Byte
  | .unknown _ => 0xFF
  | r => r.kind + 0x80

/-- The request is of the Technician class (R190). -/
def Request.technician (r : Request) : Bool := 0x20 ≤ r.kind.toNat

/-- The body has its length and every field its range (R185 test 3). WRITE_CONFIG is not tested here. -/
def Request.fits : Request → Bool
  | .unknown _ => false
  | .malformed _ => false
  | .readLevers a | .readHolds a => isLever a.toNat
  | .readTracks a => isTrack a.toNat
  | .readSections a => isSection a.toNat
  | .readLines a => isLine a.toNat
  | .listRecords a => a.toNat ≤ 2
  | .readRecord a => isRecord a.toNat
  | .readAlerts a => 1 ≤ a.toNat && a.toNat ≤ 16
  | .readConfig c i => itemExists c.toNat i.toNat
  | .readCounters a => 1 ≤ a.toNat && a.toNat ≤ 69
  | .sendBell l e r => isLine l.toNat && isIndication e.toNat && r.all fun k => isRecord k.toNat
  | .timeReleaseStart a | .timeReleaseConfirm a | .timeReleaseCancel a => isLever a.toNat
  | .sectionRestore a => isSection a.toNat
  | .closeRecord a | .collectRecord a => isRecord a.toNat
  | .setClock _ t => t.toNat ≤ 86399
  | .trackRestore a => isTrack a.toNat
  | .clearSticky a => a.toNat ≤ 24
  | .status | .switchOut | .switchIn | .lampTest | .ackAlerts | .clearAlerts | .hold | .resume | .writeConfig _
  | .restart => true

/-- The first test of R185 that a request fails; none where it is handed to its owner. -/
def State.requestFail (s : State) (r : Request) : Option Result :=
  match r with
  | .unknown _ => some .badRequest
  | _ =>
    if r.technician && !s.inputs.key then some .notPermitted
    else if !r.fits then some .badRequest
    else none

/-! ### Serving (R190) -/

/-- A read: OK with a body, nothing changed. -/
def State.readOut (body : List Byte) (s : State) : Served := (.ok, body, s)

/-- A request is taken by its owning unit (R185, R190). -/
def State.own (r : Request) (s : State) : Served :=
  match r with
  | .unknown _ | .malformed _ => (.badRequest, [], s)
  | .status => (.ok, s.statusBytes, s.putLink { s.link with lostSinceStatus := 0 })
  | .readLevers a => s.readOut (pageBody (entriesFrom 24 a.toNat s.leverEntry) [])
  | .readTracks a => s.readOut (pageBody (entriesFrom 16 a.toNat s.trackEntry) [])
  | .readSections a => s.readOut (pageBody (entriesFrom 6 a.toNat s.sectionEntry) [])
  | .readHolds a =>
    s.readOut (pageBody ((s.holds.filter (a.toNat ≤ ·.signal)).map fun h => (h.signal, s.holdEntry h)) [])
  | .readLines a => s.readOut (pageBody (entriesFrom 3 a.toNat s.lineEntry) [])
  | .listRecords a => s.readOut (s.listBytes a.toNat)
  | .readRecord a =>
    if s.isOpen a.toNat || s.isComplete a.toNat then s.readOut (s.recordBytes a.toNat) else (.noSuch, [], s)
  | .readAlerts a =>
    s.readOut (pageBody (s.alertEntries a.toNat) (if a.toNat = 1 then s.alertExtras else []))
  | .readConfig c i => s.readOut (itemBytes s.conf c.toNat i.toNat)
  | .readCounters a => s.readOut (pageBody (entriesFrom 69 a.toNat s.counterEntry) [])
  | .sendBell l e k => s.sendBell l.toNat e.toNat (k.map (·.toNat))
  | .timeReleaseStart a => s.timeReleaseStart a.toNat
  | .timeReleaseConfirm a => s.timeReleaseConfirm a.toNat
  | .timeReleaseCancel a => s.timeReleaseCancel a.toNat
  | .sectionRestore a => s.sectionRestore a.toNat
  | .closeRecord a => s.closeRecord a.toNat
  | .collectRecord a => s.collectRecord a.toNat
  | .switchOut => s.switchOut
  | .switchIn => s.switchIn
  | .lampTest => (.ok, [], s.startLampTest)
  | .ackAlerts => s.ackAlerts
  | .clearAlerts => s.clearAlerts
  | .setClock d t => s.setClock d.toNat t.toNat
  | .hold => s.holdPart
  | .resume => s.resumePart
  | .writeConfig b => s.writeConfig b
  | .trackRestore a => s.trackRestore a.toNat
  | .clearSticky a => s.clearSticky a.toNat
  | .restart => s.restartPart

/-- A request is taken: tested, then owned (R185). A refused request changes nothing. -/
def State.serve (r : Request) (s : State) : Served :=
  match s.requestFail r with
  | some k => (k, [], s)
  | none => s.own r

end Sys2Proof.Machine
end

