-- ==== Sys2Proof/Machine/Link.lean ====
section
/-!
DEFINITION. The Link Controller (Chapter 11): the receive assembler, the request queue and the reply slot, the notice
outbox, the transmitter, and the close of every event.
-/

namespace Sys2Proof.Machine

/-! ### The request queue (R186) -/

/-- The request at the head of the queue is taken when the reply slot is empty (R186), and none while a reset waits
for a reply or the store is being written (R190). -/
def State.takeNext (s : State) : State :=
  if s.link.slot.isSome || s.control.after.isSome || s.control.writing then s
  else match s.link.queue with
    | [] => s
    | q :: rest =>
      let r := (s.putLink { s.link with queue := rest }).serve q.request
      r.2.2.putLink { r.2.2.link with slot := some ⟨q.request.replyKind, q.tag, r.1, r.2.1⟩ }

/-- An assembled frame joins the queue, or is discarded and counted when four wait (R186). -/
def State.enqueue (q : Queued) (s : State) : State :=
  if s.link.queue.length < 4 then s.putLink { s.link with queue := s.link.queue ++ [q] }
  else s.putLink { s.link with discarded := satAdd 65535 s.link.discarded }

/-- A frame is assembled: it joins the queue, and the head is taken where the slot is empty. In the start interval no
frame is taken (R186, R193). -/
def State.submit (tag : Byte) (r : Request) (s : State) : State :=
  if s.control.mode = .start then s else (s.enqueue ⟨tag, r⟩).takeNext

/-! ### The assembler (R184) -/

/-- The assembler hunting, with nothing gathered. -/
def Link.hunt (k : Link) : Link := { k with asm := { k.asm with state := .hunt, bytes := [] } }

/-- A link error counted. -/
def Link.error (k : Link) : Link := { k with linkErrors := satAdd 65535 k.linkErrors }

/-- The assembler keeps a byte and moves to a state. -/
def Link.keep (k : Link) (a : AsmState) (b : Byte) (now : Time) : Link :=
  { k with asm := ⟨a, k.asm.bytes ++ [b], now⟩ }

/-- The last byte of a frame: the check is compared (R184). -/
def State.frameEnds (last : Byte) (s : State) : State :=
  let bytes := s.link.asm.bytes
  let k := s.link.hunt
  match bytes.dropLast, bytes.getLast? with
  | len :: kind :: tag :: body, some hi =>
    if crc (len :: kind :: tag :: body) = hi ++ last then (s.putLink k).submit tag (Request.parse kind body)
    else s.putLink k.error
  | _, _ => s.putLink k.error

/-- The assembler takes a byte of a frame with no framing error and no gap (R184). -/
def State.assemble (b : Byte) (s : State) : State :=
  let k := s.link
  let len := ((k.asm.bytes.head?).map (·.toNat)).getD 0
  match k.asm.state with
  | .hunt => if b = 0x5A then s.putLink { k with asm := ⟨.length, [], s.now⟩ } else s
  | .length => if b.toNat ≤ 240 then s.putLink (k.keep .kind b s.now) else s.putLink k.hunt.error
  | .kind => s.putLink (k.keep .tag b s.now)
  | .tag => s.putLink (k.keep (if len = 0 then .check else .body) b s.now)
  | .body => s.putLink (k.keep (if k.asm.bytes.length + 1 < len + 3 then .body else .check) b s.now)
  | .check => if k.asm.bytes.length < len + 4 then s.putLink (k.keep .check b s.now) else s.frameEnds b

/-- More than 50 ms have passed since the last byte of a frame (R184). -/
def State.gapped (s : State) : Bool := s.link.asm.state ≠ .hunt && decide (s.link.asm.lastAt + 50 < s.now)

/-- The frame being assembled is abandoned for its gap (R184). -/
def State.abandonFrame (s : State) : State :=
  s.putLink { s.link.hunt with abandoned := satAdd 65535 s.link.abandoned }

/-- A byte is received (R182, R184, R193). A framing error is counted whenever the byte comes. A byte that comes too
late is part of the frame it abandons (DEDUCED log 24). -/
def State.byteArrives (b : Byte) (framingError : Bool) (s : State) : State :=
  if s.control.mode = .start then s
  else if s.gapped then
    let s := s.abandonFrame
    if framingError then s.putLink s.link.error else s
  else if framingError then s.putLink s.link.hunt.error
  else s.assemble b

/-- The gap passes with no byte (R184). -/
def State.gapPasses (s : State) : State := if s.gapped then s.abandonFrame else s

/-! ### The outbox and the transmitter (R187, R191, R192) -/

/-- Notices of a kind are sent: every kind in HELD with configuration invalid (R191). -/
def State.sends (s : State) (k : NoticeKind) : Bool := s.invalid || s.conf.enables.get true k.number

/-- A notice is placed in the outbox, or is lost and counted when it holds 32 (R192). -/
def Link.place (k : Link) (n : Notice) : Link :=
  if k.outbox.length < 32 then { k with outbox := k.outbox ++ [n] }
  else { k with lost := satAdd 65535 k.lost, lostSinceStatus := satAdd 65535 k.lostSinceStatus }

/-- The notices of the event, each with its body from the state as it stands (R191). None is placed in the start
interval (R193). -/
def State.flush (s : State) : State :=
  let sent := if s.control.mode = .start then [] else s.emitted.filter fun d => s.sends d.event.kind
  { s with emitted := [], link := (sent.map s.noticeOf).foldl Link.place s.link }

/-- An idle transmitter takes the next frame: the reply, else the oldest notice (R187, R193). -/
def State.kick (s : State) : State :=
  if s.control.mode = .start || s.link.tx ≠ .idle then s
  else if s.link.slot.isSome then s.putLink { s.link with tx := .reply }
  else if s.link.outbox.isEmpty then s
  else s.putLink { s.link with tx := .notice }

/-- The last byte of the frame being sent has gone (R187, R192). -/
def State.frameGoes (s : State) : State :=
  match s.link.tx with
  | .idle => s
  | .reply => State.takeNext (s.putLink { s.link with slot := none, tx := .idle })
  | .notice => s.putLink { s.link with outbox := s.link.outbox.tail, tx := .idle }

/-- The close of an event: its notices are placed and an idle transmitter starts. -/
def State.close (s : State) : State := s.flush.kick

/-! ### Events -/

/-- An event at a time: a powered part takes it whole (DESIGN CHOICE log 1, DESIGN CHOICE log 6). -/
def State.event (tm : Time) (f : State → State) (s : State) : State :=
  let s := s.advance tm
  if s.powered then (f s).close else s

/-- A change at the terminals at a time: the terminals follow, and a powered part takes the change; what changes
nothing is no event (DEDUCED log 4). -/
def State.terminal (tm : Time) (i : Inputs → Inputs) (f : State → State) (s : State) : State :=
  let s := s.advance tm
  if i s.inputs = s.inputs then s
  else
    let s := s.putInputs (i s.inputs)
    if s.powered then (f s).close else s

/-- A request arrives as an assembled frame (DEDUCED log 7). -/
def State.request (tm : Time) (tag : Byte) (r : Request) (s : State) : State := s.event tm (State.submit tag r)

end Sys2Proof.Machine
end

