-- ==== Sys2Proof/Machine/BellCommands.lean ====
section
/-!
DEFINITION. The commands of the bells (Chapters 5, 6 and 9).
-/

namespace Sys2Proof.Machine

/-- The terminals with the input of a recognizer on or off. -/
def Inputs.setEar (l : Nat) (ear : Ear) (on : Bool) (i : Inputs) : Inputs :=
  match ear with
  | .receive => { i with receive := i.receive.put l on }
  | .manual => { i with plungers := i.plungers.put l on }

/-- BELL_INPUT_ON (R98). -/
def execBellInputOn (tm : Time) (l : Nat) (ear : Ear) (s : State) : Host.Outcome State Fault Refusal :=
  .next (s.terminal tm (Inputs.setEar l ear true) (State.inputOn l ear))

/-- BELL_INPUT_OFF (R98, R102). -/
def execBellInputOff (tm : Time) (l : Nat) (ear : Ear) (s : State) : Host.Outcome State Fault Refusal :=
  .next (s.terminal tm (Inputs.setEar l ear false) (State.inputOff l ear))

/-- STROKE_TEST_EXPIRY (R98, R100, R101, R103, R168). -/
def execStrokeTestExpiry (tm : Time) (l : Nat) (ear : Ear) (s : State) : Host.Outcome State Fault Refusal :=
  .next (s.event tm (State.testExpires l ear))

/-- RELAY_OUTPUT_OFF (R168). -/
def execRelayOutputOff (tm : Time) (l : Nat) (s : State) : Host.Outcome State Fault Refusal :=
  .next (s.event tm (State.relayOff l))

/-- END_GAP_EXPIRY (R102, R104). -/
def execEndGapExpiry (tm : Time) (l : Nat) (ear : Ear) (s : State) : Host.Outcome State Fault Refusal :=
  .next (s.event tm (State.endGapExpires l ear))

/-- SEND_STROKE_START (R113). -/
def execSendStrokeStart (tm : Time) (l : Nat) (s : State) : Host.Outcome State Fault Refusal :=
  .next (s.event tm (State.strokeStarts l))

/-- SEND_STROKE_END (R113, R116). -/
def execSendStrokeEnd (tm : Time) (l : Nat) (s : State) : Host.Outcome State Fault Refusal :=
  .next (s.event tm (State.strokeEnds l))

/-- PLUNGER_PRESS (R118, R119, R168). -/
def execPlungerPress (tm : Time) (l : Nat) (s : State) : Host.Outcome State Fault Refusal :=
  .next (s.event tm (State.plungerPressed l))

/-- PLUNGER_RELEASE (R118). -/
def execPlungerRelease (tm : Time) (l : Nat) (s : State) : Host.Outcome State Fault Refusal :=
  .next (s.event tm (State.plungerReleased l))

/-- PLUNGER_OUTPUT_TIMER_EXPIRY (R118). -/
def execPlungerOutputTimerExpiry (tm : Time) (l : Nat) (s : State) : Host.Outcome State Fault Refusal :=
  .next (s.event tm (State.plungerExpires l))

/-- REPETITION_DEADLINE_EXPIRY (R123). -/
def execRepetitionDeadlineExpiry (tm : Time) (l : Nat) (s : State) : Host.Outcome State Fault Refusal :=
  .next (s.event tm (State.deadlineExpires l))

/-- OWED_REMINDER_EXPIRY (R124). -/
def execOwedReminderExpiry (tm : Time) (l : Nat) (s : State) : Host.Outcome State Fault Refusal :=
  .next (s.event tm (State.reminderExpires l))

/-- PENDING_THROUGH_CODE_EXPIRY (R170). -/
def execPendingThroughCodeExpiry (tm : Time) (s : State) : Host.Outcome State Fault Refusal :=
  .next (s.event tm State.throughExpires)

end Sys2Proof.Machine
end

