-- ==== Sys2Proof/Machine/FieldCommands.lean ====
section
/-!
DEFINITION. The commands of the track circuits, levers, route holds, sections and trains (Chapters 1 to 4 and 8).
-/

namespace Sys2Proof.Machine

/-- The terminals with an input of a lever changed. -/
def Inputs.setLever (n : Nat) (f : LeverInputs → LeverInputs) (i : Inputs) : Inputs :=
  { i with levers := i.levers.put n (f (i.levers.get {} n)) }

/-- A detector of a lever made or open. -/
def LeverInputs.setSide (side : Side) (made : Bool) (i : LeverInputs) : LeverInputs :=
  match side with
  | .normal => { i with normalMade := made }
  | .reverse => { i with reverseMade := made }

/-- TRACK_RELAY_DROP (R4, R8, R9). -/
def execTrackRelayDrop (tm : Time) (t : Nat) (s : State) : Host.Outcome State Fault Refusal :=
  .next (s.terminal tm (fun i => { i with relays := i.relays.put t false }) (State.relayDrops t))

/-- TRACK_RELAY_PICK_UP (R5). -/
def execTrackRelayPickUp (tm : Time) (t : Nat) (s : State) : Host.Outcome State Fault Refusal :=
  .next (s.terminal tm (fun i => { i with relays := i.relays.put t true }) (State.relayPicksUp t))

/-- PICK_UP_TIMER_EXPIRY (R6). -/
def execPickUpTimerExpiry (tm : Time) (t : Nat) (s : State) : Host.Outcome State Fault Refusal :=
  .next (s.event tm (State.pickUpExpires t))

/-- CATCH_LIFT (R24). -/
def execCatchLift (tm : Time) (n : Nat) (s : State) : Host.Outcome State Fault Refusal :=
  .next (s.terminal tm (Inputs.setLever n fun k => { k with catchLifted := true }) (State.catchLifts n))

/-- CATCH_LOWER (R24, R35, R38). -/
def execCatchLower (tm : Time) (n : Nat) (s : State) : Host.Outcome State Fault Refusal :=
  .next (s.terminal tm (Inputs.setLever n fun k => { k with catchLifted := false }) (State.catchLowers n))

/-- DETECTOR_OPEN (R25, R34, R35, R38). -/
def execDetectorOpen (tm : Time) (n : Nat) (side : Side) (s : State) : Host.Outcome State Fault Refusal :=
  .next (s.terminal tm (Inputs.setLever n (LeverInputs.setSide side false)) (State.detectorOpens n))

/-- DETECTOR_MAKE (R26, R35, R38). -/
def execDetectorMake (tm : Time) (n : Nat) (side : Side) (s : State) : Host.Outcome State Fault Refusal :=
  .next (s.terminal tm (Inputs.setLever n (LeverInputs.setSide side true)) (State.detectorMakes n))

/-- TRAVEL_TIMER_EXPIRY (R37). -/
def execTravelTimerExpiry (tm : Time) (n : Nat) (s : State) : Host.Outcome State Fault Refusal :=
  .next (s.event tm (State.travelExpires n))

/-- TIME_RELEASE_TIMER_EXPIRY (R61). -/
def execTimeReleaseTimerExpiry (tm : Time) (n : Nat) (s : State) : Host.Outcome State Fault Refusal :=
  .next (s.event tm (State.countdownExpires n))

/-- READY_WINDOW_LAPSE (R63). -/
def execReadyWindowLapse (tm : Time) (n : Nat) (s : State) : Host.Outcome State Fault Refusal :=
  .next (s.event tm (State.readyLapses n))

/-- INSTRUMENT_SWITCH_MOVE (R75 to R79). -/
def execInstrumentSwitchMove (tm : Time) (x : Nat) (c : Contacts) (s : State) : Host.Outcome State Fault Refusal :=
  .next (s.terminal tm (fun i => { i with switches := i.switches.put x c }) (State.switchMoves x))

/-- BLOCK_LINE_CHANGE (R73). -/
def execBlockLineChange (tm : Time) (x : Nat) (c : Current) (s : State) : Host.Outcome State Fault Refusal :=
  .next (s.terminal tm (fun i => { i with blockLines := i.blockLines.put x c }) (State.blockLineChanged x))

/-- STABILITY_TIMER_EXPIRY (R73, R87, R89). -/
def execStabilityTimerExpiry (tm : Time) (x : Nat) (s : State) : Host.Outcome State Fault Refusal :=
  .next (s.event tm (State.stabilityExpires x))

/-- HEAD_GRACE_EXPIRY (R159). -/
def execHeadGraceExpiry (tm : Time) (r : Nat) (s : State) : Host.Outcome State Fault Refusal :=
  .next (s.event tm (State.graceExpires r))

end Sys2Proof.Machine
end

