-- ==== Sys2Proof/Machine/PanelLinkCommands.lean ====
section
/-!
DEFINITION. The commands of the panel and of the serial link (Chapters 10 and 11).
-/

namespace Sys2Proof.Machine

/-- FLASHER_HALF (R174). -/
def execFlasherHalf (tm : Time) (s : State) : Host.Outcome State Fault Refusal :=
  .next (s.event tm State.flasherTurns)

/-- PULSE_TIMER_EXPIRY (R174). -/
def execPulseTimerExpiry (tm : Time) (i : Nat) (s : State) : Host.Outcome State Fault Refusal :=
  .next (s.event tm (State.pulseExpires i))

/-- LAMP_TEST_TIMER_EXPIRY (R175). -/
def execLampTestTimerExpiry (tm : Time) (s : State) : Host.Outcome State Fault Refusal :=
  .next (s.event tm State.lampTestExpires)

/-- SOUNDER_PATTERN_TIMER (R179). -/
def execSounderPatternTimer (tm : Time) (s : State) : Host.Outcome State Fault Refusal :=
  .next (s.event tm State.sounderTurns)

/-- TECHNICIAN_KEY_CHANGE (R188). -/
def execTechnicianKeyChange (tm : Time) (on : Bool) (s : State) : Host.Outcome State Fault Refusal :=
  .next (s.terminal tm (fun i => { i with key := on }) id)

/-- BYTE_RECEIVED (R184, R186, R193). -/
def execByteReceived (tm : Time) (b : Byte) (framingError : Bool) (s : State) : Host.Outcome State Fault Refusal :=
  .next (s.event tm (State.byteArrives b framingError))

/-- FRAME_GAP_TIMEOUT (R184). -/
def execFrameGapTimeout (tm : Time) (s : State) : Host.Outcome State Fault Refusal :=
  .next (s.event tm State.gapPasses)

/-- FRAME_SENT (R187, R192). -/
def execFrameSent (tm : Time) (s : State) : Host.Outcome State Fault Refusal :=
  .next (s.event tm State.frameGoes)

end Sys2Proof.Machine
end

