-- ==== Sys2Proof/Machine/RequestCommands.lean ====
section
/-!
DEFINITION. The request commands (R190): each is the arrival of its frame (DEDUCED log 7).
-/

namespace Sys2Proof.Machine

/-- UNKNOWN_REQUEST (R185). -/
def execUnknownRequest (tm : Time) (tag : Byte) (kind : Byte) (s : State) : Host.Outcome State Fault Refusal :=
  .next (s.request tm tag (Request.unknown kind))

/-- STATUS (R189). -/
def execStatus (tm : Time) (tag : Byte) (s : State) : Host.Outcome State Fault Refusal :=
  .next (s.request tm tag (Request.status))

/-- READ_LEVERS (R46, R189). -/
def execReadLevers (tm : Time) (tag : Byte) (first : Byte) (s : State) : Host.Outcome State Fault Refusal :=
  .next (s.request tm tag (Request.readLevers first))

/-- READ_TRACKS (R15, R189). -/
def execReadTracks (tm : Time) (tag : Byte) (first : Byte) (s : State) : Host.Outcome State Fault Refusal :=
  .next (s.request tm tag (Request.readTracks first))

/-- READ_SECTIONS (R94, R189). -/
def execReadSections (tm : Time) (tag : Byte) (first : Byte) (s : State) : Host.Outcome State Fault Refusal :=
  .next (s.request tm tag (Request.readSections first))

/-- READ_HOLDS (R69, R189). -/
def execReadHolds (tm : Time) (tag : Byte) (first : Byte) (s : State) : Host.Outcome State Fault Refusal :=
  .next (s.request tm tag (Request.readHolds first))

/-- READ_LINES (R111, R127, R168). -/
def execReadLines (tm : Time) (tag : Byte) (first : Byte) (s : State) : Host.Outcome State Fault Refusal :=
  .next (s.request tm tag (Request.readLines first))

/-- LIST_RECORDS (R146). -/
def execListRecords (tm : Time) (tag : Byte) (collection : Byte) (s : State) : Host.Outcome State Fault Refusal :=
  .next (s.request tm tag (Request.listRecords collection))

/-- READ_RECORD (R146, R162). -/
def execReadRecord (tm : Time) (tag : Byte) (record : Byte) (s : State) : Host.Outcome State Fault Refusal :=
  .next (s.request tm tag (Request.readRecord record))

/-- READ_ALERTS (R181). -/
def execReadAlerts (tm : Time) (tag : Byte) (first : Byte) (s : State) : Host.Outcome State Fault Refusal :=
  .next (s.request tm tag (Request.readAlerts first))

/-- READ_CONFIG (R194). -/
def execReadConfig (tm : Time) (tag : Byte) (cls index : Byte) (s : State) : Host.Outcome State Fault Refusal :=
  .next (s.request tm tag (Request.readConfig cls index))

/-- READ_COUNTERS (R190). -/
def execReadCounters (tm : Time) (tag : Byte) (first : Byte) (s : State) : Host.Outcome State Fault Refusal :=
  .next (s.request tm tag (Request.readCounters first))

/-- SEND_BELL (R115, R116). -/
def execSendBell (tm : Time) (tag : Byte) (line entry : Byte) (record : Option Byte) (s : State) : Host.Outcome State Fault Refusal :=
  .next (s.request tm tag (Request.sendBell line entry record))

/-- TIME_RELEASE_START (R60). -/
def execTimeReleaseStart (tm : Time) (tag : Byte) (lever : Byte) (s : State) : Host.Outcome State Fault Refusal :=
  .next (s.request tm tag (Request.timeReleaseStart lever))

/-- TIME_RELEASE_CONFIRM (R62). -/
def execTimeReleaseConfirm (tm : Time) (tag : Byte) (lever : Byte) (s : State) : Host.Outcome State Fault Refusal :=
  .next (s.request tm tag (Request.timeReleaseConfirm lever))

/-- TIME_RELEASE_CANCEL (R64). -/
def execTimeReleaseCancel (tm : Time) (tag : Byte) (lever : Byte) (s : State) : Host.Outcome State Fault Refusal :=
  .next (s.request tm tag (Request.timeReleaseCancel lever))

/-- SECTION_RESTORE (R86). -/
def execSectionRestore (tm : Time) (tag : Byte) (sec : Byte) (s : State) : Host.Outcome State Fault Refusal :=
  .next (s.request tm tag (Request.sectionRestore sec))

/-- CLOSE_RECORD (R144). -/
def execCloseRecord (tm : Time) (tag : Byte) (record : Byte) (s : State) : Host.Outcome State Fault Refusal :=
  .next (s.request tm tag (Request.closeRecord record))

/-- COLLECT_RECORD (R143). -/
def execCollectRecord (tm : Time) (tag : Byte) (record : Byte) (s : State) : Host.Outcome State Fault Refusal :=
  .next (s.request tm tag (Request.collectRecord record))

/-- SWITCH_OUT (R165, R166). -/
def execSwitchOut (tm : Time) (tag : Byte) (s : State) : Host.Outcome State Fault Refusal :=
  .next (s.request tm tag (Request.switchOut))

/-- SWITCH_IN (R171). -/
def execSwitchIn (tm : Time) (tag : Byte) (s : State) : Host.Outcome State Fault Refusal :=
  .next (s.request tm tag (Request.switchIn))

/-- LAMP_TEST (R175). -/
def execLampTest (tm : Time) (tag : Byte) (s : State) : Host.Outcome State Fault Refusal :=
  .next (s.request tm tag (Request.lampTest))

/-- ACK_ALERTS (R180). -/
def execAckAlerts (tm : Time) (tag : Byte) (s : State) : Host.Outcome State Fault Refusal :=
  .next (s.request tm tag (Request.ackAlerts))

/-- CLEAR_ALERTS (R180). -/
def execClearAlerts (tm : Time) (tag : Byte) (s : State) : Host.Outcome State Fault Refusal :=
  .next (s.request tm tag (Request.clearAlerts))

/-- SET_CLOCK (R201). -/
def execSetClock (tm : Time) (tag : Byte) (day : BitVec 16) (second : BitVec 32) (s : State) : Host.Outcome State Fault Refusal :=
  .next (s.request tm tag (Request.setClock day second))

/-- HOLD (R197). -/
def execHold (tm : Time) (tag : Byte) (s : State) : Host.Outcome State Fault Refusal :=
  .next (s.request tm tag (Request.hold))

/-- RESUME (R199). -/
def execResume (tm : Time) (tag : Byte) (s : State) : Host.Outcome State Fault Refusal :=
  .next (s.request tm tag (Request.resume))

/-- WRITE_CONFIG (R198). -/
def execWriteConfig (tm : Time) (tag : Byte) (body : List Byte) (s : State) : Host.Outcome State Fault Refusal :=
  .next (s.request tm tag (Request.writeConfig body))

/-- TRACK_RESTORE (R12). -/
def execTrackRestore (tm : Time) (tag : Byte) (track : Byte) (s : State) : Host.Outcome State Fault Refusal :=
  .next (s.request tm tag (Request.trackRestore track))

/-- CLEAR_STICKY (R39). -/
def execClearSticky (tm : Time) (tag : Byte) (lever : Byte) (s : State) : Host.Outcome State Fault Refusal :=
  .next (s.request tm tag (Request.clearSticky lever))

/-- RESTART (R200). -/
def execRestart (tm : Time) (tag : Byte) (s : State) : Host.Outcome State Fault Refusal :=
  .next (s.request tm tag (Request.restart))

end Sys2Proof.Machine
end

