-- ==== Sys2Proof/Machine/SupplyCommands.lean ====
section
/-!
DEFINITION. The commands of the supply, the reset line, the restarts and the clock (Chapter 12).
-/

namespace Sys2Proof.Machine

/-- POWER_ON: the supply is applied; on a powered part it is a loss and a return of the supply (R195, DESIGN
CHOICE log 6). -/
def execPowerOn (tm : Time) (s : State) : Host.Outcome State Fault Refusal :=
  let s := s.advance tm
  .next (if s.powered then (s.powerLost none).powerUp else s.powerUp)

/-- LOSS_OF_POWER: the part stops; a store write, or the counter copy named, is cut short (R194, R199, DESIGN
CHOICE log 10). -/
def execLossOfPower (tm : Time) (cut : Option CounterCut) (s : State) : Host.Outcome State Fault Refusal :=
  let s := s.advance tm
  .next (if s.powered then s.powerLost cut else s)

/-- RESET_LINE_LOW: a reset-line reset is taken (R195). -/
def execResetLineLow (tm : Time) (s : State) : Host.Outcome State Fault Refusal :=
  .next (s.terminal tm (fun i => { i with resetLow := true }) State.resetLineReset)

/-- RESET_LINE_RELEASE: the start interval begins to count (R195). -/
def execResetLineRelease (tm : Time) (s : State) : Host.Outcome State Fault Refusal :=
  .next (s.terminal tm (fun i => { i with resetLow := false }) State.resetLineReleased)

/-- The start interval is running and its end has come (R195, R196). -/
def State.intervalOver (s : State) : Bool := s.control.mode = .start && due s.control.interval s.now

/-- START_INTERVAL_END: the check word is tested and every unit applies its rule (R196). -/
def execStartIntervalEnd (tm : Time) (s : State) : Host.Outcome State Fault Refusal :=
  .next (s.event tm fun s => if s.intervalOver then s.intervalEnds else s)

/-- RESTART_RESET: the reply of RESTART has gone out and the warm restart begins (R200, DEDUCED log 8). -/
def execRestartReset (tm : Time) (s : State) : Host.Outcome State Fault Refusal :=
  .next (s.event tm State.restartReset)

/-- STORE_WRITE: the reply of RESUME has gone out and the store write begins (R199, DEDUCED log 8). -/
def execStoreWrite (tm : Time) (s : State) : Host.Outcome State Fault Refusal :=
  .next (s.event tm State.storeWriteBegins)

/-- STORE_WRITE_COMPLETED: the items and the check word are written and the warm restart follows (R199, DEDUCED
log 8). -/
def execStoreWriteCompleted (tm : Time) (s : State) : Host.Outcome State Fault Refusal :=
  .next (s.event tm State.storeWriteEnds)

/-- CLOCK_SECOND: the box clock advances (R201). -/
def execClockSecond (tm : Time) (s : State) : Host.Outcome State Fault Refusal :=
  .next (s.event tm State.clockTicks)

end Sys2Proof.Machine
end

