-- ==== Sys2Proof/Machine/Dispatch.lean ====
section
/-! DEFINITION. The meaning of every command: one arm per row of the table. -/

namespace Sys2Proof.Machine

def exec (i : Instr) (s : State) : Host.Outcome State Fault Refusal :=
  match i with
  | .powerOn tm => Sys2Proof.Machine.execPowerOn tm s
  | .resetLineLow tm => Sys2Proof.Machine.execResetLineLow tm s
  | .resetLineRelease tm => Sys2Proof.Machine.execResetLineRelease tm s
  | .startIntervalEnd tm => Sys2Proof.Machine.execStartIntervalEnd tm s
  | .restartReset tm => Sys2Proof.Machine.execRestartReset tm s
  | .storeWrite tm => Sys2Proof.Machine.execStoreWrite tm s
  | .clockSecond tm => Sys2Proof.Machine.execClockSecond tm s
  | .trackRelayDrop tm track => Sys2Proof.Machine.execTrackRelayDrop tm track s
  | .trackRelayPickUp tm track => Sys2Proof.Machine.execTrackRelayPickUp tm track s
  | .pickUpTimerExpiry tm track => Sys2Proof.Machine.execPickUpTimerExpiry tm track s
  | .catchLift tm lever => Sys2Proof.Machine.execCatchLift tm lever s
  | .catchLower tm lever => Sys2Proof.Machine.execCatchLower tm lever s
  | .detectorOpen tm lever side => Sys2Proof.Machine.execDetectorOpen tm lever side s
  | .detectorMake tm lever side => Sys2Proof.Machine.execDetectorMake tm lever side s
  | .travelTimerExpiry tm lever => Sys2Proof.Machine.execTravelTimerExpiry tm lever s
  | .timeReleaseTimerExpiry tm signal => Sys2Proof.Machine.execTimeReleaseTimerExpiry tm signal s
  | .readyWindowLapse tm signal => Sys2Proof.Machine.execReadyWindowLapse tm signal s
  | .instrumentSwitchMove tm sec contacts => Sys2Proof.Machine.execInstrumentSwitchMove tm sec contacts s
  | .blockLineChange tm sec current => Sys2Proof.Machine.execBlockLineChange tm sec current s
  | .stabilityTimerExpiry tm sec => Sys2Proof.Machine.execStabilityTimerExpiry tm sec s
  | .bellInputOn tm line ear => Sys2Proof.Machine.execBellInputOn tm line ear s
  | .bellInputOff tm line ear => Sys2Proof.Machine.execBellInputOff tm line ear s
  | .strokeTestExpiry tm line ear => Sys2Proof.Machine.execStrokeTestExpiry tm line ear s
  | .relayOutputOff tm line => Sys2Proof.Machine.execRelayOutputOff tm line s
  | .endGapExpiry tm line ear => Sys2Proof.Machine.execEndGapExpiry tm line ear s
  | .sendStrokeStart tm line => Sys2Proof.Machine.execSendStrokeStart tm line s
  | .sendStrokeEnd tm line => Sys2Proof.Machine.execSendStrokeEnd tm line s
  | .plungerPress tm line => Sys2Proof.Machine.execPlungerPress tm line s
  | .plungerRelease tm line => Sys2Proof.Machine.execPlungerRelease tm line s
  | .plungerOutputTimerExpiry tm line => Sys2Proof.Machine.execPlungerOutputTimerExpiry tm line s
  | .repetitionDeadlineExpiry tm line => Sys2Proof.Machine.execRepetitionDeadlineExpiry tm line s
  | .owedReminderExpiry tm line => Sys2Proof.Machine.execOwedReminderExpiry tm line s
  | .pendingThroughCodeExpiry tm => Sys2Proof.Machine.execPendingThroughCodeExpiry tm s
  | .headGraceExpiry tm record => Sys2Proof.Machine.execHeadGraceExpiry tm record s
  | .flasherHalf tm => Sys2Proof.Machine.execFlasherHalf tm s
  | .pulseTimerExpiry tm indication => Sys2Proof.Machine.execPulseTimerExpiry tm indication s
  | .lampTestTimerExpiry tm => Sys2Proof.Machine.execLampTestTimerExpiry tm s
  | .sounderPatternTimer tm => Sys2Proof.Machine.execSounderPatternTimer tm s
  | .technicianKeyChange tm on => Sys2Proof.Machine.execTechnicianKeyChange tm on s
  | .byteReceived tm byte framingError => Sys2Proof.Machine.execByteReceived tm byte framingError s
  | .frameGapTimeout tm => Sys2Proof.Machine.execFrameGapTimeout tm s
  | .frameSent tm => Sys2Proof.Machine.execFrameSent tm s
  | .unknownRequest tm tag kind => Sys2Proof.Machine.execUnknownRequest tm tag kind s
  | .status tm tag => Sys2Proof.Machine.execStatus tm tag s
  | .readLevers tm tag first => Sys2Proof.Machine.execReadLevers tm tag first s
  | .readTracks tm tag first => Sys2Proof.Machine.execReadTracks tm tag first s
  | .readSections tm tag first => Sys2Proof.Machine.execReadSections tm tag first s
  | .readHolds tm tag first => Sys2Proof.Machine.execReadHolds tm tag first s
  | .readLines tm tag first => Sys2Proof.Machine.execReadLines tm tag first s
  | .listRecords tm tag collection => Sys2Proof.Machine.execListRecords tm tag collection s
  | .readRecord tm tag record => Sys2Proof.Machine.execReadRecord tm tag record s
  | .readAlerts tm tag first => Sys2Proof.Machine.execReadAlerts tm tag first s
  | .readConfig tm tag cls index => Sys2Proof.Machine.execReadConfig tm tag cls index s
  | .readCounters tm tag first => Sys2Proof.Machine.execReadCounters tm tag first s
  | .sendBell tm tag line entry record => Sys2Proof.Machine.execSendBell tm tag line entry record s
  | .timeReleaseStart tm tag lever => Sys2Proof.Machine.execTimeReleaseStart tm tag lever s
  | .timeReleaseConfirm tm tag lever => Sys2Proof.Machine.execTimeReleaseConfirm tm tag lever s
  | .timeReleaseCancel tm tag lever => Sys2Proof.Machine.execTimeReleaseCancel tm tag lever s
  | .sectionRestore tm tag sec => Sys2Proof.Machine.execSectionRestore tm tag sec s
  | .closeRecord tm tag record => Sys2Proof.Machine.execCloseRecord tm tag record s
  | .collectRecord tm tag record => Sys2Proof.Machine.execCollectRecord tm tag record s
  | .switchOut tm tag => Sys2Proof.Machine.execSwitchOut tm tag s
  | .switchIn tm tag => Sys2Proof.Machine.execSwitchIn tm tag s
  | .lampTest tm tag => Sys2Proof.Machine.execLampTest tm tag s
  | .ackAlerts tm tag => Sys2Proof.Machine.execAckAlerts tm tag s
  | .clearAlerts tm tag => Sys2Proof.Machine.execClearAlerts tm tag s
  | .setClock tm tag day second => Sys2Proof.Machine.execSetClock tm tag day second s
  | .hold tm tag => Sys2Proof.Machine.execHold tm tag s
  | .resume tm tag => Sys2Proof.Machine.execResume tm tag s
  | .writeConfig tm tag body => Sys2Proof.Machine.execWriteConfig tm tag body s
  | .trackRestore tm tag track => Sys2Proof.Machine.execTrackRestore tm tag track s
  | .clearSticky tm tag lever => Sys2Proof.Machine.execClearSticky tm tag lever s
  | .restart tm tag => Sys2Proof.Machine.execRestart tm tag s
  | .lossOfPower tm cut => Sys2Proof.Machine.execLossOfPower tm cut s
  | .storeWriteCompleted tm => Sys2Proof.Machine.execStoreWriteCompleted tm s

end Sys2Proof.Machine
end

