-- ==== Sys2Proof/Safety.lean ====
section
/-!
DEFINITION. The words that statements about the part use: which parts of a state an event may change, when the
part takes an event or answers a request at once, what a warm restart leaves, and what holds of every state that
the part can be in.
-/

namespace Sys2Proof.Machine

/-! ### Frames -/

/-- The parts of a state that a frame speaks of. -/
inductive Part where
  | now | powered | inputs | tracks | levers | set | holds | sections | bells | register
  /-- the alert list -/
  | alerts
  | sounder | lampTest | pulses | flasher
  /-- the receive assembler -/
  | assembler
  /-- the request queue -/
  | requests
  /-- the reply slot -/
  | slot
  /-- the notice outbox with its two counts of lost notices -/
  | outbox
  | transmitter
  /-- link errors, abandoned frames, discarded requests -/
  | linkCounts
  /-- mode, start interval, its last end, and the reset cause -/
  | mode
  /-- what follows a reply, and the store write in progress -/
  | after
  /-- box state, through relay, pending through code -/
  | box
  | clock
  /-- items in force, check word, working copy, written flag -/
  | configuration
  | counters
  | storeFault
  | emitted | choices | pending
  deriving DecidableEq, Repr

/-- A part of the state is the same in `u` as in `s`. -/
def Part.Same (s u : State) : Part → Prop
  | .now => u.now = s.now
  | .powered => u.powered = s.powered
  | .inputs => u.inputs = s.inputs
  | .tracks => u.tracks = s.tracks
  | .levers => u.levers = s.levers
  | .set => u.set = s.set
  | .holds => u.holds = s.holds
  | .sections => u.sections = s.sections
  | .bells => u.bells = s.bells
  | .register => u.register = s.register
  | .alerts => u.panel.alerts = s.panel.alerts
  | .sounder => u.panel.sounder = s.panel.sounder
  | .lampTest => u.panel.lampTest = s.panel.lampTest
  | .pulses => u.panel.pulses = s.panel.pulses
  | .flasher => u.panel.flasher = s.panel.flasher
  | .assembler => u.link.asm = s.link.asm
  | .requests => u.link.queue = s.link.queue
  | .slot => u.link.slot = s.link.slot
  | .outbox =>
    u.link.outbox = s.link.outbox ∧ u.link.lost = s.link.lost ∧ u.link.lostSinceStatus = s.link.lostSinceStatus
  | .transmitter => u.link.tx = s.link.tx
  | .linkCounts =>
    u.link.linkErrors = s.link.linkErrors ∧ u.link.abandoned = s.link.abandoned ∧ u.link.discarded = s.link.discarded
  | .mode =>
    u.control.mode = s.control.mode ∧ u.control.interval = s.control.interval ∧ u.control.base = s.control.base ∧
      u.control.cause = s.control.cause
  | .after => u.control.after = s.control.after ∧ u.control.writing = s.control.writing
  | .box =>
    u.control.box = s.control.box ∧ u.control.relayOn = s.control.relayOn ∧ u.control.through = s.control.through
  | .clock => u.control.clock = s.control.clock
  | .configuration =>
    u.store.inForce = s.store.inForce ∧ u.store.checkGood = s.store.checkGood ∧ u.store.working = s.store.working ∧
      u.store.written = s.store.written
  | .counters =>
    u.store.releases = s.store.releases ∧ u.store.forced = s.store.forced ∧ u.store.marks = s.store.marks
  | .storeFault => u.store.fault = s.store.fault
  | .emitted => u.emitted = s.emitted
  | .choices => u.choices = s.choices
  | .pending => u.pending = s.pending

/-- Nothing outside the parts listed differs between `s` and `u`. -/
def Outside (changed : List Part) (s u : State) : Prop := ∀ p, p ∉ changed → p.Same s u

/-- What the close of an event may change: notices join the outbox, and an idle transmitter starts (R187, R192). -/
def closing : List Part := [.now, .emitted, .outbox, .transmitter]

/-- An event of `u` changes nothing of `s` but the parts listed and what its close may change. -/
def ChangesOnly (changed : List Part) (s u : State) : Prop := Outside (changed ++ closing) s u

/-- What the examination of levers may change: the levers, the holds bound or removed by a withdrawal, and the count
of free choices (R29). -/
def examined : List Part := [.levers, .holds, .choices]

/-- What raising an alert may change (R178, R179). -/
def alerted : List Part := [.alerts, .sounder]

/-! ### When the part takes an event -/

/-- The part is powered and between two events: no notice of an event waits to be placed (DEDUCED log 14). -/
def State.between (s : State) : Prop := s.powered = true ∧ s.emitted = []

/-- The part is powered, between events, and in RUNNING. -/
def State.running (s : State) : Prop := s.between ∧ s.control.mode = .running

/-- The part is powered, between events, and in RUNNING or in HELD entered by HOLD: inputs and timers are worked. -/
def State.working (s : State) : Prop := s.between ∧ s.live = true

/-- The part is powered, between events, and past its start interval. -/
def State.started (s : State) : Prop := s.between ∧ s.control.mode ≠ .start

/-- A request that arrives now is taken and answered in the same event (R186, R190, R193). -/
def State.ready (s : State) : Prop :=
  s.started ∧ s.link.slot = none ∧ s.link.queue = [] ∧ s.control.after = none ∧ s.control.writing = false

/-- The reply in the slot (R183, R185). -/
def State.replies (u : State) (kind tag : Byte) (result : Result) (rest : List Byte) : Prop :=
  u.link.slot = some ⟨kind, tag, result, rest⟩

/-- A request is answered and has no other effect: no notice is sent or lost, and the count of notices lost since
STATUS begins again with a STATUS that is answered OK alone (R185, R189, R192). -/
def State.onlyReplies (s u : State) (kind tag : Byte) (result : Result) (rest : List Byte) : Prop :=
  u.replies kind tag result rest ∧ u.link.outbox = s.link.outbox ∧ u.link.lost = s.link.lost ∧
    u.link.lostSinceStatus = (if kind = 0x81 ∧ result = .ok then 0 else s.link.lostSinceStatus) ∧ ChangesOnly [.slot] s u

/-- The event of `u` sends exactly these notices, in this order, so far as their kinds are enabled and the outbox
has room (R191, R192). The order among the notices of different consumers is the MODEL'S CHOICE (log 13). -/
def State.announces (s u : State) (l : List (NoticeEvent × Nat)) : Prop :=
  s.link.outbox.length + l.length ≤ 32 →
    u.link.outbox.map (fun n => (n.event, n.object)) =
      s.link.outbox.map (fun n => (n.event, n.object)) ++ l.filter fun k => s.sends k.1.kind

/-- The event of `u` sends first these notices, in this order, so far as their kinds are enabled and the outbox has
room (R191, R192). Where another consumer of the event sends notices too, that they follow is the MODEL'S CHOICE
(log 13). -/
def State.announcesFirst (s u : State) (l : List (NoticeEvent × Nat)) : Prop :=
  s.link.outbox.length + l.length ≤ 32 →
    ∃ more, u.link.outbox.map (fun n => (n.event, n.object)) =
      s.link.outbox.map (fun n => (n.event, n.object)) ++ (l.filter fun k => s.sends k.1.kind) ++ more

/-- The event of `u` sends first the MODE notice *started*, which carries the part mode with the HELD cause, the last
reset cause, the box state and the clock unset flag as the event leaves them (R196), in the byte layout of log 15. -/
def State.announcesStart (s u : State) : Prop :=
  u.sends .mode = true → s.link.outbox.length < 32 →
    ∃ more, u.link.outbox = s.link.outbox ++
      ⟨.modeStarted, 0, u.timebase u.now, u.stamp,
        u.control.mode.bytes ++ b1 u.control.cause.ord ++ b1 u.control.box.ord ++ bFlag u.control.clock.unset⟩ :: more

/-- `r` is the first of a list that has a property: the oldest, in a list in creation order (R131). -/
def Oldest (p : Nat → Prop) (l : List Nat) (r : Nat) : Prop :=
  ∃ older younger, l = older ++ r :: younger ∧ p r ∧ ∀ q ∈ older, ¬ p q

/-- `r` is the last of a list that has a property: the newest, in a list in creation order (R140). -/
def Newest (p : Nat → Prop) (l : List Nat) (r : Nat) : Prop :=
  ∃ older younger, l = older ++ r :: younger ∧ p r ∧ ∀ q ∈ younger, ¬ p q

/-- `n` is the lowest number that has a property. -/
def Least (p : Nat → Prop) (n : Nat) : Prop := p n ∧ ∀ m < n, ¬ p m

/-! ### Levers, holds and tracks -/

/-- The terminals of lever `n` go from `i` to `j` by the command `c`: its catch or one of its detectors changes. -/
def LeverChange (tm : Time) (n : Nat) (i : LeverInputs) (c : Instr) (j : LeverInputs) : Prop :=
  c = .catchLift tm n ∧ j = { i with catchLifted := true } ∨ c = .catchLower tm n ∧ j = { i with catchLifted := false } ∨
    (∃ side, c = .detectorMake tm n side ∧ j = i.setSide side true) ∨
    ∃ side, c = .detectorOpen tm n side ∧ j = i.setSide side false

/-- The lever state that the inputs of a lever give in the start interval, row by row (R44). -/
def LeverInputs.derives : LeverInputs → LeverPhase
  | ⟨true, false, false⟩ => .normal
  | ⟨true, false, true⟩ => .normalCatch
  | ⟨false, true, false⟩ => .reverse
  | ⟨false, true, true⟩ => .reverseCatch
  | ⟨false, false, _⟩ => .travel
  | ⟨true, true, _⟩ => .fault

/-- A locking term is satisfied (R20). -/
def State.fulfils (s : State) : Term → Prop
  | .ln n => s.standing n = .normal
  | .lr n => s.standing n = .reverse
  | .lnc n m => s.standing n = .normal ∨ s.standing m = .normal
  | .tc t => s.clear t = true
  | .lcr x => (s.sec x).off.release = .available

/-- Condition `k` of R27 fails for lever `n` in the direction `dir`, and `items` are what a *held* notice then carries of
it (R30, R49), in the byte layout of log 15: the position and the first unsatisfied term, or position 0 and no term for
a SPARE lever; the lowest signal of a hold that names the lever; the lowest lever whose grant record names it. -/
def State.refusesRelease (s : State) (n : Nat) (dir : Direction) (k : Nat) (items : List Byte) : Prop :=
  match k with
  | 1 => items = [] ∧ s.control.mode ≠ .running
  | 2 =>
    (∃ i t, (s.conf.entry n s.set dir)[i]? = some t ∧ ¬ s.fulfils t ∧
        (∀ t' ∈ (s.conf.entry n s.set dir).take i, s.fulfils t') ∧ items = b1 (i + 1) ++ b1 1 ++ bTerm t) ∨
      (∀ t ∈ s.conf.entry n s.set dir, s.fulfils t) ∧ s.conf.leverKind n = .spare ∧ items = b1 0 ++ b1 0
  | 3 => ∃ h, items = b1 h ∧ Least (fun g => ∃ x ∈ s.holds, x.signal = g ∧ n ∈ s.heldOf x) h
  | 4 => ∃ m, items = b1 m ∧ Least (fun q => isLever q = true ∧ q ≠ n ∧
      ((s.lever q).phase.isFree = true ∨ (s.lever q).phase = .travel) ∧ ∃ g, (s.lever q).grant = some g ∧ n ∈ g.named) m
  | 5 => items = [] ∧ (s.lever n).fresh = false
  | _ => False

/-- Lever `n` is in no CATCH state and in no FREE state: no examination reaches it (R29, R32). -/
def State.unraised (s : State) (n : Nat) : Prop := (s.lever n).phase.isCatch = false ∧ (s.lever n).phase.isFree = false

/-- Lever `n` is the only one whose catch is up at a position or whose release is granted: no examination can reach
another lever. -/
def State.othersSeated (s : State) (n : Nat) : Prop := ∀ m ∈ Tab.numbers 24, m ≠ n → s.unraised m

/-- Every lever is examined (R29, R32): a lever in a CATCH state waits on a condition of R27 that fails, and of a lever in
a FREE state none of the conditions 1 to 4 does. -/
def State.Examined (s : State) : Prop :=
  ∀ n ∈ Tab.numbers 24,
    ((s.lever n).phase.isCatch = true → ∃ k items, s.refusesRelease n (s.lever n).phase.direction k items) ∧
    ((s.lever n).phase.isFree = true → ∀ k ≤ 4, ∀ items, ¬ s.refusesRelease n (s.lever n).phase.direction k items)

/-- The grant record of lever `n` under the entry of the set in force that the examination reads (R27, R28). -/
def State.grantNow (s : State) (n : Nat) : Grant :=
  ⟨(s.lever n).phase.direction, s.set, namedBy (s.conf.entry n s.set (s.lever n).phase.direction)⟩

/-- No entry holds an LNC term or a term that names its own lever, and each released lever has its grant record under
the entry read now: an examination can grant a lever once at most. -/
def State.PlainLocking (s : State) : Prop :=
  ∀ n ∈ Tab.numbers 24,
    (∀ set dir, n ∉ namedBy (s.conf.entry n set dir) ∧ ∀ t ∈ s.conf.entry n set dir, ∀ a b, t ≠ .lnc a b) ∧
    ((s.lever n).phase.isFree = true → (s.lever n).grant = some (s.grantNow n))

/-- The command `c` is of the events that R29 lists, with a request that is served at once: it can change the standing
of a lever, the occupancy of a track, a line clear release, the list of holds, the mode or the set in force. -/
def State.examiningEvent (s : State) (tm : Time) (c : Instr) : Prop :=
  (∃ n, c = .trackRelayDrop tm n ∨ c = .pickUpTimerExpiry tm n ∨ c = .headGraceExpiry tm n ∨
      c = .stabilityTimerExpiry tm n ∨ c = .readyWindowLapse tm n ∨ c = .catchLift tm n ∨ c = .catchLower tm n ∨
      ∃ side, c = .detectorMake tm n side ∨ c = .detectorOpen tm n side) ∨
  s.ready ∧ ∃ tag, c = .switchOut tm tag ∨ c = .switchIn tm tag ∨ c = .hold tm tag ∨ c = .resume tm tag ∨
    ∃ b, c = .trackRestore tm tag b ∨ c = .timeReleaseConfirm tm tag b ∨ c = .timeReleaseCancel tm tag b

/-- The command `c` is a change of lever `n`'s own inputs. -/
def MovesLever (tm : Time) (n : Nat) (c : Instr) : Prop :=
  c = .catchLift tm n ∨ c = .catchLower tm n ∨ ∃ side, c = .detectorMake tm n side ∨ c = .detectorOpen tm n side

/-- The command `c` is the one change of its inputs that leaves lever `n` seated on a side: the catch lowering, a
detector making or the other detector opening (R35). -/
def State.seats (s : State) (tm : Time) (n : Nat) (side : Side) (c : Instr) : Prop :=
  let seated : LeverInputs := ⟨decide (side = .normal), decide (side = .reverse), false⟩
  s.leverInputs n ≠ seated ∧
    (c = .catchLower tm n ∧ { s.leverInputs n with catchLifted := false } = seated ∨
      (∃ d, c = .detectorMake tm n d ∧ (s.leverInputs n).setSide d true = seated) ∨
      ∃ d, c = .detectorOpen tm n d ∧ (s.leverInputs n).setSide d false = seated)

/-- What the releases of R57 and R58 ask beside a hold that they reach and a signal that stands normal: the last
stage CLEARED, or every stage WAITING with the approach track absent or effectively clear. -/
def State.releasable (s : State) (h : Hold) : Prop :=
  h.stages.getLast? = some .cleared ∨
    (∀ g ∈ h.stages, g = .waiting) ∧ ∀ t, s.approachOf h = some t → s.clear t = true

/-- A hold after an irregularity (R55): IRREGULAR, or with its time release running on and IRREGULAR to return to. -/
def Hold.afterIrregularity (h : Hold) : Hold :=
  { h with
    state := if h.releasing then h.state else .irregular
    prior := if h.releasing then some .irregular else h.prior
    irregular := true }

/-- The command `c` makes track `t` effectively clear (R14): its pick-up timer expires with no mark, or a mark of a
track that is CLEAR is restored. -/
def State.becomesClearBy (s : State) (tm : Time) (t : Nat) (c : Instr) : Prop :=
  s.working ∧ isTrack t = true ∧ s.conf.fitted t = true ∧
    (c = .pickUpTimerExpiry tm t ∧ (s.track t).marked = false ∧ (s.track t).filter = .picking ∧
        (∃ e, (s.track t).timer = some e ∧ e ≤ max s.now tm) ∨
      (s.ready ∧ s.inputs.key = true ∧ (s.track t).filter = .clear ∧ (s.track t).marked = true ∧
        ∃ tag b, c = .trackRestore tm tag b ∧ b.toNat = t))

/-! ### Block sections -/

/-- The gate of R93 refuses a coded OUT_OF_SECTION on account of accepting section `x`: it is at LC, or at TOL where
the gate of R79 refuses the move to LB, for want of the arrival proof or for an inbound record at OFFERED, ACCEPTED or
ENTERING. -/
def State.outOfSectionFails (s : State) (x : Nat) : Prop :=
  (s.sec x).acc.state = .lc ∨
    (s.sec x).acc.state = .tol ∧ ((s.sec x).acc.proof = false ∨
      ∃ q ∈ s.inboundList x, (s.record q).inStage = some .offered ∨ (s.record q).inStage = some .accepted ∨
        (s.record q).inStage = some .entering)

/-- A SEND_BELL of entry `e` on line `l` meets no hindrance of the entry or of the line (R115): the part works, the entry
is in use, and the line is not in through relay and neither sends, hears a manual code, nor has its plunger pressed. -/
def State.mayRing (s : State) (l e : Nat) : Prop :=
  s.control.mode ≠ .held .invalid ∧ isLine l = true ∧ isIndication e = true ∧ (s.conf.code e).inUse = true ∧
    s.inRelay l = false ∧ (s.bell l).send = none ∧ (s.bell l).man.phase = .idle ∧ (s.bell l).plunger = .off

/-- Condition `k` of SECTION_RESTORE fails for accepting section `x`, with object `o` (R86; the objects are DEDUCED, log
19). -/
def State.refusesRestore (s : State) (x k : Nat) (o : CondObject) : Prop :=
  match k with
  | 1 => o = .sec x ∧ ((s.sec x).acc.state ≠ .tol ∨ (s.sec x).acc.assumed = false)
  | 2 => o = .track (s.conf.sec x).clearing ∧ s.clear (s.conf.sec x).clearing = false
  | 3 => o = .track (s.conf.sec x).entry ∧ s.clear (s.conf.sec x).entry = false
  | 4 => ∃ r, o = .record r ∧ Oldest (fun q => (s.record q).inStage = some .offered ∨
      (s.record q).inStage = some .accepted ∨ (s.record q).inStage = some .entering) (s.inboundList x) r
  | _ => False

/-! ### Switching -/

/-- Lever `n` does not stand in its switch-out position (R163). -/
def State.outOfPlace (s : State) (n : Nat) : Prop :=
  match s.conf.switchOut.place n with
  | .normal => s.standing n ≠ .normal
  | .reverse => s.standing n ≠ .reverse
  | .either => s.standing n = .nowhere

/-- The last completed exchange of line `l` is no code of meaning `m` completed in the 120,000 ms before `now` (R165,
R171). -/
def State.unnoticed (s : State) (now : Time) (m : Meaning) (l : Nat) : Prop :=
  ∀ x, (s.bell l).exchange = some x → ∀ k, x.code.entry = some (k, m) → x.at_ + 120000 < now

/-- Condition `k` of SWITCH_OUT fails at time `now`, and `o` is the object that it names (Table of R165). -/
def State.refusesSwitchOut (s : State) (now : Time) (k : Nat) (o : CondObject) : Prop :=
  match k with
  | 1 => o = .none ∧ s.conf.switchOut.may = false
  | 2 => o = .none ∧ s.control.mode ≠ .running
  | 3 => ∃ x, o = .sec x ∧ Least (fun y => isSection y = true ∧ s.inPair (s.conf.sec y).line = true ∧
      ((s.conf.sec y).role = .accepting ∧ (s.sec y).acc.state ≠ .lb ∨
        (s.conf.sec y).role = .offering ∧ (s.sec y).off.repeater ≠ .lb)) x
  | 4 => ∃ r, o = .record r ∧ s.register.opened.head? = some r
  | 5 => ∃ n, o = .lever n ∧ Least (fun m => ∃ h ∈ s.holds, h.signal = m) n
  | 6 => ∃ n, o = .lever n ∧ Least (fun m => isLever m = true ∧ s.outOfPlace m) n
  | 7 => ∃ l, o = .line l ∧ Least (fun m => isLine m = true ∧ s.inPair m = true ∧
      ((s.bell m).send ≠ none ∨ (s.bell m).man.phase ≠ .idle ∨ (s.bell m).plunger ≠ .off)) l
  | 8 => ∃ l, o = .line l ∧
      Least (fun m => isLine m = true ∧ s.inPair m = true ∧ s.unnoticed now .switchOutNotice m) l
  | _ => False

/-- Condition `k` of SWITCH_IN fails at time `now`, and `o` is the object that it names (Table of R171). -/
def State.refusesSwitchIn (s : State) (now : Time) (k : Nat) (o : CondObject) : Prop :=
  match k with
  | 1 => ∃ x, o = .sec x ∧ Least (fun y => isSection y = true ∧ s.inPair (s.conf.sec y).line = true ∧
      (s.conf.sec y).role = .offering ∧ ((s.sec y).off.repeater ≠ .lb ∨ s.blockLine y ≠ .negative)) x
  | 2 => ∃ n, o = .lever n ∧ Least (fun m => isLever m = true ∧ s.outOfPlace m) n
  | 3 => ∃ l, o = .line l ∧
      Least (fun m => isLine m = true ∧ s.inPair m = true ∧ s.unnoticed now .switchInNotice m) l
  | _ => False

/-! ### Bells -/

/-- The schedule of a coded send accepted at time `at_` (R113): one start for each stroke of the pattern; the first at
once, each other of a group one send beat after the one before it, and the first of a later group three send beats after
the last of the group before. -/
def Schedules (beat : Nat) (at_ : Time) (pattern : List Nat) (starts : List Time) : Prop :=
  starts.length = pattern.sum ∧ starts.head? = some at_ ∧
    ∀ i a b, starts[i]? = some a → starts[i + 1]? = some b →
      b = a + (if ∃ k < pattern.length, (pattern.take k).sum = i + 1 then 3 * beat else beat)

/-- The stroke width (R113): the send beat times the duty, rounded down. -/
def WidthOf (beat : Nat) (duty : Duty) (width : Nat) : Prop :=
  match duty with
  | .quarter => 4 * width ≤ beat ∧ beat < 4 * (width + 1)
  | .third => 3 * width ≤ beat ∧ beat < 3 * (width + 1)
  | .half => 2 * width ≤ beat ∧ beat < 2 * (width + 1)

/-- The last stroke of the coded send `k` of line `l` ends (R113, R116). -/
def State.lastStrokeEnds (s : State) (tm : Time) (l : Nat) (k : Send) : Prop :=
  s.started ∧ isLine l = true ∧ (s.bell l).send = some k ∧ k.on = true ∧ k.index + 1 = k.starts.length ∧
    ∃ t, k.starts[k.index]? = some t ∧ t + k.width ≤ max s.now tm

/-- What RUNNING begins with on the bell lines and on the repeaters: an input that is on is IGNORED (R110), a plunger
contact that is made gives SPENT (R126), on a line in through relay too (DESIGN CHOICE log 37), and the stability timer
of each offering section starts (R90). -/
def State.linesBegin (s u : State) (now : Time) : Prop :=
  (∀ l ∈ Tab.numbers 3, u.bell l = { s.bell l with
    rx := { (s.bell l).rx with detector := if s.earOn l .receive then .ignored else .off }
    man := { (s.bell l).man with detector := if s.earOn l .manual then .ignored else .off }
    plunger := if s.earOn l .manual then .spent else .off }) ∧
  ∀ x ∈ Tab.numbers 6, (s.conf.sec x).role = .offering → (u.sec x).off = { (s.sec x).off with timer := some (now + 100) }

/-! ### Alerts and the sounder -/

/-- `o` is the entry that a list gives up (R178): the one of lowest priority, the oldest of several; `rest` is the list
without it. -/
def GivesUp (p : Alert → Prop) (l : List Alert) (o : Alert) (rest : List Alert) : Prop :=
  ∃ older younger, l = older ++ o :: younger ∧ rest = older ++ younger ∧ p o ∧
    (∀ b ∈ older, p b → o.priority < b.priority) ∧ ∀ b ∈ younger, p b → o.priority ≤ b.priority

/-- A raise of the alert `a` makes the list `m` of the list `l` and sends the notices `ns` (R178): the entry for its kind
and object is refreshed with its count one greater and becomes the newest; else `a` is appended, in a full list in the
place of the acknowledged entry of lowest priority, or, with none acknowledged, of the entry of lowest priority; but an
alert that is lower than every entry of such a list is not entered. Which notices a raise with a drop sends, and in
which order, is log 22 (DEDUCED). -/
def Raised (l : List Alert) (a : Alert) (m : List Alert) (ns : List (NoticeEvent × Nat)) : Prop :=
  (∀ older o younger, l = older ++ o :: younger → o.kind = a.kind → o.object = a.object →
    m = older ++ younger ++ [{ a with count := min 255 (o.count + 1) }] ∧ ns = [(.alertRefreshed, a.object)]) ∧
  ((∀ b ∈ l, ¬ (b.kind = a.kind ∧ b.object = a.object)) →
    (l.length < 16 → m = l ++ [a] ∧ ns = [(.alertRaised, a.object)]) ∧
    (16 ≤ l.length →
      (∀ o rest, GivesUp (·.acked = true) l o rest →
        m = rest ++ [a] ∧ ns = [(.alertRaised, a.object), (.alertDropped, o.object)]) ∧
      ((∀ b ∈ l, b.acked = false) →
        ((∀ b ∈ l, a.priority < b.priority) → m = l ∧ ns = [(.alertDropped, a.object)]) ∧
        ∀ o rest, GivesUp (fun _ => True) l o rest → o.priority ≤ a.priority →
          m = rest ++ [a] ∧ ns = [(.alertRaised, a.object), (.alertDropped, o.object)])))

/-- `p` is the sounding priority (R179): the highest among the unacknowledged entries at or above the threshold, which
in HELD with configuration invalid is 6. -/
def State.soundsAt (s : State) (p : Nat) : Prop :=
  (if s.control.mode = .held .invalid then 6 else s.conf.threshold) ≤ p ∧
    (∃ a ∈ s.panel.alerts, a.acked = false ∧ a.priority = p) ∧ ∀ a ∈ s.panel.alerts, a.acked = false → a.priority ≤ p

/-- The pattern that the sounder must play (R179); it is silent in the start interval. -/
def State.mustPlay (s : State) : Pattern → Prop
  | .silent => s.control.mode = .start ∨ ∀ p, ¬ s.soundsAt p
  | .beep => s.control.mode ≠ .start ∧ ∃ p, s.soundsAt p ∧ p < 8
  | .oneHz => s.control.mode ≠ .start ∧ ∃ p, s.soundsAt p ∧ 8 ≤ p ∧ p < 12
  | .continuous => s.control.mode ≠ .start ∧ ∃ p, s.soundsAt p ∧ 12 ≤ p

/-- A pattern at the start of its on period (R179): 500 ms of 1 Hz, 200 ms of a beep. -/
def Sounder.startsAt (now : Time) : Pattern → Sounder
  | .silent => { pattern := .silent, sounding := false, timer := none }
  | .beep => { pattern := .beep, sounding := true, timer := some (now + 200) }
  | .oneHz => { pattern := .oneHz, sounding := true, timer := some (now + 500) }
  | .continuous => { pattern := .continuous, sounding := true, timer := none }

/-- The alert `a` is raised at time `now`, and no other is (R178, R179): the list and the notices are as `Raised` says;
the sounder plays what the new list asks, from the start of an on period where its pattern changes or where an entry at
or above the threshold is raised or refreshed, and as it stood else. That an alert that is not entered begins no pattern
again is log 22 (DEDUCED). -/
def State.raises (s u : State) (now : Time) (a : Alert) (ns : List (NoticeEvent × Nat)) : Prop :=
  Raised s.panel.alerts a u.panel.alerts ns ∧ u.mustPlay u.panel.sounder.pattern ∧
    let heard : Prop := (∃ b ∈ u.panel.alerts, b.kind = a.kind ∧ b.object = a.object) ∧
      (if s.control.mode = .held .invalid then 6 else s.conf.threshold) ≤ a.priority
    (heard ∨ u.panel.sounder.pattern ≠ s.panel.sounder.pattern →
      u.panel.sounder = Sounder.startsAt now u.panel.sounder.pattern) ∧
    (¬ heard → u.panel.sounder.pattern = s.panel.sounder.pattern → u.panel.sounder = s.panel.sounder)

/-- The alert of a kind for an object, as a raise makes it now (R177, R178). -/
def State.newAlert (s : State) (kind : AlertKind) (object priority : Nat) : Alert :=
  { kind, object, priority, stamp := s.stamp, count := 1, acked := false }

/-- The list `l` has the alert of a kind for an object, unacknowledged, with its priority and the time now. -/
def State.hasAlert (u : State) (kind : AlertKind) (object priority : Nat) : Prop :=
  ∃ a ∈ u.panel.alerts, a.kind = kind ∧ a.object = object ∧ a.priority = priority ∧ a.acked = false ∧ a.stamp = u.stamp

/-- The alert list (R177): at most 16 entries, one for a kind and object, with priorities 1 to 15 and counts 1 to
255. -/
def State.AlertsKept (s : State) : Prop :=
  s.panel.alerts.length ≤ 16 ∧ s.panel.alerts.Pairwise (fun a b => a.same b = false) ∧
  ∀ a ∈ s.panel.alerts, 1 ≤ a.priority ∧ a.priority ≤ 15 ∧ 1 ≤ a.count ∧ a.count ≤ 255

/-- The sounder (R179): it plays what the alert list asks, silently with no timer, continuously with none, and the
patterns of parts with the timer of the part. -/
def State.SounderKept (s : State) : Prop :=
  s.mustPlay s.panel.sounder.pattern ∧
    match s.panel.sounder.pattern with
    | .silent => s.panel.sounder.sounding = false ∧ s.panel.sounder.timer = none
    | .continuous => s.panel.sounder.sounding = true ∧ s.panel.sounder.timer = none
    | .beep | .oneHz => s.panel.sounder.timer.isSome = true

/-! ### Train records -/

/-- Record `r` becomes `x`; the other records and the three collections stay. -/
def State.rewrites (s u : State) (r : Nat) (x : Record) : Prop :=
  u.record r = x ∧ (∀ q ∈ Tab.numbers 48, q ≠ r → u.record q = s.record q) ∧ u.register.free = s.register.free ∧
    u.register.opened = s.register.opened ∧ u.register.completed = s.register.completed

/-- Every half that is present is in a final stage (R142). -/
def Record.final (x : Record) : Prop :=
  (∀ h, x.inbound = some h → h.stage = .ended ∨ h.stage = .cancelled) ∧
    ∀ h, x.outbound = some h → h.stage = .ended ∨ h.stage = .cancelled

/-- Record `r` becomes `x` and its completion is tested (R142): it completes when every half is in a final stage,
CANCELLED when they are all CANCELLED and FINISHED otherwise, leaves the open list for the tail of the completed
queue, and no link names it; else it stays open. -/
def State.rewritesAndTests (s u : State) (r : Nat) (x : Record) : Prop :=
  (x.final →
    u.record r = { x with reason := some (if x.allCancelled then .cancelled else .finished), grace := none } ∧
    (∀ q ∈ Tab.numbers 48, q ≠ r → u.record q = s.record q) ∧ u.register.free = s.register.free ∧
    u.register.opened = s.register.opened.filter (· != r) ∧ u.register.completed = s.register.completed ++ [r] ∧
    ∀ l ∈ Tab.numbers 3, u.owedOffer l ≠ some r ∧ u.outstandingOffer l ≠ some r) ∧
  (¬ x.final → s.rewrites u r x)

/-- Record `r` is the one that the next allocation gives (R132, R133): the top of the free list, or the head of the
completed queue when no record is free. -/
def State.allocates (s : State) (r : Nat) : Prop :=
  s.register.free.head? = some r ∨ s.register.free = [] ∧ s.register.completed.head? = some r

/-- Record `r` is allocated and becomes `x` (R132, R133): it is the newest of the open list, and a record taken from
the completed queue counts as overwritten. -/
def State.opens (s u : State) (r : Nat) (x : Record) : Prop :=
  u.record r = x ∧ (∀ q ∈ Tab.numbers 48, q ≠ r → u.record q = s.record q) ∧
    u.register.free = s.register.free.tail ∧ u.register.opened = s.register.opened ++ [r] ∧
    u.register.completed = (if s.register.free = [] then s.register.completed.tail else s.register.completed) ∧
    u.register.overwritten =
      (if s.register.free = [] then satAdd 65535 s.register.overwritten else s.register.overwritten)

/-- Low stock at an allocation at time `now` (R132): one that leaves 4 records free raises REGISTER_LOW where its state is
armed, and disarms it; every other leaves the alert list and the state alone. -/
def State.lowStock (s u : State) (now : Time) : Prop :=
  (s.register.free.length = 5 → s.register.armed = true → u.register.armed = false ∧
    (s.AlertsKept → s.SounderKept → ∃ ns, s.raises u now (s.newAlert .registerLow 0 5) ns)) ∧
  (s.register.free.length ≠ 5 ∨ s.register.armed = false →
    u.register.armed = s.register.armed ∧ u.panel.alerts = s.panel.alerts)

/-- A sent OFFER on offering section `x` finds no record to attach to (R136): not the one that SEND_BELL named, and none
that came in by the paired section. -/
def State.offersAnew (s : State) (x : Nat) (named : Option Nat) : Prop :=
  (∀ r, named = some r → r ∉ s.register.opened ∨ (s.record r).outbound ≠ none) ∧
    ∀ q ∈ s.register.opened, ¬ ((s.record q).outbound = none ∧
      ∃ h, (s.record q).inbound = some h ∧ (s.conf.sec x).pair = some h.sec)

/-- A sent code of meaning `m` that repeats nothing moves the records of line `l` (R132, R133, R136, R137, R139 to
R142). `named` is the record that SEND_BELL named, which an OFFER tries first (R136), and `failed` says that the gate of
R93 has failed a manual OUT_OF_SECTION. -/
def State.sentMoves (s u : State) (l : Nat) (m : Meaning) (named : Option Nat) (failed : Prop) : Prop :=
  u.sections = s.sections ∧
  (m ≠ .offer → u.outstandingOffer l = none) ∧
  (m = .offer → ∀ x, s.conf.offeringOf l = some x →
    (∀ r, named = some r → r ∈ s.register.opened → (s.record r).outbound = none →
      u.outstandingOffer l = some r ∧ s.rewrites u r { s.record r with
        outbound := some { sec := x, stage := .offered, offeredAt := some s.stamp }
        unset := (s.record r).unset || s.control.clock.unset }) ∧
    ((∀ r, named = some r → r ∉ s.register.opened ∨ (s.record r).outbound ≠ none) →
      (∀ r, Oldest (fun q => (s.record q).outbound = none ∧
            ∃ h, (s.record q).inbound = some h ∧ (s.conf.sec x).pair = some h.sec) s.register.opened r →
        u.outstandingOffer l = some r ∧ s.rewrites u r { s.record r with
          outbound := some { sec := x, stage := .offered, offeredAt := some s.stamp }
          unset := (s.record r).unset || s.control.clock.unset }) ∧
      ((∀ q ∈ s.register.opened, ¬ ((s.record q).outbound = none ∧
            ∃ h, (s.record q).inbound = some h ∧ (s.conf.sec x).pair = some h.sec)) →
        (∀ r, s.allocates r → u.outstandingOffer l = some r ∧ s.opens u r {
          outbound := some { sec := x, stage := .offered, offeredAt := some s.stamp }
          trail := match (s.conf.sec x).berth with
            | some t => if s.clear t = false ∧ ∀ q ∈ s.register.opened, (s.record q).head ≠ some t then [t] else []
            | none => []
          unset := s.control.clock.unset }) ∧
        (s.register.free = [] → s.register.completed = [] →
          u.register.records = s.register.records ∧ u.register.opened = s.register.opened ∧
          u.outstandingOffer l = none)))) ∧
  (m = .entering → ∀ x, s.conf.offeringOf l = some x →
    (∀ r, Oldest (fun q => (s.record q).outStage = some .accepted) (s.outboundList x) r →
      s.rewrites u r { s.record r with
        outbound := (s.record r).outbound.map fun h => { h with stage := .entering, enteringAt := some s.stamp }
        unset := (s.record r).unset || s.control.clock.unset }) ∧
    ((∀ r ∈ s.outboundList x, (s.record r).outStage ≠ some .accepted) →
      u.register.records = s.register.records ∧ u.register.opened = s.register.opened)) ∧
  (m = .outOfSection → ∀ x, s.conf.acceptingOf l = some x →
    (∀ r, Oldest (fun q => (s.record q).inStage = some .atTrack) (s.inboundList x) r →
      ∀ irregular : Bool, (irregular = true ↔ (s.record r).irregular = true ∨ failed) →
      s.rewritesAndTests u r { s.record r with
        inbound := (s.record r).inbound.map fun h => { h with stage := .ended, endedAt := some s.stamp }
        irregular := irregular
        unset := (s.record r).unset || s.control.clock.unset }) ∧
    ((∀ r ∈ s.inboundList x, (s.record r).inStage ≠ some .atTrack) →
      u.register.records = s.register.records ∧ u.register.opened = s.register.opened)) ∧
  (m = .cancel → ∀ x, s.conf.offeringOf l = some x →
    (∀ r, Newest (fun q => (s.record q).outStage = some .offered ∨ (s.record q).outStage = some .accepted)
        (s.outboundList x) r →
      s.rewritesAndTests u r { s.record r with
        outbound := (s.record r).outbound.map fun h => { h with stage := .cancelled } }) ∧
    ((∀ r ∈ s.outboundList x, (s.record r).outStage ≠ some .offered ∧ (s.record r).outStage ≠ some .accepted) →
      u.register.records = s.register.records ∧ u.register.opened = s.register.opened))

/-- A sent code of group list `groups` repeats the OFFER that line `l` owes, whose record `r` is open with its inbound
half `h` at OFFERED (R121, R134). -/
def State.owesOffer (s : State) (l : Nat) (groups : List Nat) (r : Nat) (h : Half) : Prop :=
  (∃ o, (s.bell l).owed = some o ∧ o.code.outcome ≠ .malformed ∧ o.code.groups = groups) ∧ s.owedOffer l = some r ∧
    r ∈ s.register.opened ∧ isRecord r = true ∧ (s.record r).inbound = some h ∧ h.stage = .offered

/-- A repetition of the OFFER of record `r`, whose inbound half is `h`, is given on line `l` (R134, R135): the half is
marked, and accepted where its section is at LC. -/
def State.repetitionOfOffer (s u : State) (l r : Nat) (h : Half) : Prop :=
  u.owedOffer l = none ∧ u.sections = s.sections ∧
    ((s.sec h.sec).acc.state = .lc → s.rewrites u r { s.record r with
      inbound := some { h with stage := .accepted, acceptedAt := some s.stamp, item := true }
      unset := (s.record r).unset || s.control.clock.unset }) ∧
    ((s.sec h.sec).acc.state ≠ .lc → s.rewrites u r { s.record r with inbound := some { h with item := true } })

/-- A code is being finished on a line (R102, R104): its recognizer is ASSEMBLING, the end gap has passed and no
pulse is under test. -/
def State.finishes (s : State) (tm : Time) (l : Nat) (ear : Ear) : Prop :=
  s.working ∧ isLine l = true ∧ s.inRelay l = false ∧ (s.recognizer l ear).phase = .assembling ∧
    (∃ e, (s.recognizer l ear).gapTimer = .running e ∧ e ≤ max s.now tm) ∧
    ∀ edge, (s.recognizer l ear).detector ≠ .testing edge

/-- A stroke whose edge came at `edge` leaves recognizer `ear` of line `l` as `r`, with its detector in STROKE, and no
notice (R98, R106); on a line in through relay it also turns the relay output on, for at most 500 ms (R168). -/
def State.takesStroke (s u : State) (tm : Time) (l : Nat) (ear : Ear) (edge : Time) (r : Recognizer) : Prop :=
  u.bells = s.bells.put l { (s.bell l).withRecognizer ear { r with detector := .stroke edge, lastStroke := some edge } with
    relay := if s.inRelay l then some ⟨max s.now tm, max s.now tm + 500⟩ else (s.bell l).relay } ∧
  s.announces u [] ∧ ChangesOnly [.bells] s u

/-- The code that recognizer `ear` of line `l` holds finishes as `k`, and the recognizer is idle (R99, R104):
MALFORMED
with its reason out of SWALLOWING, else compared with the code table. -/
def State.codeFinishes (s u : State) (tm : Time) (l : Nat) (ear : Ear) (k : CodeResult) : Prop :=
  (u.recognizer l ear).lastCode = some k ∧ (u.recognizer l ear).phase = .idle ∧ (u.recognizer l ear).groups = [] ∧
  (u.recognizer l ear).strokes = 0 ∧ (u.recognizer l ear).first = none ∧ (u.recognizer l ear).last = none ∧
  (u.recognizer l ear).gapTimer = .stopped ∧ (u.recognizer l ear).reason = none ∧
  (u.recognizer l ear).lastStroke = (s.recognizer l ear).lastStroke ∧
  k.line = l ∧ k.ear = ear ∧ k.groups = (s.recognizer l ear).groups ∧ k.strokes = (s.recognizer l ear).strokes ∧
  k.beat = (s.recognizer l ear).beat ∧ (∀ t, (s.recognizer l ear).first = some t → k.first = t) ∧
  k.finish = max s.now tm ∧ k.stamp = s.stamp ∧
  ((s.recognizer l ear).phase = .swallowing →
    k.outcome = .malformed ∧ k.entry = none ∧ k.reason = (s.recognizer l ear).reason) ∧
  ((s.recognizer l ear).phase = .assembling →
    k.outcome = (if (s.conf.matching (s.recognizer l ear).groups).isSome then .matched else .unrecognized) ∧
      k.entry = s.conf.matching (s.recognizer l ear).groups ∧ k.reason = none)

/-- Record `r` is open and followed (R148): its trail is not empty, and its outbound half is absent or at OFFERED,
ACCEPTED, ENTERING or CANCELLED. -/
def State.follows (s : State) (r : Nat) : Prop :=
  r ∈ s.register.opened ∧ (s.record r).trail ≠ [] ∧
    ∀ h, (s.record r).outbound = some h →
      h.stage = .offered ∨ h.stage = .accepted ∨ h.stage = .entering ∨ h.stage = .cancelled

/-- Record `r` is a candidate for a drop of track `t` (R150), judged while `t` itself is effectively occupied: it is
followed, its head is `t` or a track that lists `t` as its neighbour, and the head is effectively occupied, or its grace
runs, or it is lost. -/
def State.candidateFor (s : State) (t r : Nat) : Prop :=
  s.follows r ∧ ∃ h, (s.record r).trail.getLast? = some h ∧ (h = t ∨ t ∈ (s.conf.track h).neighbours) ∧
    (h = t ∨ s.clear h = false ∨ (s.record r).grace ≠ none ∨ (s.record r).lost = true)

/-- Record `r` is at ENTERING on an accepting section whose entry track is `t` (R151). -/
def State.entersAt (s : State) (t r : Nat) : Prop :=
  ∃ h, (s.record r).inbound = some h ∧ h.stage = .entering ∧ isSection h.sec = true ∧
    (s.conf.sec h.sec).role = .accepting ∧ (s.conf.sec h.sec).entry = t

/-- Record `r` qualifies at the starting berth `t` (R152): its trail is empty, and it is the oldest open record of the
outbound list of an offering section that has its berth there. -/
def State.berthsAt (s : State) (t r : Nat) : Prop :=
  (s.record r).trail = [] ∧ ∃ x, isSection x = true ∧ (s.conf.sec x).role = .offering ∧
    (s.conf.sec x).berth = some t ∧ Oldest (fun q => ∃ h, (s.record q).outbound = some h ∧ h.sec = x) s.register.opened r

/-- A track at the end of a trail (R147): nothing is added where it is the last there, and of a trail of 16 the oldest
goes. -/
def Record.extended (x : Record) (t : Nat) : Record :=
  if x.trail.getLast? = some t then x
  else { x with
    trail := (if x.trail.length < 16 then x.trail else x.trail.tail) ++ [t]
    truncated := x.truncated || decide (16 ≤ x.trail.length) }

/-- A record's outbound half is at ENTERING on an offering section whose exit track is `t` and whose repeater reads
TOL (R155). -/
def State.departs (s : State) (r t : Nat) : Prop :=
  ∃ h, (s.record r).outbound = some h ∧ h.stage = .entering ∧ (s.conf.sec h.sec).role = .offering ∧
    (s.conf.sec h.sec).exit = t ∧ (s.sec h.sec).off.repeater = .tol

/-- A record whose train has departed (R155): the outbound half at DEPARTED with its time, and no grace. -/
def State.departed (s : State) (x : Record) : Record :=
  { x with
    outbound := x.outbound.map fun h => { h with stage := .atTrack, atTrackAt := some s.stamp }
    grace := none
    unset := x.unset || s.control.clock.unset }

/-! ### Lamps -/

/-- The source of indication `i` is true (R173, R174). -/
def State.shows (s : State) (i : Nat) : Prop :=
  let n := (s.conf.indication i).index
  match (s.conf.indication i).source with
  | .leverNormal => (s.lever n).phase = .normal ∨ (s.lever n).phase = .normalCatch
  | .leverReverse => (s.lever n).phase = .reverse ∨ (s.lever n).phase = .reverseCatch
  | .leverFree => (s.lever n).phase = .normalFree ∨ (s.lever n).phase = .reverseFree
  | .leverFaultMark => (s.lever n).faultMark = true
  | .trackOccupied => ¬ ((s.track n).filter = .clear ∧ (s.track n).failed = false ∧ (s.track n).suspect = false)
  | .trackMarked => (s.track n).failed = true ∨ (s.track n).suspect = true
  | .sectionLB => (s.conf.sec n).role = .accepting ∧ (s.sec n).acc.state = .lb ∨
      (s.conf.sec n).role = .offering ∧ (s.sec n).off.repeater = .lb
  | .sectionLC => (s.conf.sec n).role = .accepting ∧ (s.sec n).acc.state = .lc ∨
      (s.conf.sec n).role = .offering ∧ (s.sec n).off.repeater = .lc
  | .sectionTOL => (s.conf.sec n).role = .accepting ∧ (s.sec n).acc.state = .tol ∨
      (s.conf.sec n).role = .offering ∧ (s.sec n).off.repeater = .tol
  | .sectionDisagreement => (s.conf.sec n).role = .accepting ∧ (s.sec n).acc.disagreement = true
  | .sectionThrough => (s.conf.sec n).role = .accepting ∧ (s.sec n).acc.state = .through
  | .releaseAvailable => (s.conf.sec n).role = .offering ∧ (s.sec n).off.release = .available
  | .codeOwed => (s.bell n).owed.isSome = true
  | .codeOutstanding => (s.bell n).outstanding.isSome = true
  | .holdExists => ∃ h ∈ s.holds, h.signal = n
  | .timeReleaseReady => ∃ h, s.hold? n = some h ∧ h.state = .ready
  | .boxSwitchedOut => s.control.box = .switchedOut
  | .alertActive => ∃ a ∈ s.panel.alerts, a.acked = false ∧ (n = 0 ∨ a.kind.number = n)
  | .codeReceived => (s.pulse i).isSome = true
  | .none => False

/-! ### A warm restart (R195) -/

/-- The state after a warm restart: what each unit keeps and what it begins again. -/
structure WarmRestarted (cause : ResetCause) (s u : State) : Prop where
  /-- START, with the interval counting unless the reset line is low (R195). -/
  mode : u.control.mode = .start ∧ u.control.cause = cause ∧
    u.control.interval = (if u.inputs.resetLow then none else some (u.now + 2000))
  /-- The box state and the box clock are kept; the through relay is off (R172, R201). -/
  control : u.control.box = s.control.box ∧ u.control.clock = s.control.clock ∧ u.control.relayOn = false ∧
    u.control.through = none ∧ u.control.after = none ∧ u.control.writing = false
  /-- Tracks: OCCUPIED, the timer stopped, no flickers, the marks kept (R17). -/
  tracks : ∀ t ∈ Tab.numbers 16, u.track t = { failed := (s.track t).failed, suspect := (s.track t).suspect }
  /-- Levers: derived from the inputs, locks off, nothing granted, the fault mark kept (R44). -/
  levers : ∀ n ∈ Tab.numbers 24,
    u.lever n = { phase := (u.leverInputs n).phase, faultMark := (s.lever n).faultMark }
  /-- The route hold list is empty (R67), the set in force is kept (R42). -/
  holds : u.holds = [] ∧ u.set = s.set
  /-- Accepting sections keep their state but for LC, which is forced to TOL (R85); offering sections keep repeater
  and release (R90). -/
  sections : ∀ x ∈ Tab.numbers 6, (u.conf.sec x).role = (s.conf.sec x).role →
    (u.sec x).acc = (s.sec x).acc.warm ∧ (u.sec x).off = { (s.sec x).off with timer := none }
  /-- Bells: nothing received, sent, outstanding or owed (R109, R126). -/
  bells : ∀ l ∈ Tab.numbers 3, u.bell l = {}
  /-- The records and the three lists are kept, links and head graces go (R145, R161). -/
  register : u.register.free = s.register.free ∧ u.register.opened = s.register.opened ∧
    u.register.completed = s.register.completed ∧ u.register.overwritten = s.register.overwritten ∧
    u.register.armed = s.register.armed ∧
    (∀ r ∈ Tab.numbers 48, u.record r = { s.record r with grace := none }) ∧
    ∀ l ∈ Tab.numbers 3, u.owedOffer l = none ∧ u.outstandingOffer l = none
  /-- Panel and link begin again (R176, R181, R193). -/
  outside : u.panel = {} ∧ u.link = {}
  /-- The working copy is loaded from the items in force; the counters are kept (R194). -/
  store : u.store.working = u.store.inForce ∧ u.store.written = false ∧ u.store.fault = s.store.fault ∧
    Part.Same s u .counters

/-! ### Requests -/

/-- The lengths that the body of a request kind can have (R183, R190): SEND_BELL is one byte longer with a record. The
body of WRITE_CONFIG is not tested with it (R185). -/
def bodyLengths (kind : Byte) : List Nat :=
  match kind.toNat with
  | 0x0A => [2]
  | 0x10 => [3, 4]
  | 0x1C => [6]
  | 0x01 | 0x17 | 0x18 | 0x19 | 0x1A | 0x1B | 0x20 | 0x21 | 0x25 => [0]
  | _ => [1]

/-! ### The configuration -/

/-- What READ_CONFIG returns of each item, WRITE_CONFIG takes, and it changes nothing (R190, R198). -/
def Rereads (c : Conf) : Prop :=
  ∀ cls index, itemExists cls index = true → writeItem c cls index (itemBytes c cls index) = some c

/-! ### Validation (R199, Table 12.2) -/

/-- Track `t` is in range and fitted (R1). -/
def Fitted (c : Conf) (t : Nat) : Prop := isTrack t = true ∧ (c.track t).kind ≠ .notFitted

/-- What a locking term names is in range, and its track is fitted (R20). -/
def TermNames (c : Conf) : Term → Prop
  | .ln n => isLever n = true
  | .lr n => isLever n = true
  | .lnc n m => isLever n = true ∧ isLever m = true
  | .tc t => Fitted c t
  | .lcr x => isSection x = true

/-- Every index that an item names lies in range, and the tracks of an entry, a hold definition or a section are
fitted (check 1). -/
def NamesExist (c : Conf) (cls i : Nat) : Prop :=
  match cls with
  | 1 => ∀ t ∈ c.entries.get [] i, TermNames c t
  | 2 => ∀ d, c.holdDef i = some d → (∀ t ∈ d.holding, Fitted c t) ∧ (∀ t, d.approach = some t → Fitted c t) ∧
      ∀ n ∈ d.held, isLever n = true
  | 3 => ∀ t ∈ (c.track i).neighbours, isTrack t = true
  | 4 =>
    ((c.sec i).role ≠ .unused → isLine (c.sec i).line = true ∧ ∀ p, (c.sec i).pair = some p → isSection p = true) ∧
    ((c.sec i).role = .accepting →
      isLever (c.sec i).home = true ∧ Fitted c (c.sec i).clearing ∧ Fitted c (c.sec i).entry) ∧
    ((c.sec i).role = .offering →
      isLever (c.sec i).starting = true ∧ Fitted c (c.sec i).exit ∧ ∀ t, (c.sec i).berth = some t → Fitted c t)
  | 9 => isLine c.switchOut.lineA = true ∧ isLine c.switchOut.lineB = true
  | _ => True

/-- A neighbour list (R2, check 2): not the track itself, nothing twice, naming who names it, and empty where the
track is not fitted. A fitted track that a NOT_FITTED one names back passes, and the other is at fault (DEDUCED log 18).
-/
def NeighboursFit (c : Conf) (t : Nat) : Prop :=
  t ∉ (c.track t).neighbours ∧ (c.track t).neighbours.Nodup ∧
    (∀ u ∈ Tab.numbers 16, u ∈ (c.track t).neighbours ↔ t ∈ (c.track u).neighbours) ∧
    ((c.track t).kind = .notFitted → (c.track t).neighbours = [])

/-- A term that an entry of lever `owner` may not hold (R20, check 3): one that names the lever itself, or an LCR of a
section that is not OFFERING. -/
def TermAmiss (c : Conf) (owner : Nat) : Term → Prop
  | .ln n => n = owner
  | .lr n => n = owner
  | .lnc n m => n = owner ∨ m = owner
  | .tc _ => False
  | .lcr x => (c.sec x).role ≠ .offering

/-- A route hold definition of lever `n` (R47, check 4). -/
def DefinitionFits (c : Conf) (n : Nat) (d : HoldDef) : Prop :=
  c.leverKind n = .signal ∧ d.holding.Nodup ∧ d.held.Nodup ∧ n ∉ d.held ∧ ∀ t, d.approach = some t → t ∉ d.holding

/-- Section `x` may name section `p` as its pair (R71): of the other role, on another line, naming `x` in turn. -/
def PairedWell (c : Conf) (x p : Nat) : Prop :=
  ((c.sec x).role = .accepting ∧ (c.sec p).role = .offering ∨
      (c.sec x).role = .offering ∧ (c.sec p).role = .accepting) ∧
    (c.sec p).line ≠ (c.sec x).line ∧ (c.sec p).pair = some x

/-- Lever `n` is the home signal or the starting signal of section `x` (R70). -/
def SignalOf (c : Conf) (x n : Nat) : Prop :=
  (c.sec x).role = .accepting ∧ (c.sec x).home = n ∨ (c.sec x).role = .offering ∧ (c.sec x).starting = n

/-- A section (R71, check 5): alone of its role on its line, paired well with the section that it names and with each
that names it, with a signal of its own, and with RUNNING tracks. -/
def SectionFits (c : Conf) (x : Nat) : Prop :=
  ((c.sec x).role ≠ .unused →
    ∀ y ∈ Tab.numbers 6, y ≠ x → (c.sec y).role = (c.sec x).role → (c.sec y).line ≠ (c.sec x).line) ∧
  ((c.sec x).role ≠ .unused → ∀ p, (c.sec x).pair = some p → PairedWell c x p) ∧
  (∀ y ∈ Tab.numbers 6, (c.sec y).role ≠ .unused → (c.sec y).pair = some x → PairedWell c y x) ∧
  (∀ n, SignalOf c x n → c.leverKind n = .signal ∧ ∀ y ∈ Tab.numbers 6, y ≠ x → ¬ SignalOf c y n) ∧
  ((c.sec x).role = .accepting →
    (c.track (c.sec x).clearing).kind = .running ∧ (c.track (c.sec x).entry).kind = .running ∧
      (c.sec x).clearing ≠ (c.sec x).entry) ∧
  ((c.sec x).role = .offering →
    (c.track (c.sec x).exit).kind = .running ∧ ∀ t, (c.sec x).berth = some t → (c.track t).kind = .running)

/-- Entry `i` is a to-reverse entry, in set A or in set B, of the starting signal of section `x` (R40, R71). -/
def StartsFrom (c : Conf) (i x : Nat) : Prop :=
  (c.sec x).role = .offering ∧ isLever (c.sec x).starting = true ∧
    (i = entryIndex (c.sec x).starting .a .toReverse ∨ i = entryIndex (c.sec x).starting .b .toReverse)

/-- A valid pattern (R97, check 7). -/
def PatternValid (p : List Nat) : Prop := p ≠ [] ∧ p.length ≤ 6 ∧ (∀ g ∈ p, 1 ≤ g ∧ g ≤ 9) ∧ p.sum ≤ 24

/-- An indication (R173, check 9): PULSE with CODE_RECEIVED and with no other source, and the index in the range of
the kind. NONE fits every mode and index, and ALERT_ACTIVE takes 0 to 12 (DEDUCED log 18). -/
def IndicationFits (k : IndicationConf) : Prop :=
  (k.source ≠ .none → (k.source = .codeReceived ↔ k.display = .pulse)) ∧
  match k.source with
  | .leverNormal | .leverReverse | .leverFree | .leverFaultMark | .holdExists | .timeReleaseReady =>
    1 ≤ k.index ∧ k.index ≤ 24
  | .trackOccupied | .trackMarked => 1 ≤ k.index ∧ k.index ≤ 16
  | .sectionLB | .sectionLC | .sectionTOL | .sectionDisagreement | .sectionThrough | .releaseAvailable =>
    1 ≤ k.index ∧ k.index ≤ 6
  | .codeOwed | .codeOutstanding | .codeReceived => 1 ≤ k.index ∧ k.index ≤ 3
  | .alertActive => k.index ≤ 12
  | .boxSwitchedOut | .none => True

/-- Line `a` has one ACCEPTING section, line `b` one OFFERING section, and the first is paired with the second (R163,
check 10). -/
def Mirrors (c : Conf) (a b : Nat) : Prop :=
  ∃ x y, c.sectionsOf .accepting a = [x] ∧ c.sectionsOf .offering b = [y] ∧ (c.sec x).pair = some y

/-- The item of class `cls` and index `i` fails a check of Table 12.2. Which items each check is made at, where the
table leaves it open, is log 18 (DEDUCED): check 6 at the entry and at the section that it relates. -/
def Breaks (c : Conf) (cls i : Nat) : Nat → Prop
  | 1 => ¬ NamesExist c cls i
  | 2 => cls = 3 ∧ ¬ NeighboursFit c i
  | 3 => cls = 1 ∧ ∃ t ∈ c.entries.get [] i, TermAmiss c ((i - 1) / 4 + 1) t
  | 4 => cls = 2 ∧ ∃ d, c.holdDef i = some d ∧ ¬ DefinitionFits c i d
  | 5 => cls = 4 ∧ ¬ SectionFits c i
  | 6 =>
    cls = 1 ∧ (∃ x ∈ Tab.numbers 6, StartsFrom c i x ∧ Term.lcr x ∉ c.entries.get [] i) ∨
      cls = 4 ∧ (c.sec i).role = .offering ∧ ∃ set, Term.lcr i ∉ c.entry (c.sec i).starting set .toReverse
  | 7 => cls = 6 ∧ (c.code i).inUse = true ∧ ¬ PatternValid (c.code i).pattern
  | 8 =>
    cls = 6 ∧ (c.code i).inUse = true ∧
      ∃ e ∈ Tab.numbers 32, e ≠ i ∧ (c.code e).inUse = true ∧ (c.code e).pattern = (c.code i).pattern
  | 9 => cls = 7 ∧ ¬ IndicationFits (c.indication i)
  | 10 =>
    cls = 9 ∧ c.switchOut.may = true ∧
      ¬ (c.switchOut.lineA ≠ c.switchOut.lineB ∧ Mirrors c c.switchOut.lineA c.switchOut.lineB ∧
        Mirrors c c.switchOut.lineB c.switchOut.lineA)
  | _ => False

/-! ### What holds of every state -/

/-- The locks (R19, R21, R22, R33): a lock is energized only in RUNNING, on a lever in a FREE state or in TRAVEL
that is not SPARE and that no route hold names; a grant record is held only by such a lever. -/
def State.LocksSafe (s : State) : Prop :=
  ∀ n ∈ Tab.numbers 24,
    ((s.lever n).solenoid = true →
      s.control.mode = .running ∧ ((s.lever n).phase.isFree = true ∨ (s.lever n).phase = .travel) ∧
        s.holdNaming n = none ∧ s.conf.leverKind n ≠ .spare) ∧
    ((s.lever n).phase.isFree = true → (s.lever n).solenoid = true ∧ (s.lever n).grant.isSome = true) ∧
    ((s.lever n).grant.isSome = true →
      s.control.mode ≠ .start ∧ ((s.lever n).phase.isFree = true ∨ (s.lever n).phase = .travel)) ∧
    (s.control.mode = .start ∨ (s.lever n).phase ≠ .travel →
      (s.lever n).origin = .none ∧ (s.lever n).timer = .stopped)

/-- The register (R128, R129, R134): every record is in exactly one of the three lists, an open record has a half
and no reason, a complete one has a reason, and the links name open records. -/
def State.RegisterWhole (s : State) : Prop :=
  (s.register.free ++ s.register.opened ++ s.register.completed).Perm (Tab.numbers 48) ∧
  (∀ r ∈ s.register.opened,
    (s.record r).reason = none ∧ ((s.record r).inbound.isSome = true ∨ (s.record r).outbound.isSome = true)) ∧
  (∀ r ∈ s.register.completed, (s.record r).reason.isSome = true) ∧
  ∀ l ∈ Tab.numbers 3, (∀ r ∈ s.owedOffer l, r ∈ s.register.opened) ∧
    ∀ r ∈ s.outstandingOffer l, r ∈ s.register.opened

/-- The trails (R147): at most 16 tracks, no track twice running. -/
def State.TrailsKept (s : State) : Prop :=
  ∀ r ∈ Tab.numbers 48, (s.record r).trail.length ≤ 16 ∧
    ∀ k ∈ List.range 15, (s.record r).trail[k + 1]?.isSome = true →
      (s.record r).trail[k]? ≠ (s.record r).trail[k + 1]?

/-- The route hold list (R48, R67, R68): in signal order with one hold for a signal, each of a definition that is
present, with a stage for each holding track, and with timer and prior state in TIMING and READY alone; empty in the
start interval and in HELD with configuration invalid. -/
def State.HoldsKept (s : State) : Prop :=
  (s.holds.map (·.signal)).Pairwise (· < ·) ∧
  (∀ h ∈ s.holds, (s.conf.holdDef h.signal).isSome = true ∧ h.stages.length = (s.holdingOf h).length ∧
    h.timer.isSome = h.releasing ∧ h.prior.isSome = h.releasing) ∧
  (s.control.mode = .start ∨ s.invalid = true → s.holds = [])

/-- The box (R42, R164, R166, R168, R169): the set follows the box state; the through relay is on exactly while a
switched out part works; while the box is switched out no record is open; only then is a section in THROUGH; and
while the relay is on the accepting sections of the pair are, and no line of the pair sends, owes or awaits a code. -/
def State.BoxKept (s : State) : Prop :=
  s.set = (if s.control.box = .opened then .a else .b) ∧
  (s.control.relayOn = true ↔ s.control.box = .switchedOut ∧ s.live = true) ∧
  (s.control.through.isSome = true → s.control.relayOn = true) ∧
  (s.control.box = .switchedOut → s.register.opened = []) ∧
  (s.throughSections ≠ [] → s.control.box = .switchedOut) ∧
  (s.control.relayOn = true → s.throughSections = s.pairAccepting) ∧
  ∀ l ∈ Tab.numbers 3, s.live = false ∨ s.inRelay l = true →
    (s.bell l).send = none ∧ (s.bell l).outstanding = none ∧ (s.bell l).owed = none ∧ (s.bell l).man.phase = .idle

/-- The clearing point (R76, R82, R85): an accepting section stands at LINE_CLEAR only while its clearing track is
effectively clear, and never in the start interval. -/
def State.ClearingKept (s : State) : Prop :=
  ∀ x ∈ Tab.numbers 6, (s.conf.sec x).role = .accepting → (s.sec x).acc.state = .lc →
    s.clear (s.conf.sec x).clearing = true ∧ s.control.mode ≠ .start

/-- The persistent counters (R194): while the part is powered both copies of each hold one value with a good check. -/
def State.CountersAgree (s : State) : Prop :=
  s.powered = true →
    (∀ n ∈ Tab.numbers 24, s.store.counter (.release n) = ⟨some (s.store.counter (.release n)).value,
        some (s.store.counter (.release n)).value⟩ ∧
      s.store.counter (.forced n) = ⟨some (s.store.counter (.forced n)).value,
        some (s.store.counter (.forced n)).value⟩) ∧
    ∀ t ∈ Tab.numbers 16, s.store.counter (.mark t) = ⟨some (s.store.counter (.mark t)).value,
      some (s.store.counter (.mark t)).value⟩

/-- A recognizer (R99 to R103): what each state holds of the groups, the stroke count, the beat reference and the
end gap. -/
def Recognizer.Kept (r : Recognizer) : Prop :=
  match r.phase with
  | .idle => r.groups = [] ∧ r.strokes = 0 ∧ r.first = none ∧ r.last = none ∧ r.reason = none ∧ r.gapTimer = .stopped
  | .assembling =>
    1 ≤ r.groups.length ∧ r.groups.length ≤ 6 ∧ (∀ g ∈ r.groups, 1 ≤ g) ∧ r.groups.sum = r.strokes ∧ r.strokes ≤ 24 ∧
      80 ≤ r.beat ∧ r.beat ≤ 800 ∧ r.endGap = endGapOf r.beat ∧ r.first.isSome = true ∧ r.last.isSome = true ∧
      r.reason = none ∧ r.gapTimer ≠ .stopped
  | .swallowing =>
    1 ≤ r.groups.length ∧ r.groups.length ≤ 6 ∧ (∀ g ∈ r.groups, 1 ≤ g) ∧ r.groups.sum ≤ 24 ∧
      r.groups.sum < r.strokes ∧ r.strokes ≤ 255 ∧ 80 ≤ r.beat ∧ r.beat ≤ 800 ∧ r.endGap = endGapOf r.beat ∧
      r.first.isSome = true ∧ r.last.isSome = true ∧ r.reason.isSome = true ∧ r.gapTimer ≠ .stopped

/-- The configured beats of every line lie within the bounds of a beat reference (R95). -/
def BeatsFit (c : Conf) : Prop :=
  ∀ l ∈ Tab.numbers 3, 80 ≤ (c.line l).receiveBeat ∧ (c.line l).receiveBeat ≤ 800 ∧ 80 ≤ (c.line l).sendBeat ∧
    (c.line l).sendBeat ≤ 800

/-- The recognizers of every line, under configured beats that fit (R95, R99 to R103). -/
def State.RecognizersKept (s : State) : Prop :=
  BeatsFit s.store.inForce ∧ BeatsFit s.store.working ∧
  ∀ l ∈ Tab.numbers 3, (s.bell l).rx.Kept ∧ (s.bell l).man.Kept

/-- The bells while the part does not work (R99, R108, R109): every recognizer is idle, and no pulse is under test. -/
def State.BellsQuiet (s : State) : Prop :=
  s.live = false → ∀ l ∈ Tab.numbers 3, ∀ ear,
    (s.recognizer l ear).phase = .idle ∧ ∀ edge, (s.recognizer l ear).detector ≠ .testing edge

/-- The link (R184, R186, R187, R192, R193): at most 4 requests wait and 32 notices; the transmitter sends what
there is; a hunting assembler has gathered nothing; in the start interval everything is empty. -/
def State.LinkKept (s : State) : Prop :=
  s.link.queue.length ≤ 4 ∧ s.link.outbox.length ≤ 32 ∧
  s.link.linkErrors ≤ 65535 ∧ s.link.abandoned ≤ 65535 ∧ s.link.discarded ≤ 65535 ∧ s.link.lost ≤ 65535 ∧
  s.link.lostSinceStatus ≤ 65535 ∧
  (s.link.tx = .reply → s.link.slot.isSome = true) ∧ (s.link.tx = .notice → s.link.outbox ≠ []) ∧
  (s.link.asm.state = .hunt → s.link.asm.bytes = []) ∧
  (s.control.mode = .start → s.link.asm.state = .hunt ∧ s.link.queue = [] ∧ s.link.slot = none ∧ s.link.outbox = [] ∧
    s.link.tx = .idle ∧ s.control.after = none ∧ s.control.writing = false)

/-- The tracks (R3, R7, R8): the pick-up timer runs exactly in PICKING; under a flicker limit the count stays within
it and reaches it only with the failed mark; in the start interval every count is 0 (R16, R17); a track that is not
fitted stays OCCUPIED with its count 0, and carries no mark while the part works. -/
def State.TracksKept (s : State) : Prop :=
  ∀ t ∈ Tab.numbers 16,
    ((s.track t).timer.isSome = true ↔ (s.track t).filter = .picking) ∧
    (∀ e ∈ (s.conf.track t).flicker.limit?, (s.track t).flickers ≤ e ∧ ((s.track t).flickers = e → (s.track t).failed = true)) ∧
    (s.control.mode = .start → (s.track t).flickers = 0) ∧
    (s.conf.fitted t = false →
      (s.track t).filter = .occupied ∧ (s.track t).flickers = 0 ∧ (s.live = true → (s.track t).marked = false))

end Sys2Proof.Machine
end

