-- ==== Sys2Proof/Certificates/Slice0/Obligations.lean ====
section
/-!
DEFINITION. The statements about the part, for the provers.

`tm` is the time a command carries and `max s.now tm` the time at which the event happens. A frame is said by
`ChangesOnly`, which lists the parts that the event may change beside those that the close of any event may
change. Whole tables are given by `put`, so that every other track, lever, section or line is said to be the same.
-/

open Sys2Proof Sys2Proof.Machine

/-! ### The queue, and the machine as a whole -/

/-- A step takes the command at the front of the queue and runs it with the rest left waiting; on an empty queue it
idles (the MODEL'S CHOICE, log 2). -/
def Obligations.StepRunsTheFrontCommand : Prop :=
  (∀ (c : Instr) (rest : List Instr) (s : State), s.pending = c :: rest → step s = exec c { s with pending := rest }) ∧
  ∀ s : State, s.pending = [] → step s = .next s

/-- Every command is an event that the part takes whole: it answers a next state, leaves the queue alone, and never
takes time backwards (the MODEL'S CHOICE for time, log 1). -/
def Obligations.EveryCommandAnswersANextState : Prop :=
  ∀ (c : Instr) (s : State), ∃ u, exec c s = .next u ∧ u.pending = s.pending ∧ s.now ≤ u.now

/-! ### Reset -/

/-- State.reset is the part as the supply finds it with a store never written (R16, R44, R67, R74, R85, R90, R145,
R172, R176, R181, R193, R194, R195, R201). Values that the spec leaves open are the MODEL'S CHOICE: the timebase
begins at 0 (log 1) with the reset line high (log 5), so that the start interval ends at 2,000; and a line's
recognizers begin with no recorded stroke width and with beat reference and end gap 0 (log 5). -/
def Obligations.ResetIsThePowerOnState : Prop :=
  State.reset.control.mode = .start ∧ State.reset.control.cause = .powerOn ∧
  State.reset.control.interval = some 2000 ∧
  State.reset.store.checkGood = false ∧ State.reset.store.inForce = {} ∧ State.reset.store.written = false ∧
  (∀ t ∈ Tab.numbers 16, State.reset.track t = { filter := .occupied }) ∧
  (∀ n ∈ Tab.numbers 24, (State.reset.lever n).solenoid = false ∧ (State.reset.lever n).grant = none ∧
    (State.reset.lever n).fresh = false ∧ (State.reset.lever n).faultMark = false) ∧
  State.reset.holds = [] ∧
  (∀ x ∈ Tab.numbers 6, (State.reset.sec x).acc.state = .tol ∧ (State.reset.sec x).acc.assumed = true ∧
    (State.reset.sec x).off.repeater = .tol ∧ (State.reset.sec x).off.release = .none) ∧
  (∀ l ∈ Tab.numbers 3, State.reset.bell l = {}) ∧
  State.reset.register.free = Tab.numbers 48 ∧ State.reset.register.opened = [] ∧
  State.reset.register.completed = [] ∧ State.reset.register.overwritten = 0 ∧ State.reset.register.armed = true ∧
  State.reset.panel.alerts = [] ∧ State.reset.panel.sounder.pattern = .silent ∧ State.reset.panel.flasher = none ∧
  State.reset.link.queue = [] ∧ State.reset.link.slot = none ∧ State.reset.link.outbox = [] ∧
  State.reset.control.box = .opened ∧ State.reset.control.relayOn = false ∧ State.reset.set = .a ∧
  State.reset.control.clock.second = 0 ∧ State.reset.control.clock.day = 0 ∧ State.reset.control.clock.unset = true

/-- State.reset meets every invariant below. -/
def Obligations.ResetMeetsTheInvariants : Prop :=
  State.reset.LocksSafe ∧ State.reset.RegisterWhole ∧ State.reset.TrailsKept ∧ State.reset.HoldsKept ∧
  State.reset.BoxKept ∧ State.reset.ClearingKept ∧ State.reset.CountersAgree ∧ State.reset.RecognizersKept ∧
  State.reset.BellsQuiet ∧ State.reset.AlertsKept ∧ State.reset.SounderKept ∧ State.reset.LinkKept ∧
  State.reset.TracksKept

/-! ### Invariants that every step keeps -/

/-- The locks stay safe (R19, R21, R22, R33): no lock is energized but on a lever in a FREE state or in TRAVEL, in
RUNNING, that is not SPARE and that no route hold names as held. -/
def Obligations.StepKeepsLocksSafe : Prop :=
  ∀ s u : State, s.LocksSafe → step s = .next u → u.LocksSafe

/-- The register stays whole (R128, R129, R134, R147): free list, open list and completed queue hold each of the 48
records exactly once, and a trail never holds more than 16 tracks nor one track twice running. -/
def Obligations.StepKeepsTheRegister : Prop :=
  ∀ s u : State, s.RegisterWhole → s.TrailsKept → step s = .next u → u.RegisterWhole ∧ u.TrailsKept

/-- The route hold list stays in signal order with one hold for a signal (R48). -/
def Obligations.StepKeepsHolds : Prop :=
  ∀ s u : State, s.HoldsKept → step s = .next u → u.HoldsKept

/-- The set follows the box state, and a switched out box has no open record and no line that owes or awaits a code
(R42, R164, R166, R169), beside recognizers that are kept as R99 to R103 say and, while the part does not work, are
idle with no pulse under test (R108, R109), by which no code can finish there. That the link is kept, which by
StepKeepsLink every step keeps, is a premise: in the start interval no request waits that could ring a bell (R193). -/
def Obligations.StepKeepsBox : Prop :=
  ∀ s u : State, s.BoxKept → s.RecognizersKept → s.BellsQuiet → s.LinkKept → step s = .next u →
    u.BoxKept ∧ u.RecognizersKept ∧ u.BellsQuiet

/-- An accepting section stands at LINE_CLEAR only over a clearing track that is effectively clear (R76, R82, R85). -/
def Obligations.StepKeepsClearingPoints : Prop :=
  ∀ s u : State, s.ClearingKept → step s = .next u → u.ClearingKept

/-- The persistent counters keep two good copies while the part is powered, and their values never decrease, through
every reset and every loss of power (R10, R25, R62, R194). -/
def Obligations.StepKeepsCounters : Prop :=
  ∀ s u : State, s.CountersAgree → step s = .next u →
    u.CountersAgree ∧ ∀ k : CounterName, (s.store.counter k).value ≤ (u.store.counter k).value

/-- Each recognizer holds 1 to 6 groups that add up to its strokes, at most 24, with a beat reference within 80 to 800
ms and an end gap that follows it (R99, R101, R103). -/
def Obligations.StepKeepsRecognizers : Prop :=
  ∀ s u : State, s.RecognizersKept → step s = .next u → u.RecognizersKept

/-- The alert list keeps at most 16 entries, one for a kind and object (R177), and the sounder plays at every moment what
the list asks: the pattern of the highest priority among the unacknowledged entries at or above the threshold, and
nothing in the start interval (R179). -/
def Obligations.StepKeepsAlerts : Prop :=
  (∀ s u : State, s.AlertsKept → step s = .next u → u.AlertsKept) ∧
  ∀ s u : State, s.SounderKept → step s = .next u → u.SounderKept

/-- The request queue keeps at most 4 requests and the outbox at most 32 notices, and the transmitter sends only what
is there (R186, R187, R192, R193). -/
def Obligations.StepKeepsLink : Prop :=
  ∀ s u : State, s.LinkKept → step s = .next u → u.LinkKept

/-- The pick-up timer of a track runs exactly in PICKING, the flicker count stays within its limit, reaches it only
with the failed mark, and is 0 in the start interval and on a track that is not fitted (R3, R7, R8, R16, R17). -/
def Obligations.StepKeepsTracks : Prop :=
  ∀ s u : State, s.TracksKept → step s = .next u → u.TracksKept

/-! ### Supply, resets and modes -/

/-- POWER_ON on a part without power (R195): every unit in its power-on state (R16, R44, R67, R85, R90, R109, R126,
R145, R172, R176, R181, R193, R201), with the store, and each counter at the value taken from its copies (R194). Of a
line and of the link, values that the spec leaves open are the MODEL'S CHOICE (log 5): no recorded stroke width, beat
reference and end gap 0, and 0 for the time of the assembler's last byte. -/
def Obligations.PowerOnStartsEveryUnit : Prop :=
  ∀ (s : State) (tm : Time), s.powered = false →
    ∃ u, exec (.powerOn tm) s = .next u ∧ u.powered = true ∧ u.now = max s.now tm ∧ u.inputs = s.inputs ∧
      u.control.mode = .start ∧ u.control.cause = .powerOn ∧ u.control.box = .opened ∧
      u.control.interval = (if s.inputs.resetLow then none else some (u.now + 2000)) ∧
      u.control.clock = { day := 0, second := 0, unset := true, nextAt := u.now + 1000 } ∧
      u.tracks = Tab.rep 16 {} ∧ u.set = .a ∧ u.holds = [] ∧ u.bells = Tab.rep 3 {} ∧ u.register = {} ∧ u.panel = {} ∧
      u.link = {} ∧
      (∀ n ∈ Tab.numbers 24, u.lever n = { phase := (s.leverInputs n).phase }) ∧
      (∀ x ∈ Tab.numbers 6, u.sec x = { acc := { switch := s.switchAtReset x } }) ∧
      u.store.inForce = s.store.inForce ∧ u.store.checkGood = s.store.checkGood ∧ u.store.working = s.store.inForce ∧
      u.store.written = false ∧
      ∀ k : CounterName, k.wellFormed = true →
        u.store.counter k = ⟨some (s.store.counter k).value, some (s.store.counter k).value⟩

/-- LOSS_OF_POWER (R194, R199, R200): the part is without power, and the terminals, the items in force with their
check word and both copies of every counter stay. A loss during the store write leaves each item the old one or the
new one (log 9) with a bad check word, which the next power-on finds. Where it cuts short the writing of a counter
copy (log 10), that copy alone is bad, and the value taken at the next power-on is the old one or the new one, with no
store fault. -/
def Obligations.LossOfPowerSparesTheStore : Prop :=
  ∀ (s : State) (tm tm' : Time), s.powered = true →
    (s.control.writing = false →
      ∃ u, exec (.lossOfPower tm none) s = .next u ∧ u.powered = false ∧ u.inputs = s.inputs ∧
        u.store.inForce = s.store.inForce ∧ u.store.checkGood = s.store.checkGood ∧ Part.Same s u .counters) ∧
    (s.control.writing = true →
      ∃ u, exec (.lossOfPower tm none) s = .next u ∧ u.powered = false ∧ u.inputs = s.inputs ∧
        u.store.checkGood = false ∧ Part.Same s u .counters ∧
        (∀ cls index, itemExists cls index = true →
          itemBytes u.store.inForce cls index = itemBytes s.store.inForce cls index ∨
            itemBytes u.store.inForce cls index = itemBytes s.store.working cls index) ∧
        ∃ v, exec (.powerOn tm') u = .next v ∧ v.store.checkGood = false ∧ v.store.inForce = u.store.inForce) ∧
    ∀ (k : CounterName) (second : Bool), s.CountersAgree → k.wellFormed = true →
      ∃ u, exec (.lossOfPower tm (some ⟨k, second⟩)) s = .next u ∧
        u.store.counter k = (if second then ⟨some (satAdd counterTop (s.store.counter k).value), none⟩
          else ⟨none, some (s.store.counter k).value⟩) ∧
        (∀ k', k' ≠ k → u.store.counter k' = s.store.counter k') ∧
        ∃ v, exec (.powerOn tm') u = .next v ∧
          (v.store.counter k).value =
            (if second then satAdd counterTop (s.store.counter k).value else (s.store.counter k).value) ∧
          v.store.fault = false

/-- The warm restarts (R195, R199, R200): by the reset line, after the reply to RESTART, and at the end of a store
write, whose working copy has come into force with a good check word. A reset line that goes low during the store
write leaves each item the old one or the new one (log 9) with a bad check word. STORE_WRITE begins the write once the
reply to RESUME has gone, and RESET_LINE_RELEASE lets the start interval of 2,000 ms count. What WarmRestarted says of
values that the spec leaves open is the MODEL'S CHOICE: those of a line and of the link (log 5), and the mark of a
section forced from LC before, which stays until a start notice carries it (log 35). -/
def Obligations.WarmRestartsKeepWhatTheyKeep : Prop :=
  ∀ (s : State) (tm : Time), s.between →
    (s.inputs.resetLow = false → s.control.writing = false →
      ∃ u, exec (.resetLineLow tm) s = .next u ∧ u.now = max s.now tm ∧ WarmRestarted .resetLine s u ∧
        u.inputs = { s.inputs with resetLow := true } ∧ u.store.inForce = s.store.inForce ∧
        u.store.checkGood = s.store.checkGood) ∧
    (s.inputs.resetLow = false → s.control.writing = true →
      ∃ u, exec (.resetLineLow tm) s = .next u ∧ u.now = max s.now tm ∧ WarmRestarted .resetLine s u ∧
        u.inputs = { s.inputs with resetLow := true } ∧ u.store.checkGood = false ∧
        ∀ cls index, itemExists cls index = true →
          itemBytes u.store.inForce cls index = itemBytes s.store.inForce cls index ∨
            itemBytes u.store.inForce cls index = itemBytes s.store.working cls index) ∧
    (s.inputs.resetLow = true → s.control.mode = .start → s.control.interval = none →
      ∃ u, exec (.resetLineRelease tm) s = .next u ∧ u.control.interval = some (max s.now tm + 2000) ∧
        u.control.mode = .start ∧ u.inputs = { s.inputs with resetLow := false } ∧
        ChangesOnly [.inputs, .mode] s u) ∧
    (s.control.after = some .restart → s.link.slot = none →
      ∃ u, exec (.restartReset tm) s = .next u ∧ u.now = max s.now tm ∧ WarmRestarted .restart s u ∧
        u.inputs = s.inputs ∧ u.store.inForce = s.store.inForce ∧ u.store.checkGood = s.store.checkGood) ∧
    (s.control.after = some .storeWrite → s.link.slot = none →
      ∃ u, exec (.storeWrite tm) s = .next u ∧ u.control.writing = true ∧ u.control.after = none ∧
        ChangesOnly [.after] s u) ∧
    (s.control.writing = true →
      ∃ u, exec (.storeWriteCompleted tm) s = .next u ∧ u.now = max s.now tm ∧ WarmRestarted .restart s u ∧
        u.inputs = s.inputs ∧ u.store.inForce = s.store.working ∧ u.store.checkGood = true)

/-- START_INTERVAL_END (R196). The MODE notice *started* comes first and carries the state after the event, in the
byte layout of log 15. With a good check word the part enters RUNNING; a fitted track whose relay is picked up begins
PICKING (R18); every lever's fresh-lift flag is set where its catch is down and clear where it is held lifted, a lever
in TRAVEL gets its timer and one in FAULT its mark (R45); the route hold list holds a hold for exactly the signals
that the start-up rule names, no track being effectively clear (R68); each accepting section in LB, LC or TOL is
compared with its switch, which asks for no move (R85); a bell input that is on is IGNORED and a plunger contact that
is made gives SPENT (R110, R126; on a line in through relay the MODEL'S CHOICE, log 37); the stability timer of each
offering section starts (R90); and the flasher starts in its lit half (R176). A box that was switched out stays so
with its relay on where the record in force still allows it, and else comes back OPEN with its sections from THROUGH
in TOL, assumed (R172). With a bad check word it enters HELD with configuration invalid; the levers keep the states
read from their inputs with every lock de-energized, and no other unit begins. -/
def Obligations.StartIntervalEnds : Prop :=
  (∀ (s : State) (tm e : Time), s.between → s.control.mode = .start → s.control.interval = some e →
     e ≤ max s.now tm → s.store.checkGood = true → s.control.box = .opened → s.holds = [] → s.LocksSafe →
     (∀ t ∈ Tab.numbers 16, (s.track t).filter = .occupied) →
     ∃ u, exec (.startIntervalEnd tm) s = .next u ∧ u.control.mode = .running ∧ u.control.interval = none ∧
       u.control.base = max s.now tm ∧ u.control.box = .opened ∧
       (∀ t ∈ Tab.numbers 16, s.conf.fitted t = true →
         u.track t = (if s.relayPicked t
           then { s.track t with filter := .picking, timer := some (max s.now tm + (s.conf.track t).delay) }
           else s.track t)) ∧
       (∀ n ∈ Tab.numbers 24, ((s.lever n).phase = .normal ∨ (s.lever n).phase = .reverse) →
         u.lever n = { s.lever n with fresh := !(s.leverInputs n).catchLifted, timer := .stopped }) ∧
       (∀ n ∈ Tab.numbers 24, (u.lever n).fresh = !(s.leverInputs n).catchLifted) ∧
       (∀ n ∈ Tab.numbers 24, (s.lever n).phase = .travel →
         (u.lever n).phase = .travel ∧ (u.lever n).timer = .running (max s.now tm + 10000)) ∧
       (∀ n ∈ Tab.numbers 24, (s.lever n).phase = .fault → (u.lever n).faultMark = true) ∧
       (∀ n ∈ Tab.numbers 24, (u.hold? n).isSome = true ↔
         ∃ d, s.conf.holdDef n = some d ∧ (s.standing n ≠ .normal ∨ d.holding ≠ [] ∨ d.approach ≠ none)) ∧
       (∀ n ∈ Tab.numbers 24, ∀ d, s.conf.holdDef n = some d →
         (s.standing n ≠ .normal → u.hold? n = some {
           signal := n
           stages := List.replicate d.holding.length .waiting
           state := .active
           reversal := decide (s.standing n = .reverse)
           irregular := false
           timer := none
           prior := none }) ∧
         (s.standing n = .normal → d.holding ≠ [] ∨ d.approach ≠ none → u.hold? n = some {
           signal := n
           stages := List.replicate d.holding.length .waiting
           state := .irregular
           reversal := false
           irregular := false
           timer := none
           prior := none })) ∧
       (∀ x ∈ Tab.numbers 6, (s.conf.sec x).role = .accepting → (s.sec x).acc.state ≠ .through →
         (u.sec x).acc = { (s.sec x).acc with
           disagreement := decide ((s.sec x).acc.state.position ≠ some (s.sec x).acc.switch)
           forced := false }) ∧
       s.linesBegin u (max s.now tm) ∧ u.panel.flasher = some ⟨true, max s.now tm + 500⟩ ∧
       u.panel.pulses = s.panel.pulses ∧ s.announcesStart u) ∧
  (∀ (s : State) (tm e : Time), s.between → s.control.mode = .start → s.control.interval = some e →
     e ≤ max s.now tm → s.store.checkGood = true → s.control.box = .switchedOut → s.control.relayOn = false →
     (s.conf.switchOut.may = true → s.throughSections = s.pairAccepting →
       ∃ u, exec (.startIntervalEnd tm) s = .next u ∧ u.control.mode = .running ∧ u.control.box = .switchedOut ∧
         u.control.relayOn = true ∧ u.set = s.set ∧ s.linesBegin u (max s.now tm) ∧ s.announcesStart u ∧
         ∀ x ∈ s.throughSections, (u.sec x).acc = { (s.sec x).acc with forced := false }) ∧
     (s.conf.switchOut.may = false ∨ s.throughSections ≠ s.pairAccepting →
       ∃ u, exec (.startIntervalEnd tm) s = .next u ∧ u.control.mode = .running ∧ u.control.box = .opened ∧
         u.control.relayOn = false ∧ u.set = .a ∧ s.linesBegin u (max s.now tm) ∧ s.announcesStart u ∧
         ∀ x ∈ s.throughSections, (u.sec x).acc.state = .tol ∧ (u.sec x).acc.assumed = true ∧
           (u.sec x).acc.seen = false ∧ (u.sec x).acc.proof = false)) ∧
  ∀ (s : State) (tm e : Time), s.between → s.control.mode = .start → s.control.interval = some e →
    e ≤ max s.now tm → s.store.checkGood = false → s.LocksSafe →
    ∃ u, exec (.startIntervalEnd tm) s = .next u ∧ u.control.mode = .held .invalid ∧ u.control.interval = none ∧
      (∀ n ∈ Tab.numbers 24, (u.lever n).solenoid = false ∧ (u.lever n).phase = (s.lever n).phase) ∧
      s.announcesStart u ∧ ChangesOnly [.levers, .sounder, .mode] s u

/-- CLOCK_SECOND and SET_CLOCK (R201): the clock advances one second, from 86,399 to 0 of the next day and from day
65,535 to day 0; SET_CLOCK takes the given values, clears the unset flag, and counts the next second 1,000 ms later.
-/
def Obligations.ClockCountsAndIsSet : Prop :=
  ∀ (s : State) (tm : Time), s.between →
    (s.control.clock.nextAt ≤ max s.now tm → s.control.clock.second ≤ 86399 → s.control.clock.day ≤ 65535 →
      ∃ u, exec (.clockSecond tm) s = .next u ∧
        u.control.clock = { s.control.clock with
          second := (s.control.clock.second + 1) % 86400
          day := (s.control.clock.day + (s.control.clock.second + 1) / 86400) % 65536
          nextAt := s.control.clock.nextAt + 1000 } ∧
        ChangesOnly [.clock] s u) ∧
    ∀ (tag : Byte) (day : BitVec 16) (second : BitVec 32), s.ready →
      (second.toNat ≤ 86399 →
        ∃ u, exec (.setClock tm tag day second) s = .next u ∧ u.replies 0x9C tag .ok [] ∧
          u.control.clock = ⟨day.toNat, second.toNat, false, max s.now tm + 1000⟩ ∧
          s.announces u [(.modeClockSet, 0)] ∧ ChangesOnly [.clock, .slot] s u) ∧
      (86399 < second.toNat →
        ∃ u, exec (.setClock tm tag day second) s = .next u ∧ s.onlyReplies u 0x9C tag .badRequest [])

/-- HOLD, RESUME and RESTART (R43, R67, R197, R199, R200). HOLD takes the part from RUNNING to HELD with cause hold:
the working copy is loaded, every lock is de-energized, no time release is in progress, and a MODE notice *held* is
sent, then the withdrawn releases and then the cancelled time releases, as R197 lists them (R192); in HELD it is
refused. That *resumed* stands before the notices of the levers is the MODEL'S CHOICE (log 13). RESUME without
writes returns to RUNNING when the working copy passes, with writes it leaves the store write to follow the reply, and
a working copy that fails is named by item and check. RESTART leaves the reset to follow the reply. The bytes of
CONDITIONS are log 15 and log 18. -/
def Obligations.ModeRequests : Prop :=
  ∀ (s : State) (tm : Time) (tag : Byte), s.ready → s.inputs.key = true →
    (s.control.mode = .running → s.LocksSafe →
      ∃ u, exec (.hold tm tag) s = .next u ∧ u.replies 0xA0 tag .ok [] ∧ u.control.mode = .held .hold ∧
        u.store.working = s.store.inForce ∧ u.store.written = false ∧ u.store.inForce = s.store.inForce ∧
        u.store.checkGood = s.store.checkGood ∧
        (∀ n ∈ Tab.numbers 24, (u.lever n).solenoid = false) ∧ (∀ h ∈ u.holds, h.releasing = false) ∧
        s.announcesFirst u [(.modeHeld, 0)] ∧
        (∀ n h, isLever n = true → (s.lever n).phase.isFree = true → s.othersSeated n → s.holds = [h] →
          h.releasing = true → h.signal ≠ n →
          s.announces u [(.modeHeld, 0), (.leverWithdrawn, n), (.holdCancelled, h.signal)]) ∧
        ChangesOnly [.mode, .configuration, .levers, .holds, .choices, .slot] s u) ∧
    (s.control.mode ≠ .running →
      ∃ u, exec (.hold tm tag) s = .next u ∧ s.onlyReplies u 0xA0 tag .refusedState []) ∧
    (s.control.mode = .held .hold → s.store.written = false → s.store.working.validate = none →
      ∃ u, exec (.resume tm tag) s = .next u ∧ u.replies 0xA1 tag .ok [] ∧ u.control.mode = .running ∧
        s.announcesFirst u [(.modeResumed, 0)] ∧
        ChangesOnly [.mode, .levers, .holds, .choices, .slot] s u) ∧
    (∀ cause, s.control.mode = .held cause → s.store.written = true → s.store.working.validate = none →
      ∃ u, exec (.resume tm tag) s = .next u ∧ u.replies 0xA1 tag .ok [] ∧ u.control.after = some .storeWrite ∧
        s.announces u [] ∧ ChangesOnly [.after, .slot] s u) ∧
    (∀ f, s.store.working.validate = some f → ∀ cause, s.control.mode = .held cause → s.store.written = true →
      ∃ u, exec (.resume tm tag) s = .next u ∧
        s.onlyReplies u 0xA1 tag .conditions (b1 1 ++ b1 6 ++ b1 f.index ++ b1 f.cls ++ b1 f.check)) ∧
    (s.control.mode = .running ∨ s.control.mode = .held .invalid ∧ s.store.written = false →
      ∃ u, exec (.resume tm tag) s = .next u ∧ s.onlyReplies u 0xA1 tag .refusedState []) ∧
    ∃ u, exec (.restart tm tag) s = .next u ∧ u.replies 0xA5 tag .ok [] ∧ u.control.after = some .restart ∧
      s.announces u [] ∧ ChangesOnly [.after, .slot] s u

/-- What RESUME finds wrong with a working copy (R199, Table 12.2: R2, R20, R40, R47, R71, R97, R163, R173). A
configuration passes when no item of Table 12.1 breaks a check; else validation names the first item, in class order
and then in index order, that breaks one, and the first check in the table's order that this item breaks. At which
item a check is made that relates two is the model's reading (DEDUCED log 18): check 6 at the entry and at the
section. -/
def Obligations.ValidationNamesTheFirstFailure : Prop :=
  ∀ c : Conf,
    (c.validate = none ↔ ∀ cls i k, itemExists cls i = true → ¬ Breaks c cls i k) ∧
    ∀ cls i k, c.validate = some ⟨cls, i, k⟩ ↔
      itemExists cls i = true ∧ Breaks c cls i k ∧ (∀ j, j < k → ¬ Breaks c cls i j) ∧
      ∀ cls' i' j, itemExists cls' i' = true → (cls' < cls ∨ cls' = cls ∧ i' < i) → ¬ Breaks c cls' i' j

/-- WRITE_CONFIG (R198): refused in RUNNING whatever its body; in HELD an item that passes its ranges and steps
replaces that item of the working copy and sets the written flag, and any other body changes nothing. -/
def Obligations.WriteConfigWritesTheWorkingCopy : Prop :=
  ∀ (s : State) (tm : Time) (tag : Byte) (body : List Byte), s.ready → s.inputs.key = true →
    (s.control.mode = .running →
      ∃ u, exec (.writeConfig tm tag body) s = .next u ∧ s.onlyReplies u 0xA2 tag .refusedState []) ∧
    (∀ c, writeBody s.store.working body = some c → ∀ cause, s.control.mode = .held cause →
      ∃ u, exec (.writeConfig tm tag body) s = .next u ∧ u.replies 0xA2 tag .ok [] ∧ u.store.working = c ∧
        u.store.written = true ∧ u.store.inForce = s.store.inForce ∧ u.store.checkGood = s.store.checkGood ∧
        s.announces u [] ∧ ChangesOnly [.configuration, .slot] s u) ∧
    (∀ cause, s.control.mode = .held cause → writeBody s.store.working body = none →
      ∃ u, exec (.writeConfig tm tag body) s = .next u ∧ s.onlyReplies u 0xA2 tag .badRequest [])

/-! ### Track circuits -/

/-- A drop in CLEAR begins an occupation (R4, R14): the track alone becomes OCCUPIED, and on a marked track no unit
takes an event. That the notices of other units come after is the MODEL'S CHOICE (log 13). -/
def Obligations.DropInClearBeginsAnOccupation : Prop :=
  ∀ (s : State) (tm : Time) (t : Nat), s.working → isTrack t = true → s.conf.fitted t = true →
    s.relayPicked t = true → (s.track t).filter = .clear →
    ∃ u, exec (.trackRelayDrop tm t) s = .next u ∧
      u.inputs = { s.inputs with relays := s.inputs.relays.put t false } ∧
      u.tracks = s.tracks.put t { s.track t with filter := .occupied } ∧
      ((s.track t).marked = true → u.holds = s.holds ∧ u.sections = s.sections ∧ u.levers = s.levers) ∧
      ((s.conf.track t).kind = .siding → u.register = s.register) ∧
      ((s.track t).marked = false → s.announcesFirst u [(.trackOccupied, t)]) ∧
      ChangesOnly [.inputs, .tracks, .holds, .sections, .register, .alerts, .sounder, .levers, .choices] s u

/-- A drop in PICKING is a flicker (R8, R9): the track returns to OCCUPIED with its timer stopped. OFF counts nothing;
EACH counts to 255; LIMIT counts to the limit, where the failed mark is set, counted and alerted. That the notices of
other units come after is the MODEL'S CHOICE (log 13). -/
def Obligations.FlickersAreCountedByMode : Prop :=
  ∀ (s : State) (tm : Time) (t : Nat), s.working → isTrack t = true → s.conf.fitted t = true →
    s.relayPicked t = true → (s.track t).filter = .picking →
    ∃ u, exec (.trackRelayDrop tm t) s = .next u ∧
      u.inputs = { s.inputs with relays := s.inputs.relays.put t false } ∧
      ((s.conf.track t).flicker = .off →
        u.tracks = s.tracks.put t { s.track t with filter := .occupied, timer := none } ∧ s.announces u [] ∧
        ChangesOnly [.inputs, .tracks] s u) ∧
      ((s.conf.track t).flicker = .each →
        u.tracks = s.tracks.put t
          { s.track t with filter := .occupied, timer := none, flickers := satAdd 255 (s.track t).flickers } ∧
        s.announces u [(.trackFlicker, t)] ∧ ChangesOnly [.inputs, .tracks] s u) ∧
      (∀ k, (s.conf.track t).flicker = .limit k → (s.track t).flickers + 1 < 2 ^ k →
        u.tracks = s.tracks.put t
          { s.track t with filter := .occupied, timer := none, flickers := (s.track t).flickers + 1 } ∧
        s.announces u [] ∧ ChangesOnly [.inputs, .tracks] s u) ∧
      (∀ k, (s.conf.track t).flicker = .limit k → (s.track t).flickers + 1 = 2 ^ k →
        u.tracks = s.tracks.put t
          { s.track t with
            filter := .occupied
            timer := none
            flickers := (s.track t).flickers + 1
            failed := true } ∧
        u.store = (if (s.track t).failed then s.store
          else s.store.putCounter (.mark t) (s.store.counter (.mark t)).increment) ∧
        s.announcesFirst u [(.trackFailed, t)] ∧
        (s.panel.alerts.length < 16 → ∃ a ∈ u.panel.alerts, a.kind = .trackFailed ∧ a.object = t ∧ a.acked = false) ∧
        ChangesOnly [.inputs, .tracks, .counters, .alerts, .sounder] s u) ∧
      (∀ k, (s.conf.track t).flicker = .limit k → 2 ^ k ≤ (s.track t).flickers →
        u.tracks = s.tracks.put t { s.track t with filter := .occupied, timer := none } ∧ s.announces u [] ∧
        ChangesOnly [.inputs, .tracks] s u)

/-- A pick-up in OCCUPIED starts the pick-up timer with the track's delay (R5); when it expires the track is CLEAR
with no flickers (R6), and on a marked track no unit takes an event. That the notices of other units come after is the
MODEL'S CHOICE (log 13). In the start interval, in HELD with configuration invalid and on a NOT_FITTED track in every
mode, a change of the relay moves no filter state, counts no flicker and sends no notice (R7, R17, R18). -/
def Obligations.PickUpTakesTheDelay : Prop :=
  (∀ (s : State) (tm : Time) (t : Nat), s.between → isTrack t = true →
    s.control.mode = .start ∨ s.control.mode = .held .invalid ∨ s.conf.fitted t = false →
    (s.relayPicked t = true →
      ∃ u, exec (.trackRelayDrop tm t) s = .next u ∧
        u.inputs = { s.inputs with relays := s.inputs.relays.put t false } ∧ u.link.outbox = s.link.outbox ∧
        u.link.lost = s.link.lost ∧ ChangesOnly [.inputs] s u) ∧
    (s.relayPicked t = false →
      ∃ u, exec (.trackRelayPickUp tm t) s = .next u ∧
        u.inputs = { s.inputs with relays := s.inputs.relays.put t true } ∧ u.link.outbox = s.link.outbox ∧
        u.link.lost = s.link.lost ∧ ChangesOnly [.inputs] s u)) ∧
  ∀ (s : State) (tm : Time) (t : Nat), s.working → isTrack t = true → s.conf.fitted t = true →
    (s.relayPicked t = false → (s.track t).filter = .occupied →
      ∃ u, exec (.trackRelayPickUp tm t) s = .next u ∧
        u.inputs = { s.inputs with relays := s.inputs.relays.put t true } ∧
        u.tracks = s.tracks.put t
          { s.track t with filter := .picking, timer := some (max s.now tm + (s.conf.track t).delay) } ∧
        s.announces u [] ∧ ChangesOnly [.inputs, .tracks] s u) ∧
    (∀ e, (s.track t).filter = .picking → (s.track t).timer = some e → e ≤ max s.now tm →
      ∃ u, exec (.pickUpTimerExpiry tm t) s = .next u ∧
        u.tracks = s.tracks.put t { s.track t with filter := .clear, timer := none, flickers := 0 } ∧
        ((s.track t).marked = true → ChangesOnly [.tracks] s u) ∧
        ((s.track t).marked = false → s.announcesFirst u [(.trackClear, t)]) ∧
        ChangesOnly [.tracks, .holds, .sections, .register, .levers, .choices] s u)

/-- TRACK_RESTORE (R12): a CLEAR track loses both marks and its count; any other track is refused with CONDITIONS.
CLEAR_STICKY (R39): a named lever that is not in FAULT loses its mark, one in FAULT is refused with CONDITIONS, and
for all levers the mark goes from every lever that is not in FAULT. The bytes of CONDITIONS are log 15 and log 19.
That the notices of other units come after is the MODEL'S CHOICE (log 13). -/
def Obligations.TechnicianClearsMarks : Prop :=
  (∀ (s : State) (tm : Time) (tag t : Byte), s.ready → s.inputs.key = true → isTrack t.toNat = true →
     ((s.track t.toNat).filter = .clear →
       ∃ u, exec (.trackRestore tm tag t) s = .next u ∧ u.replies 0xA3 tag .ok [] ∧
         u.tracks = s.tracks.put t.toNat { s.track t.toNat with failed := false, suspect := false, flickers := 0 } ∧
         s.announcesFirst u [(.trackRestored, t.toNat)] ∧
         ChangesOnly [.tracks, .slot, .holds, .sections, .register, .levers, .choices] s u) ∧
     ((s.track t.toNat).filter ≠ .clear →
       ∃ u, exec (.trackRestore tm tag t) s = .next u ∧ s.onlyReplies u 0xA3 tag .conditions [1, 2, t])) ∧
  ∀ (s : State) (tm : Time) (tag n : Byte), s.ready → s.inputs.key = true →
    (isLever n.toNat = true → (s.lever n.toNat).phase ≠ .fault →
      ∃ u, exec (.clearSticky tm tag n) s = .next u ∧ u.replies 0xA4 tag .ok [] ∧
        u.levers = s.levers.put n.toNat { s.lever n.toNat with faultMark := false } ∧
        ChangesOnly [.levers, .slot] s u) ∧
    (isLever n.toNat = true → (s.lever n.toNat).phase = .fault →
      ∃ u, exec (.clearSticky tm tag n) s = .next u ∧ s.onlyReplies u 0xA4 tag .conditions [1, 1, n]) ∧
    (n = 0 →
      ∃ u, exec (.clearSticky tm tag n) s = .next u ∧ u.replies 0xA4 tag .ok [] ∧
        (∀ m ∈ Tab.numbers 24, u.lever m = { s.lever m with
          faultMark := (s.lever m).faultMark && decide ((s.lever m).phase = .fault) }) ∧
        ChangesOnly [.levers, .slot] s u)

/-- HEAD_GRACE_EXPIRY (R159): the record is lost, its grace is over, TRACK_SUSPECT is raised for its head, and every
effectively clear neighbour of the head takes the suspect mark and counts it; no other track changes. The RECORD notice
*lost* comes after those marks and carries the head and the neighbours marked. Which other alerts the marks raise is
R82, so the raise is given whole where no accepting section is at LC. The order of the neighbours is log 13 and the
bytes of the notice, with the trail behind, are log 15. -/
def Obligations.LostRecordMarksTheNeighbours : Prop :=
  ∀ (s : State) (tm : Time) (r h e : Nat), s.between → isRecord r = true → (s.record r).head = some h →
    (s.record r).grace = some e → e ≤ max s.now tm →
    ∃ u, exec (.headGraceExpiry tm r) s = .next u ∧
      u.register = { s.register with
        records := s.register.records.put r { s.record r with grace := none, lost := true } } ∧
      (∀ t ∈ Tab.numbers 16,
        u.track t =
          (if (s.conf.track h).neighbours.contains t && s.clear t && s.conf.fitted t
            then { s.track t with suspect := true } else s.track t) ∧
        u.store.counter (.mark t) =
          (if (s.conf.track h).neighbours.contains t && s.clear t && s.conf.fitted t
            then (s.store.counter (.mark t)).increment else s.store.counter (.mark t))) ∧
      (s.panel.alerts.length ≤ 9 → u.hasAlert .trackSuspect h 14) ∧
      (s.control.mode ≠ .start → s.AlertsKept → s.SounderKept → s.TracksKept →
        (∀ x ∈ Tab.numbers 6, (s.conf.sec x).role = .accepting → (s.sec x).acc.state ≠ .lc) →
        ∃ ns, s.raises u (max s.now tm) (s.newAlert .trackSuspect h 14) ns ∧
          ∀ marked, marked = (s.conf.track h).neighbours.filter (fun t => s.clear t) → marked.Nodup → s.holds = [] →
            s.announcesFirst u (ns ++ marked.map (fun t => (.trackSuspect, t)) ++ [(.recLost, r)]) ∧
            (s.sends .record = true → s.link.outbox.length + ns.length + marked.length + 1 ≤ 32 →
              ∃ k ∈ u.link.outbox, k.event = .recLost ∧ k.object = r ∧ ∃ front,
                k.fields = front ++ (b1 h ++ bList b1 marked ++ bList b1 (s.record r).trail))) ∧
      ChangesOnly [.register, .tracks, .counters, .holds, .sections, .alerts, .sounder, .levers, .choices] s u

/-! ### Levers -/

/-- The catch of a lever lifts (R24, R27, R28, R30). With all five conditions of R27 holding, no other lever being up,
the lever is released under the entry of the set in force and of its direction. With a condition failing it stands in
its CATCH state, its lock stays as it was, and the held notice carries the first failing condition with its items, in
the byte layout of log 15. A lift in TRAVEL or in FAULT changes nothing else (R36, R38). -/
def Obligations.CatchLiftReleasesOrHolds : Prop :=
  (∀ (s : State) (tm : Time) (n : Nat) (dir : Direction), s.running → isLever n = true →
     (s.leverInputs n).catchLifted = false →
     ((s.lever n).phase = .normal ∧ dir = .toReverse ∨ (s.lever n).phase = .reverse ∧ dir = .toNormal) →
     s.satisfied (s.conf.entry n s.set dir) = true → s.conf.leverKind n ≠ .spare →
     n ∉ namedBy (s.conf.entry n s.set dir) → s.holdNaming n = none → s.holder n = none → (s.lever n).fresh = true →
     s.othersSeated n →
     ∃ u, exec (.catchLift tm n) s = .next u ∧
       u.inputs = { s.inputs with
         levers := s.inputs.levers.put n { s.leverInputs n with catchLifted := true } } ∧
       u.levers = s.levers.put n { s.lever n with
         phase := if dir = .toReverse then .normalFree else .reverseFree
         solenoid := true
         grant := some ⟨dir, s.set, namedBy (s.conf.entry n s.set dir)⟩ } ∧
       s.announces u [(.leverReleased, n)] ∧ ChangesOnly [.inputs, .levers] s u) ∧
  (∀ (s : State) (tm : Time) (n k : Nat) (dir : Direction) (items : List Byte), s.started → s.HoldsKept →
     isLever n = true → (s.leverInputs n).catchLifted = false →
     ((s.lever n).phase = .normal ∧ dir = .toReverse ∨ (s.lever n).phase = .reverse ∧ dir = .toNormal) →
     s.refusesRelease n dir k items → (∀ j < k, ∀ l, ¬ s.refusesRelease n dir j l) →
     ∃ u, exec (.catchLift tm n) s = .next u ∧
       u.inputs = { s.inputs with
         levers := s.inputs.levers.put n { s.leverInputs n with catchLifted := true } } ∧
       u.levers = s.levers.put n { s.lever n with
         phase := if dir = .toReverse then .normalCatch else .reverseCatch } ∧
       (s.sends .lever = true → s.link.outbox.length < 32 →
         u.link.outbox = s.link.outbox ++
           [⟨.leverHeld, n, u.timebase u.now, u.stamp,
             b1 (u.lever n).phase.ord ++ (u.leverInputs n).bytes ++ b1 k ++ items⟩]) ∧
       ChangesOnly [.inputs, .levers] s u) ∧
  ∀ (s : State) (tm : Time) (n : Nat), s.started → isLever n = true → (s.leverInputs n).catchLifted = false →
    (s.lever n).phase = .travel ∨ (s.lever n).phase = .fault →
    ∃ u, exec (.catchLift tm n) s = .next u ∧
      u.inputs = { s.inputs with
        levers := s.inputs.levers.put n { s.leverInputs n with catchLifted := true } } ∧
      s.announces u [] ∧ ChangesOnly [.inputs] s u

/-- The catch lowers (R24): a lever in a CATCH state is seated with its fresh-lift flag set, and a released lever
gives its release up. That the notices of other units come after is the MODEL'S CHOICE (log 13). -/
def Obligations.CatchLowerSeatsOrGivesUp : Prop :=
  ∀ (s : State) (tm : Time) (n : Nat), s.started → isLever n = true → (s.leverInputs n).catchLifted = true →
    ((s.lever n).phase.isCatch = true →
      ∃ u, exec (.catchLower tm n) s = .next u ∧
        u.levers = s.levers.put n { s.lever n with phase := (s.lever n).phase.seated, fresh := true } ∧
        u.inputs = { s.inputs with
          levers := s.inputs.levers.put n { s.leverInputs n with catchLifted := false } } ∧
        s.announces u [] ∧ ChangesOnly [.inputs, .levers] s u) ∧
    ((s.lever n).phase.isFree = true →
      ∃ u, exec (.catchLower tm n) s = .next u ∧
        u.lever n = { s.lever n with
          phase := (s.lever n).phase.seated
          solenoid := false
          grant := none
          origin := .none
          timer := .stopped
          fresh := true } ∧
        (∀ m ∈ Tab.numbers 24, m ≠ n → (s.lever m).phase.isCatch = false → (s.lever m).phase.isFree = false →
          u.lever m = s.lever m) ∧
        u.inputs = { s.inputs with
          levers := s.inputs.levers.put n { s.leverInputs n with catchLifted := false } } ∧
        s.announcesFirst u [(.leverGivenUp, n)] ∧ ChangesOnly [.inputs, .levers, .holds, .choices] s u)

/-- A detector opens in a FREE state (R34): travel begins, with the lock and the grant record kept and the timer
running for 10,000 ms; in TRAVEL with the catch lifted it changes nothing. -/
def Obligations.DetectorOpenBeginsTravel : Prop :=
  ∀ (s : State) (tm : Time) (n : Nat) (side : Side), s.started → isLever n = true →
    s.leverInputs n ≠ (s.leverInputs n).setSide side false →
    ((s.lever n).phase.isFree = true →
      ∃ u, exec (.detectorOpen tm n side) s = .next u ∧
        u.levers = s.levers.put n { s.lever n with
          phase := .travel
          origin := if (s.lever n).phase = .normalFree then .normal else .reverse
          timer := .running (max s.now tm + 10000) } ∧
        s.announces u [(.leverLeft, n)] ∧ ChangesOnly [.inputs, .levers] s u) ∧
    ((s.lever n).phase = .travel → (s.leverInputs n).catchLifted = true →
      ∃ u, exec (.detectorOpen tm n side) s = .next u ∧ s.announces u [] ∧ ChangesOnly [.inputs] s u)

/-- Faults of a lever (R25, R26). A detector that opens at a position which the lock holds is a forced movement: the
lever is in FAULT with its mark, the forced counter counts and LEVER_FORCED is raised. Both detectors made take it to
FAULT from any other state, and neither the forced counter nor the alert list changes. That the notices of other units
come after is the MODEL'S CHOICE (log 13). In the start interval none of this holds (R44): at every change of its
catch or of a detector a lever takes the state that its inputs give, with no release, no forced movement and no
notice. -/
def Obligations.DetectorsFaultTheLever : Prop :=
  (∀ (s : State) (tm : Time) (n : Nat) (c : Instr) (i : LeverInputs), s.between → s.control.mode = .start →
    isLever n = true → LeverChange tm n (s.leverInputs n) c i → s.leverInputs n ≠ i →
    ∃ u, exec c s = .next u ∧ u.inputs = { s.inputs with levers := s.inputs.levers.put n i } ∧
      u.levers = s.levers.put n { s.lever n with phase := i.derives } ∧
      u.link.outbox = s.link.outbox ∧ u.link.lost = s.link.lost ∧ ChangesOnly [.inputs, .levers] s u) ∧
  ∀ (s : State) (tm : Time) (n : Nat) (side : Side), s.started → isLever n = true →
    (s.AlertsKept → s.leverInputs n ≠ (s.leverInputs n).setSide side false →
      ((s.lever n).phase.isCatch = true ∨ (s.lever n).phase = .normal ∨ (s.lever n).phase = .reverse) →
      ∃ u, exec (.detectorOpen tm n side) s = .next u ∧
        u.lever n = { s.lever n with
          phase := .fault
          solenoid := false
          grant := none
          origin := .none
          timer := .stopped
          faultMark := true } ∧
        (∀ m ∈ Tab.numbers 24, m ≠ n → (s.lever m).phase.isCatch = false → (s.lever m).phase.isFree = false →
          u.lever m = s.lever m) ∧
        u.store = s.store.putCounter (.forced n) (s.store.counter (.forced n)).increment ∧
        (∃ a ∈ u.panel.alerts, a.kind = .leverForced ∧ a.object = n ∧ a.acked = false ∧ a.priority = 15) ∧
        ChangesOnly [.inputs, .levers, .holds, .choices, .counters, .alerts, .sounder] s u) ∧
    ((s.lever n).phase ≠ .fault → s.leverInputs n ≠ (s.leverInputs n).setSide side true →
      ((s.leverInputs n).setSide side true).normalMade = true →
      ((s.leverInputs n).setSide side true).reverseMade = true →
      ∃ u, exec (.detectorMake tm n side) s = .next u ∧
        u.lever n = { s.lever n with
          phase := .fault
          solenoid := false
          grant := none
          origin := .none
          timer := .stopped
          faultMark := true } ∧
        (∀ m ∈ Tab.numbers 24, m ≠ n → (s.lever m).phase.isCatch = false → (s.lever m).phase.isFree = false →
          u.lever m = s.lever m) ∧
        s.announcesFirst u [(.leverBothDetectors, n)] ∧ ChangesOnly [.inputs, .levers, .holds, .choices] s u)

/-- Travel ends when one detector is made, the other open and the catch down, whichever of the three comes last (R35,
R36): the lever arrives, returns or is found by its origin, with its lock off; the catch lowering sets the fresh-lift
flag. An arrival at REVERSE creates the signal's hold (R50), by which a held lever in TRAVEL loses its lock current
(R33), and consumes the release of its section (R88). A lever in FAULT is found (R38). That the notices of other units
come after is the MODEL'S CHOICE (log 13). -/
def Obligations.TravelEndsAtAPosition : Prop :=
  ∀ (s : State) (tm : Time) (n : Nat) (side : Side) (c : Instr), s.started → isLever n = true → s.seats tm n side c →
    ((s.lever n).phase = .travel ∨ (s.lever n).phase = .fault) →
    ∃ u, exec c s = .next u ∧
      u.lever n = { s.lever n with
        phase := if side = .normal then .normal else .reverse
        solenoid := false
        grant := none
        origin := .none
        timer := .stopped
        fresh := (s.lever n).fresh || decide (c = .catchLower tm n) } ∧
      (∀ m ∈ Tab.numbers 24, m ≠ n → s.unraised m → u.lever m = s.lever m ∨
        (s.lever m).phase = .travel ∧ u.lever m = { s.lever m with solenoid := false }) ∧
      ((s.lever n).phase = .fault → s.announcesFirst u [(.leverFound, n)] ∧ u.sections = s.sections) ∧
      ((s.lever n).phase = .travel →
        s.announcesFirst u [(match (s.lever n).origin, side with
          | .none, _ => .leverFound
          | .normal, .reverse => .leverArrived
          | .normal, .normal => .leverReturned
          | .reverse, .normal => .leverArrived
          | .reverse, .reverse => .leverReturned, n)] ∧
        ((s.lever n).origin = .normal → side = .reverse → s.invalid = false →
          (∀ d, s.conf.holdDef n = some d → s.hold? n = none →
            u.hold? n = some {
              signal := n
              stages := d.holding.map fun _ => .waiting
              state := .active
              reversal := true } ∧
            ∀ m ∈ d.held, (s.lever m).phase = .travel → (u.lever m).solenoid = false) ∧
          (∀ x ∈ Tab.numbers 6, (s.conf.sec x).role = .offering → (s.conf.sec x).starting = n →
            (u.sec x).off.release = .consumed)) ∧
        (¬ ((s.lever n).origin = .normal ∧ side = .reverse) → u.sections = s.sections)) ∧
      ChangesOnly [.inputs, .levers, .holds, .sections, .choices] s u

/-- The travel timer expires (R37): it is marked expired, with the lever otherwise unchanged. The countdown of a time
release expires and its ready window of 30,000 ms begins (R61); the window lapses and the hold is back in its prior
state (R63), but that one back in HOLDING is released where the tests of R57 or R58 pass, and goes only then; a
withdrawal may stand its signal at REVERSE anew and set its flag (R52). That the notices of other units come after is
the MODEL'S CHOICE (log 13). -/
def Obligations.TravelAndReleaseTimersExpire : Prop :=
  (∀ (s : State) (tm : Time) (n : Nat), s.started → isLever n = true → (s.lever n).phase = .travel →
     (∀ e, (s.lever n).timer = .running e → e ≤ max s.now tm →
       ∃ u, exec (.travelTimerExpiry tm n) s = .next u ∧
         u.levers = s.levers.put n { s.lever n with timer := .expired } ∧ s.announcesFirst u [(.leverOverdue, n)] ∧
         (s.panel.alerts.length < 16 →
           ∃ a ∈ u.panel.alerts, a.kind = .travelOverdue ∧ a.object = n ∧ a.acked = false) ∧
         ChangesOnly [.levers, .alerts, .sounder] s u) ∧
     ((s.lever n).timer = .expired →
       ∃ u, exec (.travelTimerExpiry tm n) s = .next u ∧ s.announces u [] ∧ ChangesOnly [] s u)) ∧
  ∀ (s : State) (tm e : Time) (n : Nat) (h : Hold), s.started → s.hold? n = some h → h.timer = some e →
    e ≤ max s.now tm →
    (h.state = .timing →
      ∃ u, exec (.timeReleaseTimerExpiry tm n) s = .next u ∧
        u.hold? n = some { h with state := .ready, timer := some (max s.now tm + 30000) } ∧
        (∀ i, u.sourceTrue i .timeReleaseReady n = true) ∧ (∀ m, m ≠ n → u.hold? m = s.hold? m) ∧
        s.announces u [(.holdReady, n)] ∧ ChangesOnly [.holds] s u) ∧
    (h.state = .ready →
      ∃ u, exec (.readyWindowLapse tm n) s = .next u ∧
        (u.hold? n = none ∨ ∃ b, u.hold? n = some { h.backToPrior with reversal := b }) ∧
        (u.hold? n = none → h.prior = some .holding ∧ s.releasable h) ∧
        (h.prior = some .holding → s.standing n = .normal → s.releasable h → u.hold? n = none) ∧
        (s.sends .hold = true → s.link.outbox.length + 3 ≤ 32 →
          ∃ k ∈ u.link.outbox, k.event = .holdLapsed ∧ k.object = n) ∧
        (s.panel.alerts.length < 16 →
          ∃ a ∈ u.panel.alerts, a.kind = .releaseLapsed ∧ a.object = n ∧ a.acked = false) ∧
        ChangesOnly [.holds, .levers, .choices, .alerts, .sounder] s u)

/-- The examination that ends an event (R27, R29, R30, R32). It reaches only levers in CATCH and FREE states, which stay
at their position, and changes nothing of them but the state, the lock and the grant record. After it no lever in a
CATCH state could be granted and no lever in a FREE state should be withdrawn, where no entry holds an LNC term or names
its own lever and each grant record is that of the entry read now. So every event of R29 leaves it: in that event a
lever in a FREE state that fails one of the conditions 1 to 4 is withdrawn, its lock off and its grant record cleared, a
waiting lever that fails none of the five is granted under the entry of the set in force, and every other stays as it
was. A track that drops under a released lever whose entry asks for it clear has the notice *withdrawn* carry condition
2 with that term, in the byte layout of log 15. -/
def Obligations.ExaminationSettlesRaisedCatches : Prop :=
  (∀ s : State, Outside [.levers, .holds, .choices, .emitted] s s.settle ∧
     ∀ n ∈ Tab.numbers 24,
       ((s.lever n).phase.isCatch = false → (s.lever n).phase.isFree = false → s.settle.lever n = s.lever n) ∧
       ((s.lever n).phase.isCatch = true ∨ (s.lever n).phase.isFree = true →
         ∃ p v g, s.settle.lever n = { s.lever n with phase := p, solenoid := v, grant := g } ∧
           (p = (s.lever n).phase.caught ∨ p = (s.lever n).phase.caught.freed))) ∧
  (∀ s : State,
    (∀ n ∈ Tab.numbers 24, ∀ dir, n ∉ namedBy (s.conf.entry n s.set dir) ∧
      ∀ t ∈ s.conf.entry n s.set dir, ∀ a b, t ≠ .lnc a b) →
    (∀ n ∈ Tab.numbers 24, (s.lever n).phase.isFree = true → ∃ g, (s.lever n).grant = some g ∧
      g.named = namedBy (s.conf.entry n s.set (s.lever n).phase.direction)) →
    s.settle.failing = [] ∧ s.settle.grantable = []) ∧
  (∀ (s : State) (tm : Time) (c : Instr), s.started → s.LocksSafe → s.PlainLocking → s.Examined →
    s.examiningEvent tm c →
    ∃ u, exec c s = .next u ∧ u.Examined ∧
      ∀ n ∈ Tab.numbers 24, ¬ MovesLever tm n c → (s.lever n).phase.isCatch = true ∨ (s.lever n).phase.isFree = true →
        ((∃ k ≤ 4, ∃ items, u.refusesRelease n (s.lever n).phase.direction k items) ∨ (s.lever n).phase.isCatch = true ∧
            (s.lever n).fresh = false →
          u.lever n = { s.lever n with phase := (s.lever n).phase.caught, solenoid := false, grant := none }) ∧
        ((∀ k ≤ 4, ∀ items, ¬ u.refusesRelease n (s.lever n).phase.direction k items) →
          (s.lever n).phase.isFree = true ∨ (s.lever n).fresh = true →
          u.lever n = { s.lever n with
            phase := (s.lever n).phase.caught.freed
            solenoid := true
            grant := some ⟨(s.lever n).phase.direction, u.set,
              namedBy (s.conf.entry n u.set (s.lever n).phase.direction)⟩ })) ∧
  ∀ (s : State) (tm : Time) (t n : Nat), s.working → isTrack t = true → s.conf.fitted t = true →
    s.relayPicked t = true → s.clear t = true → isLever n = true → (s.lever n).phase.isFree = true →
    s.othersSeated n → s.LocksSafe → s.PlainLocking → s.Examined →
    Term.tc t ∈ s.conf.entry n s.set (s.lever n).phase.direction → s.holds = [] →
    ∃ u, exec (.trackRelayDrop tm t) s = .next u ∧
      u.lever n = { s.lever n with phase := (s.lever n).phase.caught, solenoid := false, grant := none } ∧
      (s.sends .lever = true → s.link.outbox.length + 29 ≤ 32 →
        ∃ k ∈ u.link.outbox, k.event = .leverWithdrawn ∧ k.object = n ∧ ∃ front i,
          (s.conf.entry n s.set (s.lever n).phase.direction)[i]? = some (.tc t) ∧
          Term.tc t ∉ (s.conf.entry n s.set (s.lever n).phase.direction).take i ∧
          k.fields = front ++ (b1 2 ++ b1 (i + 1) ++ b1 1 ++ bTerm (.tc t)))

/-! ### Route holds -/

/-- The time release requests (R60, R62, R64): START on a hold in HOLDING or IRREGULAR runs the configured period,
CONFIRM in READY with the signal standing normal removes the hold and counts it, and reports the removal last (R59);
CANCEL in TIMING or READY ends the release, and removes a hold back in HOLDING where the tests of R57 or R58 pass, and
no other. Each is refused where there is no definition, no hold or another state, with no other effect. That the
notices of other units come after is the MODEL'S CHOICE (log 13). -/
def Obligations.TimeReleaseRequests : Prop :=
  ∀ (s : State) (tm : Time) (tag n : Byte), s.ready → isLever n.toNat = true →
    (s.conf.holdDef n.toNat = none →
      (∃ u, exec (.timeReleaseStart tm tag n) s = .next u ∧ s.onlyReplies u 0x91 tag .noSuch []) ∧
      (∃ u, exec (.timeReleaseConfirm tm tag n) s = .next u ∧ s.onlyReplies u 0x92 tag .noSuch []) ∧
      (∃ u, exec (.timeReleaseCancel tm tag n) s = .next u ∧ s.onlyReplies u 0x93 tag .noSuch [])) ∧
    (∀ d, s.conf.holdDef n.toNat = some d → s.hold? n.toNat = none →
      (∃ u, exec (.timeReleaseStart tm tag n) s = .next u ∧ s.onlyReplies u 0x91 tag .refusedState []) ∧
      (∃ u, exec (.timeReleaseConfirm tm tag n) s = .next u ∧ s.onlyReplies u 0x92 tag .refusedState []) ∧
      ∃ u, exec (.timeReleaseCancel tm tag n) s = .next u ∧ s.onlyReplies u 0x93 tag .refusedState []) ∧
    (∀ d, s.conf.holdDef n.toNat = some d → ∀ h, s.hold? n.toNat = some h →
      (s.control.mode = .running → (h.state = .holding ∨ h.state = .irregular) → s.standing n.toNat = .normal →
        ∃ u, exec (.timeReleaseStart tm tag n) s = .next u ∧ u.replies 0x91 tag .ok [] ∧
          u.hold? n.toNat = some { h with
            state := .timing
            prior := some (if h.state = .holding then .holding else .irregular)
            timer := some (max s.now tm + d.period) } ∧
          (∀ m, m ≠ n.toNat → u.hold? m = s.hold? m) ∧ s.announces u [(.holdStarted, n.toNat)] ∧
          ChangesOnly [.holds, .slot] s u) ∧
      ((s.control.mode ≠ .running ∨ h.state = .active ∨ h.releasing = true ∨ s.standing n.toNat ≠ .normal) →
        ∃ u, exec (.timeReleaseStart tm tag n) s = .next u ∧ s.onlyReplies u 0x91 tag .refusedState []) ∧
      (h.state = .ready → s.standing n.toNat = .normal →
        ∃ u, exec (.timeReleaseConfirm tm tag n) s = .next u ∧ u.replies 0x92 tag .ok [] ∧ u.hold? n.toNat = none ∧
          u.store = s.store.putCounter (.release n.toNat) (s.store.counter (.release n.toNat)).increment ∧
          ((∀ m ∈ Tab.numbers 24, s.unraised m) → s.announces u [(.holdRemoved, n.toNat)]) ∧
          ChangesOnly [.holds, .levers, .choices, .counters, .slot] s u) ∧
      (h.state ≠ .ready ∨ s.standing n.toNat ≠ .normal →
        ∃ u, exec (.timeReleaseConfirm tm tag n) s = .next u ∧ s.onlyReplies u 0x92 tag .refusedState []) ∧
      (h.releasing = true →
        ∃ u, exec (.timeReleaseCancel tm tag n) s = .next u ∧ u.replies 0x93 tag .ok [] ∧
          (u.hold? n.toNat = none ∨ ∃ b, u.hold? n.toNat = some { h.backToPrior with reversal := b }) ∧
          (u.hold? n.toNat = none → h.prior = some .holding ∧ s.releasable h) ∧
          (h.prior = some .holding → s.standing n.toNat = .normal → s.releasable h → u.hold? n.toNat = none) ∧
          s.announcesFirst u [(.holdCancelled, n.toNat)] ∧
          ChangesOnly [.holds, .levers, .choices, .slot] s u) ∧
      (h.releasing = false →
        ∃ u, exec (.timeReleaseCancel tm tag n) s = .next u ∧ s.onlyReplies u 0x93 tag .refusedState []))

/-- A train moves the stages of a hold (R53, R54, R55, R57, R58, R65), its signal being at rest. A holding track that
becomes effectively occupied takes a WAITING stage to OCCUPIED in order, and is an irregularity out of order or where
the stage was CLEARED; one that becomes effectively clear takes an OCCUPIED stage to CLEARED, the last one or with the
next track occupied, and is an irregularity otherwise. The approach track ends a time release when it becomes occupied
before any stage. When the last stage becomes CLEARED, or the approach track clear with every stage WAITING, a hold
that the release tests reach goes. That the track's notice comes first and the hold's next is the MODEL'S CHOICE (log
13): R14 leaves the order of its consumers open. -/
def Obligations.StagesFollowTheTrain : Prop :=
  (∀ (s : State) (tm : Time) (t n i : Nat) (h : Hold), s.working → s.HoldsKept → isTrack t = true →
     s.conf.fitted t = true → s.relayPicked t = true → s.clear t = true → s.hold? n = some h → s.unraised n →
     (s.holdingOf h).Nodup →
     ∃ u, exec (.trackRelayDrop tm t) s = .next u ∧
       ((s.holdingOf h)[i]? = some t →
         (h.stages[i]? = some .waiting → i = 0 ∧ h.reversal = true ∨ 0 < i ∧ h.stages[i - 1]? ≠ some .waiting →
           u.hold? n = some { h with stages := h.stages.set i .occupied }) ∧
         (h.stages[i]? = some .waiting → i = 0 ∧ h.reversal = false ∨ 0 < i ∧ h.stages[i - 1]? = some .waiting →
           u.hold? n = some h.afterIrregularity ∧
           (s.holds = [h] → s.announcesFirst u [(.trackOccupied, t), (.holdSequenceIrregular, n)])) ∧
         (h.stages[i]? = some .cleared →
           u.hold? n = some { h.afterIrregularity with stages := h.stages.set i .occupied } ∧
           (s.holds = [h] → s.announcesFirst u [(.trackOccupied, t), (.holdSequenceIrregular, n)]))) ∧
       (t ∉ s.holdingOf h → s.approachOf h = some t →
         (h.releasing = true → (∀ g ∈ h.stages, g = .waiting) → u.hold? n = some h.backToPrior ∧
           (s.holds = [h] → s.announcesFirst u [(.trackOccupied, t), (.holdCancelled, n)])) ∧
         (h.releasing = false ∨ (∃ g ∈ h.stages, g ≠ .waiting) → u.hold? n = some h)) ∧
       (t ∉ s.holdingOf h → s.approachOf h ≠ some t → u.hold? n = some h)) ∧
  ∀ (s : State) (tm : Time) (t n i : Nat) (h : Hold) (c : Instr), s.becomesClearBy tm t c → s.HoldsKept →
    s.hold? n = some h → s.unraised n → (s.holdingOf h).Nodup →
    ∃ u, exec c s = .next u ∧
      ((s.holdingOf h)[i]? = some t → h.stages[i]? = some .occupied →
        (i + 1 = h.stages.length → h.testable = true → s.standing n = .normal → u.hold? n = none) ∧
        (i + 1 = h.stages.length → h.testable = false ∨ s.standing n ≠ .normal →
          u.hold? n = some { h with stages := h.stages.set i .cleared }) ∧
        (∀ v, (s.holdingOf h)[i + 1]? = some v → s.clear v = false →
          h.testable = false ∨ s.standing n ≠ .normal ∨ h.stages.getLast? ≠ some .cleared →
          u.hold? n = some { h with stages := h.stages.set i .cleared }) ∧
        (∀ v, (s.holdingOf h)[i + 1]? = some v → s.clear v = true →
          u.hold? n = some { h.afterIrregularity with stages := h.stages.set i .waiting })) ∧
      ((s.holdingOf h)[i]? = some t → h.stages[i]? = some .waiting →
        h.testable = false ∨ s.standing n ≠ .normal ∨ h.stages.getLast? ≠ some .cleared → u.hold? n = some h) ∧
      (t ∉ s.holdingOf h → s.approachOf h = some t →
        (h.testable = true → s.standing n = .normal → (∀ g ∈ h.stages, g = .waiting) → u.hold? n = none) ∧
        (h.testable = false ∨ s.standing n ≠ .normal ∨ (∃ g ∈ h.stages, g ≠ .waiting) → u.hold? n = some h)) ∧
      (t ∉ s.holdingOf h → s.approachOf h ≠ some t → u.hold? n = some h)

/-- A signal that comes to stand normal binds its ACTIVE hold, to IRREGULAR or to HOLDING, with a notice that carries
the new state (the byte of log 15); a hold that the release tests reach then goes where R57 or R58 lets it (R56, R57,
R58). A signal that arrives at REVERSE reactivates its hold with the stages kept, cancelling a time release (R51), and
one that comes to stand reverse otherwise sets the reversal flag (R52). That the lever's notice comes first and the
hold's next is the MODEL'S CHOICE (log 13): R23 leaves the order of its consumers open. -/
def Obligations.SignalsBindAndReactivateHolds : Prop :=
  ∀ (s : State) (tm : Time) (n : Nat) (side : Side) (h : Hold) (c : Instr), s.started → s.HoldsKept →
    isLever n = true → s.seats tm n side c → ((s.lever n).phase = .travel ∨ (s.lever n).phase = .fault) →
    s.hold? n = some h →
    ∃ u, exec c s = .next u ∧
      (∀ m, m ≠ n → s.unraised m → u.hold? m = s.hold? m) ∧
      (side = .normal →
        (h.state = .active →
          (h.irregular = true → u.hold? n = some { h with state := .irregular }) ∧
          (h.irregular = false → s.releasable h → u.hold? n = none) ∧
          (h.irregular = false → ¬ s.releasable h → u.hold? n = some { h with state := .holding }) ∧
          ((s.lever n).phase = .travel → (s.lever n).origin = .reverse →
            s.announcesFirst u [(.leverArrived, n), (.holdBound, n)]) ∧
          (s.sends .hold = true → s.link.outbox.length + 2 ≤ 32 →
            ∃ k ∈ u.link.outbox, k.event = .holdBound ∧ k.object = n ∧
              k.fields.getLast? = some (if h.irregular then 2 else 1))) ∧
        (h.state ≠ .active →
          (h.testable = true → s.releasable h → u.hold? n = none) ∧
          (h.testable = false ∨ ¬ s.releasable h → u.hold? n = some h))) ∧
      (side = .reverse →
        ((s.lever n).phase = .travel → (s.lever n).origin = .normal →
          u.hold? n = some { h with state := .active, prior := none, timer := none, reversal := true } ∧
          (h.releasing = true →
            s.announcesFirst u [(.leverArrived, n), (.holdCancelled, n), (.holdReactivated, n)]) ∧
          (h.releasing = false → s.announcesFirst u [(.leverArrived, n), (.holdReactivated, n)])) ∧
        ((s.lever n).phase = .fault ∨ (s.lever n).origin ≠ .normal →
          u.hold? n = some { h with reversal := true }))

/-! ### Block sections -/

/-- The instrument switch moves an accepting section when the gate passes (R76 to R79): to LC with the five conditions
of R76, which accepts the oldest offer that has its repetition (R135) before the SECTION notice (R74), from LC to LB
with no ENTERING received since, to TOL always, and from TOL to LB with the arrival proof and no record that holds the
section. Where the gate refuses, the section stays in its state with the switch position taken and the disagreement
flag set, and one notice is sent. A move back to the section's own state clears the flag (R75). In THROUGH, in the
start interval and in HELD with configuration invalid the position follows its contacts and nothing else changes (R85,
R167); and while not exactly one contact is made, or the contact of the position held, the position keeps its value.
That the start interval, HELD with configuration invalid and the last of these say so of a section of any role is the
model's reading (DEDUCED log 25): the manual gives a switch position to accepting sections, and R70 says that the
switch of an UNUSED section is not read. -/
def Obligations.InstrumentSwitchMovesOrDisagrees : Prop :=
  (∀ (s : State) (tm : Time) (x : Nat) (c : Contacts), s.working → isSection x = true →
     (s.conf.sec x).role = .accepting → s.contacts x ≠ c →
     (c.position = some .lc → (s.sec x).acc.state = .lb → (s.sec x).acc.switch ≠ .lc → s.control.mode = .running →
       s.control.box = .opened → s.standing (s.conf.sec x).home = .normal → s.clear (s.conf.sec x).clearing = true →
       s.clear (s.conf.sec x).entry = true →
       ∃ u, exec (.instrumentSwitchMove tm x c) s = .next u ∧
         u.sections = s.sections.put x { s.sec x with
           acc := { (s.sec x).acc with state := .lc, switch := .lc, entering := false, disagreement := false } } ∧
         (∀ r, Oldest (fun q => ∃ k, (s.record q).inbound = some k ∧ k.stage = .offered ∧ k.item = true)
             (s.inboundList x) r →
           s.rewrites u r { s.record r with
             inbound := (s.record r).inbound.map fun k => { k with stage := .accepted, acceptedAt := some s.stamp }
             unset := (s.record r).unset || s.control.clock.unset } ∧
           s.announces u [(.recAccepted, r), (.secStateChanged, x)]) ∧
         ((∀ q ∈ s.inboundList x, ¬ ∃ k, (s.record q).inbound = some k ∧ k.stage = .offered ∧ k.item = true) →
           u.register = s.register ∧ s.announces u [(.secStateChanged, x)]) ∧
         ChangesOnly [.inputs, .sections, .register] s u) ∧
     (c.position = some .lb → (s.sec x).acc.switch ≠ .lb →
       ((s.sec x).acc.state = .lc ∧ (s.sec x).acc.entering = false ∨
         (s.sec x).acc.state = .tol ∧ (s.sec x).acc.proof = true ∧ s.holdingRecord x = none) →
       ∃ u, exec (.instrumentSwitchMove tm x c) s = .next u ∧
         u.sections = s.sections.put x { s.sec x with
           acc := { (s.sec x).acc with
             state := .lb
             switch := .lb
             assumed := false
             unregistered := false
             disagreement := false } } ∧
         ChangesOnly [.inputs, .sections] s u) ∧
     (c.position = some .tol → (s.sec x).acc.switch ≠ .tol → ((s.sec x).acc.state = .lb ∨ (s.sec x).acc.state = .lc) →
       ∃ u, exec (.instrumentSwitchMove tm x c) s = .next u ∧
         u.sections = s.sections.put x { s.sec x with
           acc := { (s.sec x).acc with
             state := .tol
             switch := .tol
             proof := false
             seen := !s.clear (s.conf.sec x).clearing
             disagreement := false } } ∧
         ChangesOnly [.inputs, .sections] s u)) ∧
  (∀ (s : State) (tm : Time) (x : Nat) (c : Contacts), s.between → isSection x = true → s.contacts x ≠ c →
     (∀ p, c.position = some p → s.control.mode = .start ∨ s.control.mode = .held .invalid ∨
         (s.conf.sec x).role = .accepting ∧ (s.sec x).acc.state = .through →
       ∃ u, exec (.instrumentSwitchMove tm x c) s = .next u ∧
         u.sections = s.sections.put x { s.sec x with acc := { (s.sec x).acc with switch := p } } ∧
         s.announces u [] ∧ ChangesOnly [.inputs, .sections] s u) ∧
     (c.position = none ∨ c.position = some (s.sec x).acc.switch →
       ∃ u, exec (.instrumentSwitchMove tm x c) s = .next u ∧
         u.inputs = { s.inputs with switches := s.inputs.switches.put x c } ∧ s.announces u [] ∧
         ChangesOnly [.inputs] s u)) ∧
  (∀ (s : State) (tm : Time) (x : Nat) (c : Contacts) (dest : LineState), s.working → isSection x = true →
     (s.conf.sec x).role = .accepting → s.contacts x ≠ c → c.position = some dest → (s.sec x).acc.switch ≠ dest →
     (s.sec x).acc.state = .lb ∧ dest = .lb ∨ (s.sec x).acc.state = .lc ∧ dest = .lc ∨
       (s.sec x).acc.state = .tol ∧ dest = .tol →
     ∃ u, exec (.instrumentSwitchMove tm x c) s = .next u ∧
       u.sections = s.sections.put x { s.sec x with
         acc := { (s.sec x).acc with switch := dest, disagreement := false } } ∧
       s.announces u (if (s.sec x).acc.disagreement then [(.secAgrees, x)] else []) ∧
       ChangesOnly [.inputs, .sections] s u) ∧
  ∀ (s : State) (tm : Time) (x : Nat) (c : Contacts) (dest : LineState), s.working → isSection x = true →
    (s.conf.sec x).role = .accepting → s.contacts x ≠ c → c.position = some dest → (s.sec x).acc.switch ≠ dest →
    ((s.sec x).acc.state = .lb ∧ dest = .lc ∧ (s.control.mode ≠ .running ∨ s.control.box ≠ .opened ∨
          s.standing (s.conf.sec x).home ≠ .normal ∨ s.clear (s.conf.sec x).clearing = false ∨
          s.clear (s.conf.sec x).entry = false) ∨
      (s.sec x).acc.state = .lc ∧ dest = .lb ∧ (s.sec x).acc.entering = true ∨
      (s.sec x).acc.state = .tol ∧ dest = .lc ∨
      (s.sec x).acc.state = .tol ∧ dest = .lb ∧ ((s.sec x).acc.proof = false ∨ (s.holdingRecord x).isSome = true)) →
    ∃ u, exec (.instrumentSwitchMove tm x c) s = .next u ∧
      u.sections = s.sections.put x { s.sec x with
        acc := { (s.sec x).acc with switch := dest, disagreement := true } } ∧
      s.announces u [(.secDisagreement, x)] ∧ ChangesOnly [.inputs, .sections] s u

/-- The clearing track becomes effectively occupied while its section stands at LC (R82): the section falls to TOL,
keeps its assumed flag, disagrees with its switch, drives no current, and raises CLEARING_FOULED. -/
def Obligations.FouledClearingPointFallsToTol : Prop :=
  ∀ (s : State) (tm : Time) (x t : Nat), s.working → isSection x = true → isTrack t = true →
    (s.conf.sec x).role = .accepting → (s.conf.sec x).clearing = t → (s.sec x).acc.state = .lc →
    s.conf.fitted t = true → s.relayPicked t = true → s.clear t = true →
    ∃ u, exec (.trackRelayDrop tm t) s = .next u ∧ (u.sec x).acc.state = .tol ∧ (u.sec x).acc.disagreement = true ∧
      (u.sec x).acc.proof = false ∧ (u.sec x).acc.seen = true ∧ (u.sec x).acc.assumed = (s.sec x).acc.assumed ∧
      u.lineCurrent x = .none ∧
      (s.panel.alerts.length ≤ 9 →
        ∃ a ∈ u.panel.alerts, a.kind = .clearingFouled ∧ a.object = x ∧ a.acked = false ∧ a.priority = 12) ∧
      (s.holds = [] → s.sends .sec = true → s.link.outbox.length + 23 ≤ 32 →
        ∃ k ∈ u.link.outbox, k.event = .secClearingFouled ∧ k.object = x) ∧
      ChangesOnly [.inputs, .tracks, .holds, .sections, .register, .alerts, .sounder, .levers, .choices] s u

/-- SECTION_RESTORE (R86): an accepting section in TOL, assumed, with clearing and entry track effectively clear and
no record that holds it, goes to LB and is compared with its switch. Any other section is refused, with no other
effect: NO_SUCH where it is not ACCEPTING, else CONDITIONS with the number of the first of the four conditions that
fails and its object (log 19, DEDUCED; the bytes are log 15). In HELD with configuration invalid every request is
REFUSED_STATE (R190). -/
def Obligations.SectionRestoreReturnsToBlocked : Prop :=
  (∀ (s : State) (tm : Time) (tag x : Byte), s.ready → isSection x.toNat = true → s.control.mode = .held .invalid →
    ∃ u, exec (.sectionRestore tm tag x) s = .next u ∧ s.onlyReplies u 0x94 tag .refusedState []) ∧
  ∀ (s : State) (tm : Time) (tag x : Byte), s.ready → isSection x.toNat = true → s.control.mode ≠ .held .invalid →
    ((s.conf.sec x.toNat).role = .accepting → (s.sec x.toNat).acc.state = .tol →
      (s.sec x.toNat).acc.assumed = true → s.clear (s.conf.sec x.toNat).clearing = true →
      s.clear (s.conf.sec x.toNat).entry = true → (∀ r, ¬ s.refusesRestore x.toNat 4 (.record r)) →
      ∃ u, exec (.sectionRestore tm tag x) s = .next u ∧ u.replies 0x94 tag .ok [] ∧
        u.sections = s.sections.put x.toNat { s.sec x.toNat with
          acc := { (s.sec x.toNat).acc with
            state := .lb
            assumed := false
            unregistered := false
            disagreement := decide ((s.sec x.toNat).acc.switch ≠ .lb) } } ∧
        ChangesOnly [.sections, .slot] s u) ∧
    ((s.conf.sec x.toNat).role ≠ .accepting →
      ∃ u, exec (.sectionRestore tm tag x) s = .next u ∧ s.onlyReplies u 0x94 tag .noSuch []) ∧
    ∀ k o, (s.conf.sec x.toNat).role = .accepting → s.refusesRestore x.toNat k o →
      (∀ j < k, ∀ p, ¬ s.refusesRestore x.toNat j p) →
      ∃ u, exec (.sectionRestore tm tag x) s = .next u ∧
        s.onlyReplies u 0x94 tag .conditions (b1 k ++ bObject o)

/-- The repeater of an offering section follows the line current after 100 ms (R73): BLOCK_LINE_CHANGE starts the
stability timer, and its expiry takes the reading, makes the line clear release available at LC and withdraws an
available one on leaving LC (R87, R89). At LC the oldest acknowledged offer is accepted (R136), and a section in
THROUGH that mirrors this one drives its own line with the current that came in (R167). The notices stand as R73 lists
their causes (R192): the record's, the release's, *repeater*; that those of the levers follow is log 13. -/
def Obligations.RepeaterFollowsTheLine : Prop :=
  ∀ (s : State) (tm : Time) (x : Nat), s.working → isSection x = true → (s.conf.sec x).role = .offering →
    (∀ c, s.blockLine x ≠ c →
      ∃ u, exec (.blockLineChange tm x c) s = .next u ∧
        u.inputs = { s.inputs with blockLines := s.inputs.blockLines.put x c } ∧
        u.sections = s.sections.put x { s.sec x with
          off := { (s.sec x).off with timer := some (max s.now tm + 100) } } ∧
        s.announces u [] ∧ ChangesOnly [.inputs, .sections] s u) ∧
    (∀ e, (s.sec x).off.timer = some e → e ≤ max s.now tm →
      ∃ u, exec (.stabilityTimerExpiry tm x) s = .next u ∧
        u.sections = s.sections.put x { s.sec x with
          off := {
            repeater := s.rawReading x
            timer := none
            release :=
              if s.rawReading x = (s.sec x).off.repeater then (s.sec x).off.release
              else if s.rawReading x = .lc then .available
              else if (s.sec x).off.repeater = .lc ∧ (s.sec x).off.release = .available then .none
              else (s.sec x).off.release } } ∧
        (∀ y ∈ Tab.numbers 6, (s.conf.sec y).role = .accepting → (s.sec y).acc.state = .through →
          (s.conf.sec y).pair = some x → u.lineCurrent y = s.blockLine x) ∧
        (s.rawReading x = .lc → (s.sec x).off.repeater ≠ .lc →
          ∀ r, Oldest (fun q => ∃ k, (s.record q).outbound = some k ∧ k.stage = .offered ∧ k.item = true)
              (s.outboundList x) r →
            s.rewrites u r { s.record r with
              outbound := (s.record r).outbound.map fun k => { k with stage := .accepted, acceptedAt := some s.stamp }
              unset := (s.record r).unset || s.control.clock.unset } ∧
            s.announcesFirst u [(.recAccepted, r), (.secReleaseAvailable, x), (.secRepeater, x)]) ∧
        (s.rawReading x = .lc → (s.sec x).off.repeater ≠ .lc →
          (∀ q ∈ s.outboundList x, ¬ ∃ k, (s.record q).outbound = some k ∧ k.stage = .offered ∧ k.item = true) →
          u.register = s.register ∧ s.announcesFirst u [(.secReleaseAvailable, x), (.secRepeater, x)]) ∧
        (s.rawReading x = .lb → (s.sec x).off.repeater ≠ .lb →
          u.register = s.register ∧ s.announcesFirst u
            ((if (s.sec x).off.repeater = .lc ∧ (s.sec x).off.release = .available then [(.secReleaseWithdrawn, x)] else [])
              ++ [(.secRepeater, x)])) ∧
        (s.rawReading x = (s.sec x).off.repeater → s.announces u [] ∧ ChangesOnly [.sections] s u) ∧
        ChangesOnly [.sections, .register, .levers, .holds, .choices] s u)

/-! ### Bells -/

/-- The stroke detector (R98): an input that turns on is tested, or ignored within 40 ms of the last stroke; a pulse
that turns off within 20 ms of its edge leaves no stroke, and where the end-gap timer waits for it the code finishes
at that moment (R102, R104); and the end of a stroke records its width, with which a stroke that is being relayed goes
on, 500 ms at most from the moment at which the relay output turned on (R168). -/
def Obligations.StrokeDetectorTestsPulses : Prop :=
  ∀ (s : State) (tm : Time) (l : Nat) (ear : Ear), s.working → isLine l = true →
    (s.earOn l ear = false → (s.recognizer l ear).detector = .off →
      ∃ u, exec (.bellInputOn tm l ear) s = .next u ∧
        u.bells = s.bells.put l ((s.bell l).withRecognizer ear { s.recognizer l ear with
          detector := if (s.recognizer l ear).lastStroke.any (fun t => max s.now tm < t + 40) then .ignored
            else .testing (max s.now tm) }) ∧
        ChangesOnly [.inputs, .bells] s u) ∧
    (∀ edge, s.earOn l ear = true → (s.recognizer l ear).detector = .testing edge → max s.now tm < edge + 20 →
      (s.recognizer l ear).gapTimer ≠ .waiting →
      ∃ u, exec (.bellInputOff tm l ear) s = .next u ∧
        u.bells = s.bells.put l ((s.bell l).withRecognizer ear { s.recognizer l ear with detector := .off }) ∧
        ChangesOnly [.inputs, .bells] s u) ∧
    (∀ edge, s.earOn l ear = true → (s.recognizer l ear).detector = .testing edge → max s.now tm < edge + 20 →
      (s.recognizer l ear).gapTimer = .waiting → (s.recognizer l ear).phase ≠ .idle →
      ∃ u, exec (.bellInputOff tm l ear) s = .next u ∧ (u.recognizer l ear).detector = .off ∧
        (∃ k, s.codeFinishes u tm l ear k) ∧
        ChangesOnly [.inputs, .bells, .pulses, .register, .sections, .alerts, .sounder, .box] s u) ∧
    (∀ edge, s.earOn l ear = true → (s.recognizer l ear).detector = .stroke edge →
      ear = .manual ∨ (s.bell l).relay = none →
      ∃ u, exec (.bellInputOff tm l ear) s = .next u ∧
        u.bells = s.bells.put l ((s.bell l).withRecognizer ear { s.recognizer l ear with
          detector := .off
          width := some (max s.now tm - edge) }) ∧
        ChangesOnly [.inputs, .bells] s u) ∧
    (ear = .receive → ∀ k, (s.bell l).relay = some k →
      ∀ edge, s.earOn l ear = true → (s.recognizer l ear).detector = .stroke edge →
      ∃ u, exec (.bellInputOff tm l ear) s = .next u ∧
        u.bells = s.bells.put l { s.bell l with
          rx := { (s.bell l).rx with detector := .off, width := some (max s.now tm - edge) }
          relay := some { k with offAt := min (k.onAt + (max s.now tm - edge)) (k.onAt + 500) } } ∧
        ChangesOnly [.inputs, .bells] s u)

/-- A stroke of 20 ms or more is handed to its recognizer at its edge time, on every line, in through relay too, where
it also turns the relay output on (R98, R100, R101, R103, R168). The first begins a code at the nominal beat; a later
one either joins its group, and the beat reference follows by (3B + g) / 4 within 80 to 800 ms, or opens a new group
after a gap of 7/4 B or more; one that would be the 25th stroke or open the 7th group passes the limit, by which the
code is swallowed with its reason; and in SWALLOWING each is counted and starts the end gap again. None is reported
(R106). A stroke of the plunger of a line in through relay is handed to no recognizer (R168). -/
def Obligations.StrokesFormGroups : Prop :=
  ∀ (s : State) (tm edge : Time) (l : Nat) (ear : Ear), s.working → isLine l = true →
    (s.recognizer l ear).detector = .testing edge → edge + 20 ≤ max s.now tm →
    (s.inRelay l = true → ear = .manual →
      ∃ u, exec (.strokeTestExpiry tm l ear) s = .next u ∧
        u.bells = s.bells.put l { s.bell l with
          man := { (s.bell l).man with detector := .stroke edge, lastStroke := some edge } } ∧
        s.announces u [] ∧ ChangesOnly [.bells] s u) ∧
    (s.inRelay l = false ∨ ear = .receive →
      ((s.recognizer l ear).phase = .idle →
        ∃ u, exec (.strokeTestExpiry tm l ear) s = .next u ∧
          s.takesStroke u tm l ear edge { s.recognizer l ear with
            phase := .assembling
            beat := s.nominalBeat l ear
            groups := [1]
            strokes := 1
            first := some edge
            last := some edge
            endGap := max 1000 (min 3000 (4 * s.nominalBeat l ear))
            gapTimer := .running (edge + max 1000 (min 3000 (4 * s.nominalBeat l ear)))
            reason := none }) ∧
      (∀ k, (s.recognizer l ear).phase = .assembling → (s.recognizer l ear).last = some k →
        (s.recognizer l ear).strokes < 24 →
        (7 * (s.recognizer l ear).beat ≤ 4 * (edge - k) → (s.recognizer l ear).groups.length < 6 →
          ∃ u, exec (.strokeTestExpiry tm l ear) s = .next u ∧
            s.takesStroke u tm l ear edge { s.recognizer l ear with
              groups := (s.recognizer l ear).groups ++ [1]
              strokes := (s.recognizer l ear).strokes + 1
              last := some edge
              endGap := max 1000 (min 3000 (4 * (s.recognizer l ear).beat))
              gapTimer := .running (edge + max 1000 (min 3000 (4 * (s.recognizer l ear).beat))) }) ∧
        (4 * (edge - k) < 7 * (s.recognizer l ear).beat →
          ∀ b, b = max 80 (min 800 ((3 * (s.recognizer l ear).beat + (edge - k) + 2) / 4)) →
            ∃ u, exec (.strokeTestExpiry tm l ear) s = .next u ∧
              s.takesStroke u tm l ear edge { s.recognizer l ear with
                beat := b
                groups := growLast (s.recognizer l ear).groups
                strokes := (s.recognizer l ear).strokes + 1
                last := some edge
                endGap := max 1000 (min 3000 (4 * b))
                gapTimer := .running (edge + max 1000 (min 3000 (4 * b))) })) ∧
      (∀ k, (s.recognizer l ear).phase = .assembling → (s.recognizer l ear).last = some k →
        (24 ≤ (s.recognizer l ear).strokes ∨
          7 * (s.recognizer l ear).beat ≤ 4 * (edge - k) ∧ 6 ≤ (s.recognizer l ear).groups.length) →
        ∃ u, exec (.strokeTestExpiry tm l ear) s = .next u ∧
          s.takesStroke u tm l ear edge { s.recognizer l ear with
            phase := .swallowing
            reason := some (if 24 ≤ (s.recognizer l ear).strokes then .tooManyStrokes else .tooManyGroups)
            strokes := satAdd 255 (s.recognizer l ear).strokes
            last := some edge
            gapTimer := .running (edge + (s.recognizer l ear).endGap) }) ∧
      ((s.recognizer l ear).phase = .swallowing →
        ∃ u, exec (.strokeTestExpiry tm l ear) s = .next u ∧
          s.takesStroke u tm l ear edge { s.recognizer l ear with
            strokes := satAdd 255 (s.recognizer l ear).strokes
            last := some edge
            gapTimer := .running (edge + (s.recognizer l ear).endGap) }))

/-- The end gap passes on a receive line that is not in through relay (R102, R104, R122): the recognizer is idle with
its last code, and the code acknowledges the outstanding code when it is the same, or becomes the owed code; a
swallowed code is MALFORMED with its reason (R103), the same as none, so it becomes owed. A code tapped on the plunger
is a sent code (R107, R117, R121): it repeats an owed code that is the same, or becomes the outstanding code with the
line's repetition timeout; a MALFORMED one is reported and is no sent code. A received code that is not the same as
the outstanding one has repeated it incorrectly, which raises REPETITION_WRONG for the line (R122); for a MALFORMED
one, which acts on nothing else, the raise and the notices are given whole. That BELL_RX comes before the notices of
repetition is the MODEL'S CHOICE (log 13). A code received starts the pulse timers of its line (R174). A pulse under
test whose edge came no later than the expiry makes the finish wait for it, on every line (R102). -/
def Obligations.FinishedCodesMeetRepetition : Prop :=
  (∀ (s : State) (tm e : Time) (l : Nat), s.working → isLine l = true → s.inRelay l = false →
     (s.bell l).rx.phase ≠ .idle → (s.bell l).rx.gapTimer = .running e → e ≤ max s.now tm →
     (∀ edge, (s.bell l).rx.detector ≠ .testing edge) →
     ∃ u, exec (.endGapExpiry tm l .receive) s = .next u ∧ ∃ k, s.codeFinishes u tm l .receive k ∧
       (u.bell l).rx.detector = (s.bell l).rx.detector ∧
       (u.bell l).man = (s.bell l).man ∧ (u.bell l).send = (s.bell l).send ∧ (u.bell l).plunger = (s.bell l).plunger ∧
       (∀ o, (s.bell l).outstanding = some o → o.code.same k.code = true →
         (u.bell l).outstanding = none ∧ (u.bell l).owed = (s.bell l).owed ∧
         ∃ x, (u.bell l).exchange = some x ∧ x.code = k.code ∧ x.sent = true ∧ x.at_ = max s.now tm) ∧
       ((s.bell l).rx.phase = .swallowing ∨ (∀ o, (s.bell l).outstanding = some o → o.code.same k.code = false) →
         (u.bell l).outstanding = none ∧ (u.bell l).exchange = (s.bell l).exchange ∧
         (u.bell l).owed = some {
           code := k.code
           receivedAt := max s.now tm
           reminder := max s.now tm + (s.conf.line l).owedReminder }) ∧
       (∀ m ∈ Tab.numbers 3, m ≠ l → u.bell m = s.bell m) ∧
       (∀ i ∈ Tab.numbers 32, u.pulse i =
         (if (s.conf.indication i).source = .codeReceived ∧ (s.conf.indication i).index = l ∧
             (s.conf.indication i).display = .pulse
           then some (max s.now tm + (s.conf.indication i).pulse) else s.pulse i)) ∧
       ((s.bell l).rx.phase = .swallowing → u.sections = s.sections ∧ u.register.records = s.register.records ∧
         u.register.opened = s.register.opened) ∧
       (∀ o, (s.bell l).outstanding = some o → o.code.same k.code = false → s.panel.alerts.length ≤ 14 →
         u.hasAlert .repetitionWrong l 10) ∧
       ((s.bell l).rx.phase = .swallowing → s.AlertsKept → s.SounderKept → ∀ o, (s.bell l).outstanding = some o →
         ∃ ns, s.raises u (max s.now tm) (s.newAlert .repetitionWrong l 10) ns ∧
           s.announces u ([(.bellReceived, l), (.repIncorrect, l)] ++ ns ++
             (if (s.bell l).owed.isSome then [(.repNotGiven, l)] else []) ++ [(.repOwed, l)])) ∧
       ((s.bell l).rx.phase = .swallowing → (s.bell l).outstanding = none →
         s.announces u ([(.bellReceived, l)] ++ (if (s.bell l).owed.isSome then [(.repNotGiven, l)] else []) ++
             [(.repOwed, l)]) ∧ ChangesOnly [.bells, .pulses, .register] s u) ∧
       ChangesOnly [.bells, .pulses, .register, .sections, .alerts, .sounder] s u) ∧
  (∀ (s : State) (tm e : Time) (l : Nat), s.working → isLine l = true → s.inRelay l = false →
    (s.bell l).man.phase ≠ .idle → (s.bell l).man.gapTimer = .running e → e ≤ max s.now tm →
    (∀ edge, (s.bell l).man.detector ≠ .testing edge) →
    ∃ u, exec (.endGapExpiry tm l .manual) s = .next u ∧ (∃ k, s.codeFinishes u tm l .manual k) ∧
      (u.bell l).man.detector = (s.bell l).man.detector ∧ (u.bell l).rx = (s.bell l).rx ∧
      ((s.bell l).man.phase = .swallowing →
        (u.bell l).owed = (s.bell l).owed ∧ (u.bell l).outstanding = (s.bell l).outstanding ∧
        (u.bell l).exchange = (s.bell l).exchange ∧ s.announces u [(.bellManual, l)] ∧ ChangesOnly [.bells] s u) ∧
      ((s.bell l).man.phase = .assembling →
        (∀ o, (s.bell l).owed = some o → o.code.groups ≠ (s.bell l).man.groups) →
        (u.bell l).owed = (s.bell l).owed ∧
        ∃ o, (u.bell l).outstanding = some o ∧ o.code.groups = (s.bell l).man.groups ∧ o.sentAt = max s.now tm ∧
          o.deadline = max s.now tm + (s.conf.line l).repetitionTimeout) ∧
      ((s.bell l).man.phase = .assembling →
        ∀ o, (s.bell l).owed = some o → o.code.outcome ≠ .malformed → o.code.groups = (s.bell l).man.groups →
        (u.bell l).owed = none ∧ (u.bell l).outstanding = (s.bell l).outstanding) ∧
      (∀ m ∈ Tab.numbers 3, m ≠ l → u.bell m = s.bell m) ∧
      ChangesOnly [.bells, .register, .sections, .alerts, .sounder] s u) ∧
  ∀ (s : State) (tm e edge : Time) (l : Nat) (ear : Ear), s.working → isLine l = true →
    (s.recognizer l ear).phase ≠ .idle → (s.recognizer l ear).gapTimer = .running e → e ≤ max s.now tm →
    (s.recognizer l ear).detector = .testing edge → edge ≤ e →
    ∃ u, exec (.endGapExpiry tm l ear) s = .next u ∧
      u.bells = s.bells.put l ((s.bell l).withRecognizer ear { s.recognizer l ear with gapTimer := .waiting }) ∧
      s.announces u [] ∧ ChangesOnly [.bells] s u

/-- A received code that is no acknowledgement moves the records of its line (R132, R133, R135, R137, R139 to R142).
An OFFER opens the next record with an inbound half OFFERED, irregular unless the accepting section is at LB, or marks
the section unregistered where no record can be made; ENTERING moves the oldest accepted inbound half, and sets the
flag of the section in any case; OUT_OF_SECTION clears the oldest departed outbound half; CANCEL cancels the newest
offered or accepted inbound half; and a record whose halves are all final completes. A code that finds no record
changes none. An allocation that leaves 4 records free in low-stock state ARMED raises REGISTER_LOW and disarms it
(R132). A received OBSTRUCTION that acknowledges nothing raises OBSTRUCTION for its line and changes no section and no
record (R92). An acknowledged OFFER marks its record, and accepts it where the repeater reads LC (R136). The order of
the notices of the code's consumers is the MODEL'S CHOICE (log 13), for R105 fixes none; that *unregistered* is sent
also where the flag is set already is log 34 (DESIGN CHOICE). -/
def Obligations.ReceivedCodesMoveRecords : Prop :=
  (∀ (s : State) (tm : Time) (l entry cls : Nat) (m : Meaning), s.finishes tm l .receive → s.control.box = .opened →
     s.RegisterWhole → s.conf.matching (s.bell l).rx.groups = some (entry, m, cls) → (s.bell l).outstanding = none →
     ∃ u, exec (.endGapExpiry tm l .receive) s = .next u ∧ u.outstandingOffer l = none ∧
       (m ≠ .offer → u.owedOffer l = none) ∧
       (m = .offer → ∀ x, s.conf.acceptingOf l = some x → u.sections = (if s.register.free = [] ∧
           s.register.completed = []
           then s.sections.put x { s.sec x with acc := { (s.sec x).acc with unregistered := true } } else s.sections) ∧
         (∀ r, s.allocates r → u.owedOffer l = some r ∧ s.opens u r {
           cls := some cls
           inbound := some { sec := x, stage := .offered, offeredAt := some s.stamp }
           irregular := decide ((s.sec x).acc.state ≠ .lb)
           unset := s.control.clock.unset }) ∧
         s.lowStock u (max s.now tm) ∧
         (∀ r, s.register.free.head? = some r → (s.bell l).owed = none → s.panel.alerts = [] →
           s.announces u (if s.register.free.length = 5 ∧ s.register.armed = true
             then [(.bellReceived, l), (.repOwed, l), (.alertRaised, 0), (.recRegisterLow, 0), (.recCreated, r)]
             else [(.bellReceived, l), (.repOwed, l), (.recCreated, r)])) ∧
         (s.register.free = [] → s.register.completed = [] →
           u.register.records = s.register.records ∧ u.register.opened = s.register.opened ∧ u.owedOffer l = none ∧
           ((s.bell l).owed = none → s.announces u
             [(.bellReceived, l), (.repOwed, l), (.secUnregistered, x), (.recRegisterFull, 0)]))) ∧
       (m = .entering → ∀ x, s.conf.acceptingOf l = some x →
         u.sections = s.sections.put x { s.sec x with acc := { (s.sec x).acc with entering := true } } ∧
         (∀ r, Oldest (fun q => (s.record q).inStage = some .accepted) (s.inboundList x) r →
           s.rewrites u r { s.record r with
             inbound := (s.record r).inbound.map fun h => { h with stage := .entering, enteringAt := some s.stamp }
             unset := (s.record r).unset || s.control.clock.unset }) ∧
         ((∀ r ∈ s.inboundList x, (s.record r).inStage ≠ some .accepted) →
           u.register.records = s.register.records ∧ u.register.opened = s.register.opened ∧
           ((s.bell l).owed = none → s.announces u [(.bellReceived, l), (.repOwed, l), (.recIrregularCode, 0)]))) ∧
       (m = .outOfSection → ∀ x, s.conf.offeringOf l = some x → u.sections = s.sections ∧
         (∀ r, Oldest (fun q => (s.record q).outStage = some .atTrack) (s.outboundList x) r →
           s.rewritesAndTests u r { s.record r with
             outbound := (s.record r).outbound.map fun h => { h with stage := .ended, endedAt := some s.stamp }
             unset := (s.record r).unset || s.control.clock.unset }) ∧
         ((∀ r ∈ s.outboundList x, (s.record r).outStage ≠ some .atTrack) →
           u.register.records = s.register.records ∧ u.register.opened = s.register.opened)) ∧
       (m = .cancel → ∀ x, s.conf.acceptingOf l = some x → u.sections = s.sections ∧
         (∀ r, Newest (fun q => (s.record q).inStage = some .offered ∨ (s.record q).inStage = some .accepted)
             (s.inboundList x) r →
           s.rewritesAndTests u r { s.record r with
             inbound := (s.record r).inbound.map fun h => { h with stage := .cancelled } }) ∧
         ((∀ r ∈ s.inboundList x, (s.record r).inStage ≠ some .offered ∧ (s.record r).inStage ≠ some .accepted) →
           u.register.records = s.register.records ∧ u.register.opened = s.register.opened))) ∧
  (∀ (s : State) (tm : Time) (l entry cls : Nat), s.finishes tm l .receive →
     s.conf.matching (s.bell l).rx.groups = some (entry, .obstruction, cls) →
     (∀ o, (s.bell l).outstanding = some o → o.code.outcome = .malformed ∨ o.code.groups ≠ (s.bell l).rx.groups) →
     ∃ u, exec (.endGapExpiry tm l .receive) s = .next u ∧ u.sections = s.sections ∧
       u.register.records = s.register.records ∧ u.register.opened = s.register.opened ∧
       (s.panel.alerts.length ≤ 14 → u.hasAlert .obstruction l 13 ∧
         ((s.bell l).outstanding ≠ none → u.hasAlert .repetitionWrong l 10)) ∧
       ((s.bell l).outstanding = none → s.AlertsKept → s.SounderKept →
         ∃ ns, s.raises u (max s.now tm) (s.newAlert .obstruction l 13) ns ∧
           s.announces u ([(.bellReceived, l)] ++ (if (s.bell l).owed.isSome then [(.repNotGiven, l)] else []) ++
             [(.repOwed, l)] ++ ns))) ∧
  ∀ (s : State) (tm : Time) (l entry cls r : Nat) (o : Outstanding) (h : Half), s.finishes tm l .receive →
    s.conf.matching (s.bell l).rx.groups = some (entry, .offer, cls) → (s.bell l).outstanding = some o →
    o.code.outcome ≠ .malformed → o.code.groups = (s.bell l).rx.groups → s.outstandingOffer l = some r →
    r ∈ s.register.opened → isRecord r = true → (s.record r).outbound = some h → h.stage = .offered →
    ∃ u, exec (.endGapExpiry tm l .receive) s = .next u ∧ u.outstandingOffer l = none ∧ u.sections = s.sections ∧
      ((s.sec h.sec).off.repeater = .lc → s.rewrites u r { s.record r with
        outbound := some { h with stage := .accepted, acceptedAt := some s.stamp, item := true }
        unset := (s.record r).unset || s.control.clock.unset }) ∧
      ((s.sec h.sec).off.repeater ≠ .lc → s.rewrites u r { s.record r with outbound := some { h with item := true } })

/-- A sent code that is no repetition moves the records of its line, whether it was tapped on the plunger or is a
coded send whose last stroke ends (R93, R116, R117, R132, R133, R135, R136, R137, R139 to R142). An OFFER attaches an
outbound half to the record that SEND_BELL named, where that is open and has none; else to the oldest open record that
came in by the paired section and has none; else it opens a record of its own, which begins on the starting berth
where that track is occupied and no open record's head, and whose allocation may raise REGISTER_LOW (R132). ENTERING
moves the oldest accepted outbound half; OUT_OF_SECTION closes the oldest arrived inbound half, irregular where a
manual one fails the gate of R93, which a coded one is not put to again; CANCEL cancels the newest offered or accepted
outbound half; and a record whose halves are all final completes. A repeated OFFER marks its record, and accepts it
where the section is at LC (R135). That the record named is the one that has the number at the completion is the
MODEL'S CHOICE (log 39). -/
def Obligations.SentCodesMoveRecords : Prop :=
  (∀ (s : State) (tm : Time) (l entry cls : Nat) (m : Meaning), s.finishes tm l .manual → s.control.box = .opened →
     s.RegisterWhole → s.conf.matching (s.bell l).man.groups = some (entry, m, cls) →
     (∀ o, (s.bell l).owed = some o → o.code.groups ≠ (s.bell l).man.groups) →
     ∃ u, exec (.endGapExpiry tm l .manual) s = .next u ∧
       s.sentMoves u l m none (∃ x, s.conf.acceptingOf l = some x ∧ s.outOfSectionFails x) ∧
       (m = .offer → ∀ x, s.conf.offeringOf l = some x → s.offersAnew x none → s.lowStock u (max s.now tm))) ∧
  (∀ (s : State) (tm : Time) (l : Nat) (k : Send), s.lastStrokeEnds tm l k → s.control.box = .opened →
     s.RegisterWhole → (∀ o, (s.bell l).owed = some o → o.code.groups ≠ (s.conf.code k.entry).pattern) →
     ∃ u, exec (.sendStrokeEnd tm l) s = .next u ∧
       s.sentMoves u l (s.conf.code k.entry).meaning k.record False ∧
       ((s.conf.code k.entry).meaning = .offer → ∀ x, s.conf.offeringOf l = some x → s.offersAnew x k.record →
         s.lowStock u (max s.now tm))) ∧
  (∀ (s : State) (tm : Time) (l entry cls r : Nat) (h : Half), s.finishes tm l .manual →
     s.conf.matching (s.bell l).man.groups = some (entry, .offer, cls) → s.owesOffer l (s.bell l).man.groups r h →
     ∃ u, exec (.endGapExpiry tm l .manual) s = .next u ∧ s.repetitionOfOffer u l r h) ∧
  ∀ (s : State) (tm : Time) (l r : Nat) (k : Send) (h : Half), s.lastStrokeEnds tm l k →
    (s.conf.code k.entry).meaning = .offer → s.owesOffer l (s.conf.code k.entry).pattern r h →
    ∃ u, exec (.sendStrokeEnd tm l) s = .next u ∧ s.repetitionOfOffer u l r h

/-- On a line in through relay (R168, R169, R170) an accepted receive stroke turns the relay output on for at most 500
ms; where its source turns off sooner, the output keeps the recorded width; and a code is neither owed nor recorded:
it becomes the pending through code, or completes the exchange with one that is the same, came in on the other line
and is not past its deadline, by which that line has received the code and this one has sent it; a MALFORMED code
becomes pending and completes nothing. A pending code whose deadline passes is gone. That the BELL_RX notice comes
before the REPETITION notice (log 13), and that the object number of relayed exchange is the line of the completing
code (log 15), are the MODEL'S CHOICE. -/
def Obligations.ThroughRelayPassesStrokes : Prop :=
  ∀ (s : State) (tm : Time) (l : Nat), s.working → isLine l = true → s.inRelay l = true →
    (∀ edge, (s.bell l).rx.detector = .testing edge → edge + 20 ≤ max s.now tm →
      ∃ u, exec (.strokeTestExpiry tm l .receive) s = .next u ∧
        (u.bell l).relay = some ⟨max s.now tm, max s.now tm + 500⟩ ∧
        ChangesOnly [.bells] s u) ∧
    (∀ k, (s.bell l).relay = some k → ∀ edge, s.earOn l .receive = true → (s.bell l).rx.detector = .stroke edge →
      ∃ u, exec (.bellInputOff tm l .receive) s = .next u ∧
        (u.bell l).relay = some ⟨k.onAt, min (k.onAt + (max s.now tm - edge)) (k.onAt + 500)⟩ ∧
        ChangesOnly [.inputs, .bells] s u) ∧
    (∀ k, (s.bell l).relay = some k → k.offAt ≤ max s.now tm →
      ∃ u, exec (.relayOutputOff tm l) s = .next u ∧ u.bells = s.bells.put l { s.bell l with relay := none } ∧
        ChangesOnly [.bells] s u) ∧
    (∀ e, (s.bell l).rx.phase ≠ .idle → (s.bell l).rx.gapTimer = .running e → e ≤ max s.now tm →
      (∀ edge, (s.bell l).rx.detector ≠ .testing edge) → s.control.through = none →
      ∃ u, exec (.endGapExpiry tm l .receive) s = .next u ∧ (∃ k, s.codeFinishes u tm l .receive k) ∧
        ∃ p, u.control.through = some p ∧ p.line = l ∧ p.code.groups = (s.bell l).rx.groups ∧
        (p.code.outcome = .malformed ↔ (s.bell l).rx.phase = .swallowing) ∧
        p.deadline = max s.now tm + (s.conf.line (s.otherLine l)).repetitionTimeout ∧
        (u.bell l).owed = (s.bell l).owed ∧ ChangesOnly [.bells, .box, .pulses] s u) ∧
    (∀ p, s.control.through = some p → isLine p.line = true → ∀ e, (s.bell l).rx.phase ≠ .idle →
      (s.bell l).rx.gapTimer = .running e → e ≤ max s.now tm → (∀ edge, (s.bell l).rx.detector ≠ .testing edge) →
      ((s.bell l).rx.phase = .assembling → p.line ≠ l → p.code.outcome ≠ .malformed →
          p.code.groups = (s.bell l).rx.groups → max s.now tm ≤ p.deadline →
        ∃ u, exec (.endGapExpiry tm l .receive) s = .next u ∧ u.control.through = none ∧
          u.control.relayOn = s.control.relayOn ∧ u.control.box = s.control.box ∧
          (∃ x, (u.bell p.line).exchange = some x ∧ x.code.groups = p.code.groups ∧ x.sent = false ∧
            x.at_ = max s.now tm ∧ x.stamp = s.stamp) ∧
          (∃ x, (u.bell l).exchange = some x ∧ x.code.groups = p.code.groups ∧ x.sent = true ∧
            x.at_ = max s.now tm ∧ x.stamp = s.stamp) ∧
          (u.bell l).owed = (s.bell l).owed ∧ (u.bell l).outstanding = (s.bell l).outstanding ∧
          s.announces u [(.bellReceived, l), (.repRelayedExchange, l)] ∧ ChangesOnly [.bells, .box, .pulses] s u) ∧
      ((s.bell l).rx.phase = .swallowing ∨ p.line = l ∨ p.code.outcome = .malformed ∨
          p.code.groups ≠ (s.bell l).rx.groups ∨ p.deadline < max s.now tm →
        ∃ u, exec (.endGapExpiry tm l .receive) s = .next u ∧
          (∃ q, u.control.through = some q ∧ q.line = l ∧ q.code.groups = (s.bell l).rx.groups ∧
            (q.code.outcome = .malformed ↔ (s.bell l).rx.phase = .swallowing) ∧
            q.deadline = max s.now tm + (s.conf.line (s.otherLine l)).repetitionTimeout) ∧
          s.announces u [(.bellReceived, l)] ∧ ChangesOnly [.bells, .box, .pulses] s u)) ∧
    (∀ p, s.control.through = some p → p.deadline ≤ max s.now tm →
      ∃ u, exec (.pendingThroughCodeExpiry tm) s = .next u ∧ u.control.through = none ∧
        u.control.relayOn = s.control.relayOn ∧ u.control.box = s.control.box ∧
        s.announces u [(.repRelayedNotRepeated, p.line)] ∧ ChangesOnly [.box] s u)

/-- SEND_BELL by the tests of R115 in their order. It is REFUSED_STATE in HELD with configuration invalid, NO_SUCH for
an entry that is not in use, BAD_REQUEST for a record with an entry that is no OFFER, and BUSY on a line in through
relay, with a send in flight, a manual code or a pressed plunger. On a free line an OUT_OF_SECTION must pass the gate
of R93: CONDITIONS 1 with 1 where the accepting section is at LC, 2 where it is at TOL with no arrival proof, 3 where
an inbound record still holds it. A named record needs an offering section (else CONDITIONS 2; that its object is the
line is log 19, DEDUCED; the bytes are log 15), and it must be open with no outbound half (else NO_SUCH). What passes
is accepted: the first stroke is on at once and the send output carries current (R116). A stroke lasts a quarter, a
third or half of the send beat, rounded down; each stroke of a group starts one beat after the one before it, and the
first of a later group three beats after the last of the group before (R113). The strokes then follow, each starting
and ending at its time; after the last the send is over, and its code becomes the outstanding code with the line's
repetition timeout, or repeats an owed code that is the same (R121). That the notices of other units come after
BELL_TX is the MODEL'S CHOICE (log 13). -/
def Obligations.SendBellRunsItsStrokes : Prop :=
  (∀ (s : State) (tm : Time) (tag l e : Byte) (named : Option Byte), s.ready → isLine l.toNat = true →
     isIndication e.toNat = true → (∀ r, named = some r → isRecord r.toNat = true) →
     (s.control.mode = .held .invalid →
       ∃ u, exec (.sendBell tm tag l e named) s = .next u ∧ s.onlyReplies u 0x90 tag .refusedState []) ∧
     (s.control.mode ≠ .held .invalid → (s.conf.code e.toNat).inUse = false →
       ∃ u, exec (.sendBell tm tag l e named) s = .next u ∧ s.onlyReplies u 0x90 tag .noSuch []) ∧
     (s.control.mode ≠ .held .invalid → (s.conf.code e.toNat).inUse = true → named ≠ none →
       (s.conf.code e.toNat).meaning ≠ .offer →
       ∃ u, exec (.sendBell tm tag l e named) s = .next u ∧ s.onlyReplies u 0x90 tag .badRequest []) ∧
     (s.control.mode ≠ .held .invalid → (s.conf.code e.toNat).inUse = true →
       named = none ∨ (s.conf.code e.toNat).meaning = .offer →
       s.inRelay l.toNat = true ∨ (s.bell l.toNat).send.isSome = true ∨ (s.bell l.toNat).man.phase ≠ .idle ∨
         (s.bell l.toNat).plunger ≠ .off →
       ∃ u, exec (.sendBell tm tag l e named) s = .next u ∧ s.onlyReplies u 0x90 tag .busy [])) ∧
  (∀ (s : State) (tm : Time) (tag l e : Byte), s.ready → s.mayRing l.toNat e.toNat →
     (∀ x, (s.conf.code e.toNat).meaning = .outOfSection → s.conf.acceptingOf l.toNat = some x →
       ((s.sec x).acc.state = .lc →
         ∃ u, exec (.sendBell tm tag l e none) s = .next u ∧
           s.onlyReplies u 0x90 tag .conditions (b1 1 ++ b1 1 ++ bObject (.sec x))) ∧
       ((s.sec x).acc.state = .tol → (s.sec x).acc.proof = false →
         ∃ u, exec (.sendBell tm tag l e none) s = .next u ∧
           s.onlyReplies u 0x90 tag .conditions (b1 1 ++ b1 2 ++ bObject (.sec x))) ∧
       ∀ r, (s.sec x).acc.state = .tol → (s.sec x).acc.proof = true →
         Oldest (fun q => (s.record q).inStage = some .offered ∨ (s.record q).inStage = some .accepted ∨
           (s.record q).inStage = some .entering) (s.inboundList x) r →
         ∃ u, exec (.sendBell tm tag l e none) s = .next u ∧
           s.onlyReplies u 0x90 tag .conditions (b1 1 ++ b1 3 ++ bObject (.record r))) ∧
     ∀ r : Byte, isRecord r.toNat = true → (s.conf.code e.toNat).meaning = .offer →
       (s.conf.offeringOf l.toNat = none →
         ∃ u, exec (.sendBell tm tag l e (some r)) s = .next u ∧
           s.onlyReplies u 0x90 tag .conditions (b1 2 ++ bObject (.line l.toNat))) ∧
       (s.conf.offeringOf l.toNat ≠ none → r.toNat ∉ s.register.opened ∨ (s.record r.toNat).outbound ≠ none →
         ∃ u, exec (.sendBell tm tag l e (some r)) s = .next u ∧ s.onlyReplies u 0x90 tag .noSuch [])) ∧
  (∀ (s : State) (tm : Time) (tag l e : Byte) (named : Option Byte), s.ready → s.mayRing l.toNat e.toNat →
     ((s.conf.code e.toNat).meaning = .outOfSection →
       ∀ x, s.conf.acceptingOf l.toNat = some x → ¬ s.outOfSectionFails x) →
     (∀ r, named = some r → isRecord r.toNat = true ∧ (s.conf.code e.toNat).meaning = .offer ∧
       s.conf.offeringOf l.toNat ≠ none ∧ r.toNat ∈ s.register.opened ∧ (s.record r.toNat).outbound = none) →
     ∃ u, exec (.sendBell tm tag l e named) s = .next u ∧ u.replies 0x90 tag .ok [] ∧
       WidthOf (s.conf.line l.toNat).sendBeat (s.conf.line l.toNat).duty
         ((s.conf.line l.toNat).duty.width (s.conf.line l.toNat).sendBeat) ∧
       (PatternValid (s.conf.code e.toNat).pattern →
         Schedules (s.conf.line l.toNat).sendBeat (max s.now tm) (s.conf.code e.toNat).pattern
           (strokeStarts (s.conf.line l.toNat).sendBeat (max s.now tm) (s.conf.code e.toNat).pattern)) ∧
       u.bells = s.bells.put l.toNat { s.bell l.toNat with
         send := some {
           entry := e.toNat
           record := named.map (·.toNat)
           acceptedAt := max s.now tm
           starts := strokeStarts (s.conf.line l.toNat).sendBeat (max s.now tm) (s.conf.code e.toNat).pattern
           width := (s.conf.line l.toNat).duty.width (s.conf.line l.toNat).sendBeat
           index := 0
           on := true } } ∧
       u.sendOutput l.toNat = true ∧ s.announces u [] ∧ ChangesOnly [.bells, .slot] s u) ∧
  ∀ (s : State) (tm : Time) (l : Nat) (k : Send) (at_ : Time), s.started → isLine l = true →
    (s.bell l).send = some k → k.starts[k.index]? = some at_ →
    (k.on = false → at_ ≤ max s.now tm →
      ∃ u, exec (.sendStrokeStart tm l) s = .next u ∧
        u.bells = s.bells.put l { s.bell l with send := some { k with on := true } } ∧
        ChangesOnly [.bells] s u) ∧
    (k.on = true → at_ + k.width ≤ max s.now tm → k.index + 1 < k.starts.length →
      ∃ u, exec (.sendStrokeEnd tm l) s = .next u ∧
        u.bells = s.bells.put l { s.bell l with send := some { k with on := false, index := k.index + 1 } } ∧
        ChangesOnly [.bells] s u) ∧
    (k.on = true → at_ + k.width ≤ max s.now tm → k.index + 1 = k.starts.length →
      ∃ u, exec (.sendStrokeEnd tm l) s = .next u ∧ (u.bell l).send = none ∧
        ((∀ o, (s.bell l).owed = some o → o.code.groups ≠ (s.conf.code k.entry).pattern) →
          (u.bell l).outstanding = some {
            code := ⟨.matched, some (k.entry, (s.conf.code k.entry).meaning), (s.conf.code k.entry).pattern⟩
            sentAt := max s.now tm
            deadline := max s.now tm + (s.conf.line l).repetitionTimeout } ∧
          (u.bell l).owed = (s.bell l).owed) ∧
        (∀ o, (s.bell l).owed = some o → o.code.outcome ≠ .malformed →
          o.code.groups = (s.conf.code k.entry).pattern →
          (u.bell l).owed = none ∧ (u.bell l).outstanding = (s.bell l).outstanding) ∧
        s.announcesFirst u [(.bellCompleted, l)] ∧
        ChangesOnly [.bells, .register, .sections, .alerts, .sounder] s u)

/-- The plunger (R118, R119, R168): a press turns the output on for at most 500 ms and aborts a coded send; the output
is spent after that and off at the release; in through relay a press is counted and ignored. -/
def Obligations.PlungerDrivesTheLine : Prop :=
  ∀ (s : State) (tm : Time) (l : Nat), s.working → isLine l = true →
    (s.inRelay l = false → (s.bell l).plunger = .off →
      ∃ u, exec (.plungerPress tm l) s = .next u ∧
        u.bells = s.bells.put l { s.bell l with
          plunger := .on
          plungerTimer := some (max s.now tm + 500)
          send := none } ∧
        u.sendOutput l = true ∧ ChangesOnly [.bells] s u) ∧
    (s.inRelay l = true →
      ∃ u, exec (.plungerPress tm l) s = .next u ∧
        u.bells = s.bells.put l { s.bell l with ignored := satAdd 65535 (s.bell l).ignored } ∧
        s.announces u [] ∧ ChangesOnly [.bells] s u) ∧
    ((s.bell l).plunger ≠ .off →
      ∃ u, exec (.plungerRelease tm l) s = .next u ∧
        u.bells = s.bells.put l { s.bell l with plunger := .off, plungerTimer := none } ∧
        ChangesOnly [.bells] s u) ∧
    (∀ e, (s.bell l).plunger = .on → (s.bell l).plungerTimer = some e → e ≤ max s.now tm →
      ∃ u, exec (.plungerOutputTimerExpiry tm l) s = .next u ∧
        u.bells = s.bells.put l { s.bell l with plunger := .spent, plungerTimer := none } ∧
        ChangesOnly [.bells] s u)

/-- The repetition times (derived from R123, R124): an outstanding code whose deadline passes is gone and NO_REPETITION
is in the alert list where the list held fewer than 16 before; an owed code whose reminder time passes stays owed, is
marked, and REPEAT_OWED is in the alert list with the same proviso. Each notice is in the outbox where it is enabled
and the outbox has room for three more. A second expiry of the reminder of one owed code does nothing. -/
def Obligations.RepetitionTimesPass : Prop :=
  ∀ (s : State) (tm : Time) (l : Nat), s.started → isLine l = true →
    (∀ o, (s.bell l).outstanding = some o → o.deadline ≤ max s.now tm →
      ∃ u, exec (.repetitionDeadlineExpiry tm l) s = .next u ∧
        u.bells = s.bells.put l { s.bell l with outstanding := none } ∧
        (s.panel.alerts.length < 16 → ∃ a ∈ u.panel.alerts, a.kind = .noRepetition ∧ a.object = l ∧ a.acked = false) ∧
        (s.sends .repetition = true → s.link.outbox.length + 3 ≤ 32 →
          ∃ n ∈ u.link.outbox, n.event = .repNoRepetition ∧ n.object = l) ∧
        ChangesOnly [.bells, .alerts, .sounder] s u) ∧
    (∀ o, (s.bell l).owed = some o → o.expired = false → o.reminder ≤ max s.now tm →
      ∃ u, exec (.owedReminderExpiry tm l) s = .next u ∧
        u.bells = s.bells.put l { s.bell l with owed := some { o with expired := true } } ∧
        (s.panel.alerts.length < 16 → ∃ a ∈ u.panel.alerts, a.kind = .repeatOwed ∧ a.object = l ∧ a.acked = false) ∧
        (s.sends .repetition = true → s.link.outbox.length + 3 ≤ 32 →
          ∃ n ∈ u.link.outbox, n.event = .repRepetitionOwed ∧ n.object = l) ∧
        ChangesOnly [.bells, .alerts, .sounder] s u) ∧
    (∀ o, (s.bell l).owed = some o → o.expired = true →
      ∃ u, exec (.owedReminderExpiry tm l) s = .next u ∧ s.announces u [] ∧ ChangesOnly [] s u)

/-! ### Train records -/

/-- CLOSE_RECORD and COLLECT_RECORD (R143, R144): an open record is completed as closed by the signalman, leaves its
section lists with each half at the stage it had reached, and loses every link that names it; a complete one is
collected onto the top of the free list; and each request is refused for a record in another collection. -/
def Obligations.RecordsAreClosedAndCollected : Prop :=
  ∀ (s : State) (tm : Time) (tag r : Byte), s.ready → s.RegisterWhole →
    (r.toNat ∈ s.register.opened →
      (∃ u, exec (.closeRecord tm tag r) s = .next u ∧ u.replies 0x95 tag .ok [] ∧
        u.register.opened = s.register.opened.filter (· != r.toNat) ∧
        u.register.completed = s.register.completed ++ [r.toNat] ∧ u.register.free = s.register.free ∧
        u.record r.toNat = { s.record r.toNat with reason := some .closedBySignalman, grace := none } ∧
        (∀ q ∈ Tab.numbers 48, q ≠ r.toNat → u.record q = s.record q) ∧
        (∀ x ∈ Tab.numbers 6, r.toNat ∉ u.inboundList x ∧ r.toNat ∉ u.outboundList x) ∧
        (∀ l ∈ Tab.numbers 3,
          u.owedOffer l = (if s.owedOffer l = some r.toNat then none else s.owedOffer l) ∧
          u.outstandingOffer l = (if s.outstandingOffer l = some r.toNat then none else s.outstandingOffer l)) ∧
        u.register.overwritten = s.register.overwritten ∧ u.register.armed = s.register.armed ∧
        s.announces u [(.recCompleted, r.toNat)] ∧ ChangesOnly [.register, .slot] s u) ∧
      (∃ u, exec (.collectRecord tm tag r) s = .next u ∧ s.onlyReplies u 0x96 tag .refusedState [])) ∧
    (r.toNat ∈ s.register.completed →
      (∃ u, exec (.closeRecord tm tag r) s = .next u ∧ s.onlyReplies u 0x95 tag .refusedState []) ∧
      (∃ u, exec (.collectRecord tm tag r) s = .next u ∧ u.replies 0x96 tag .ok [] ∧
        u.register.completed = s.register.completed.filter (· != r.toNat) ∧
        u.register.free = r.toNat :: s.register.free ∧ u.register.opened = s.register.opened ∧
        u.record r.toNat = {} ∧ (∀ q ∈ Tab.numbers 48, q ≠ r.toNat → u.record q = s.record q) ∧
        u.register.armed = (s.register.armed || decide (s.register.free.length = 8)) ∧
        u.register.overwritten = s.register.overwritten ∧ u.register.owedOffer = s.register.owedOffer ∧
        u.register.outstandingOffer = s.register.outstandingOffer ∧
        s.announces u [(.recCollected, r.toNat)] ∧ ChangesOnly [.register, .slot] s u)) ∧
    (isRecord r.toNat = false →
      (∃ u, exec (.closeRecord tm tag r) s = .next u ∧ s.onlyReplies u 0x95 tag .badRequest []) ∧
      ∃ u, exec (.collectRecord tm tag r) s = .next u ∧ s.onlyReplies u 0x96 tag .badRequest []) ∧
    (r.toNat ∈ s.register.free →
      (∃ u, exec (.closeRecord tm tag r) s = .next u ∧ s.onlyReplies u 0x95 tag .noSuch []) ∧
      ∃ u, exec (.collectRecord tm tag r) s = .next u ∧ s.onlyReplies u 0x96 tag .noSuch [])

/-- An occupation of a RUNNING track by TRACK_RELAY_DROP goes to the oldest followed record that reaches the track
(R147, R150): the track joins that record's trail, and no other record changes. A candidate is an open record with a
trail, whose outbound half is absent or at OFFERED, ACCEPTED, ENTERING or CANCELLED (R148), whose head is the track or
has it for a neighbour, and whose head is effectively occupied, whose grace runs, or which is lost. With no candidate
it takes the oldest record at ENTERING of a section entered there to ARRIVED (R151), else begins the trail of the
record at its starting berth (R152), and else it is unexpected (R153): no record changes, a TRACK notice is sent and
UNEXPECTED_OCCUPATION is raised. That the notices of other units come after is the MODEL'S CHOICE (log 13). That an
arrival leaves a running grace running is the model's reading (DEDUCED log 23). -/
def Obligations.OccupationGoesToTheOldestCandidate : Prop :=
  (∀ (s : State) (t : Nat),
     (∀ r others, s.register.opened.filter (s.candidate t) = r :: others → isRecord r = true →
       (s.attribute t).record r = { (s.record r).append t with
         grace := none
         ambiguous := (s.record r).ambiguous || !others.isEmpty } ∧
       ((s.attribute t).record r).head = some t ∧
       (∀ q, q ≠ r → (s.attribute t).record q = s.record q) ∧ Outside [.register, .emitted] s (s.attribute t)) ∧
     (s.register.opened.filter (s.candidate t) = [] → s.arriving t = none → s.berthing t = none →
       Outside [.alerts, .sounder, .emitted] s (s.attribute t) ∧
       (s.panel.alerts.length < 16 →
         ∃ a ∈ (s.attribute t).panel.alerts, a.kind = .unexpectedOccupation ∧ a.object = t ∧ a.acked = false))) ∧
  ∀ (s : State) (tm : Time) (t : Nat), s.working → isTrack t = true → (s.conf.track t).kind = .running →
    s.relayPicked t = true → (s.track t).filter = .clear →
    ∃ u, exec (.trackRelayDrop tm t) s = .next u ∧ (u.track t).filter = .occupied ∧
      (∀ older r younger, s.register.opened = older ++ r :: younger → s.candidateFor t r →
        (∀ q ∈ older, ¬ s.candidateFor t q) →
        ∀ several : Bool, (several = true ↔ ∃ q ∈ younger, s.candidateFor t q) →
        s.rewrites u r { (s.record r).extended t with
          grace := none
          ambiguous := (s.record r).ambiguous || several }) ∧
      ((∀ q ∈ s.register.opened, ¬ s.candidateFor t q) →
        (∀ r, Oldest (s.entersAt t) s.register.opened r → s.rewrites u r { (s.record r).extended t with
          inbound := (s.record r).inbound.map fun h => { h with stage := .atTrack, atTrackAt := some s.stamp }
          unset := (s.record r).unset || s.control.clock.unset }) ∧
        ((∀ q ∈ s.register.opened, ¬ s.entersAt t q) →
          (∀ r, Oldest (s.berthsAt t) s.register.opened r → s.rewrites u r ((s.record r).extended t)) ∧
          ((∀ q ∈ s.register.opened, ¬ s.berthsAt t q) → u.register = s.register ∧
            (s.panel.alerts.length ≤ 9 →
              u.hasAlert .unexpectedOccupation t (if s.control.box = .opened then 7 else 3))))) ∧
      ∀ v, v = s.putTrack t { s.track t with filter := .occupied } →
        (∀ r others, v.register.opened.filter (v.candidate t) = r :: others →
          s.rewrites u r { (s.record r).append t with
            grace := none
            ambiguous := (s.record r).ambiguous || !others.isEmpty }) ∧
        (v.register.opened.filter (v.candidate t) = [] →
          (∀ r, s.arriving t = some r → s.rewrites u r { (s.record r).append t with
            inbound := (s.record r).inbound.map fun h => { h with stage := .atTrack, atTrackAt := some s.stamp }
            unset := (s.record r).unset || s.control.clock.unset }) ∧
          (s.arriving t = none → ∀ r, s.berthing t = some r → s.rewrites u r ((s.record r).append t)) ∧
          (s.arriving t = none → s.berthing t = none →
            u.register = s.register ∧
            (s.panel.alerts.length ≤ 9 →
              ∃ a ∈ u.panel.alerts, a.kind = .unexpectedOccupation ∧ a.object = t ∧ a.acked = false ∧
                a.priority = (if s.control.box = .opened then 7 else 3)) ∧
            ((s.track t).marked = true → s.announcesFirst u [(.trackUnexpected, t)]) ∧
            (s.holds = [] → s.sends .track = true → s.link.outbox.length + 26 ≤ 32 →
              ∃ k ∈ u.link.outbox, k.event = .trackUnexpected ∧ k.object = t)))

/-- The head of a followed record becomes effectively clear (R154 to R157): the train has departed where its outbound
half is at ENTERING on the offering section that ends there and the repeater reads TOL; else it has set back where the
entry before the head is effectively occupied; else its head grace starts, one that runs being kept. A running grace
that the head's set-back leaves running is the model's reading (DEDUCED log 23). No other record changes. A repeater
transition into TOL departs every followed record at ENTERING on its section whose head is the exit track, effectively
clear (R158). -/
def Obligations.HeadClearingDepartsSetsBackOrGraces : Prop :=
  (∀ (s : State) (tm : Time) (t r : Nat) (c : Instr), s.becomesClearBy tm t c → s.RegisterWhole →
     ∃ u, exec c s = .next u ∧ u.register.opened = s.register.opened ∧
       (¬ (s.followed r = true ∧ (s.record r).head = some t) → u.record r = s.record r) ∧
       (s.followed r = true → (s.record r).head = some t →
         (s.departs r t → u.record r = s.departed (s.record r)) ∧
         (¬ s.departs r t → ∀ p, (s.record r).beforeHead = some p → p ≠ t → s.clear p = false →
           u.record r = { s.record r with
             trail := (if 16 ≤ (s.record r).trail.length then (s.record r).trail.tail else (s.record r).trail) ++ [p]
             truncated := (s.record r).truncated || decide (16 ≤ (s.record r).trail.length) }) ∧
         (¬ s.departs r t →
           (s.record r).beforeHead = none ∨ (∃ p, (s.record r).beforeHead = some p ∧ s.clear p = true) →
           u.record r = { s.record r with
             grace := some ((s.record r).grace.getD (max s.now tm + (s.conf.track t).grace)) }))) ∧
  ∀ (s : State) (tm e : Time) (x r : Nat), s.working → isSection x = true → (s.conf.sec x).role = .offering →
    s.RegisterWhole → (s.sec x).off.timer = some e → e ≤ max s.now tm → s.rawReading x = .tol →
    (s.sec x).off.repeater ≠ .tol →
    ∃ u, exec (.stabilityTimerExpiry tm x) s = .next u ∧ u.register.opened = s.register.opened ∧
      ((∃ h, (s.record r).outbound = some h ∧ h.sec = x ∧ h.stage = .entering) → s.followed r = true →
        (s.record r).head = some (s.conf.sec x).exit → s.clear (s.conf.sec x).exit = true →
        u.record r = s.departed (s.record r)) ∧
      (¬ ((∃ h, (s.record r).outbound = some h ∧ h.sec = x ∧ h.stage = .entering) ∧ s.followed r = true ∧
          (s.record r).head = some (s.conf.sec x).exit ∧ s.clear (s.conf.sec x).exit = true) →
        u.record r = s.record r)

/-! ### Switching the box out and in -/

/-- SWITCH_OUT (R165, R166). With its eight conditions the box is SWITCHED_OUT under set B with the through relay on,
the accepting sections of the pair are in THROUGH, and the lines of the pair owe and await nothing. The first
condition that fails, in the order of the table of R165, gives CONDITIONS with its number and its object: the lowest
failing section, the oldest open record, the lowest signal with a hold, the lowest failing lever or line (the bytes
are log 15). A box that is out already and a part in HELD with configuration invalid give REFUSED_STATE. -/
def Obligations.SwitchOutTakesTheBoxOut : Prop :=
  (∀ (s : State) (tm : Time) (tag : Byte), s.ready → s.control.box = .switchedOut ∨ s.control.mode = .held .invalid →
    ∃ u, exec (.switchOut tm tag) s = .next u ∧ s.onlyReplies u 0x97 tag .refusedState []) ∧
  (∀ (s : State) (tm : Time) (tag : Byte) (k : Nat) (o : CondObject), s.ready → s.HoldsKept → s.control.box = .opened →
    s.control.mode ≠ .held .invalid → s.refusesSwitchOut (max s.now tm) k o →
    (∀ j < k, ∀ p, ¬ s.refusesSwitchOut (max s.now tm) j p) →
    ∃ u, exec (.switchOut tm tag) s = .next u ∧ s.onlyReplies u 0x97 tag .conditions (b1 k ++ bObject o)) ∧
  ∀ (s : State) (tm : Time) (tag : Byte), s.ready → s.control.box = .opened →
    (s.conf.switchOut.may = true → s.control.mode = .running →
      (∀ x ∈ Tab.numbers 6, (s.conf.sec x).role = .accepting → s.inPair (s.conf.sec x).line = true →
        (s.sec x).acc.state = .lb) →
      (∀ x ∈ Tab.numbers 6, (s.conf.sec x).role = .offering → s.inPair (s.conf.sec x).line = true →
        (s.sec x).off.repeater = .lb) →
      s.register.opened = [] → s.holds = [] → (∀ n ∈ Tab.numbers 24, ¬ s.outOfPlace n) →
      (∀ l ∈ Tab.numbers 3, s.inPair l = true → (s.bell l).send = none ∧ (s.bell l).man.phase = .idle ∧
        (s.bell l).plunger = .off ∧
        ∃ x, (s.bell l).exchange = some x ∧ ∃ k, x.code.entry = some (k, .switchOutNotice) ∧
          max s.now tm ≤ x.at_ + 120000) →
      ∃ u, exec (.switchOut tm tag) s = .next u ∧ u.replies 0x97 tag .ok [] ∧ u.control.box = .switchedOut ∧
        u.set = .b ∧ u.control.relayOn = true ∧ u.control.through = none ∧
        (∀ x ∈ Tab.numbers 6, u.sec x =
          (if (s.conf.sec x).role = .accepting ∧ s.inPair (s.conf.sec x).line = true
            then { s.sec x with acc := { (s.sec x).acc with state := .through, disagreement := false } }
            else s.sec x)) ∧
        (∀ l ∈ Tab.numbers 3, u.bell l =
          (if s.inPair l then { s.bell l with outstanding := none, owed := none, ignored := 0 } else s.bell l)) ∧
        ChangesOnly [.box, .set, .sections, .bells, .levers, .holds, .choices, .slot] s u)

/-- SWITCH_IN (R171). With its three conditions the box is OPEN under set A with the through relay off, and the
accepting sections of the pair go from THROUGH to LB and are compared with their switches. The first condition that
fails, in the order of the table of R171, gives CONDITIONS with its number and its object: the lowest failing offering
section, lever or line (the bytes are log 15). An OPEN box and a part in HELD with configuration invalid give
REFUSED_STATE. -/
def Obligations.SwitchInBringsTheBoxIn : Prop :=
  (∀ (s : State) (tm : Time) (tag : Byte), s.ready → s.control.box = .opened ∨ s.control.mode = .held .invalid →
    ∃ u, exec (.switchIn tm tag) s = .next u ∧ s.onlyReplies u 0x98 tag .refusedState []) ∧
  (∀ (s : State) (tm : Time) (tag : Byte) (k : Nat) (o : CondObject), s.ready → s.control.box = .switchedOut →
    s.control.mode ≠ .held .invalid → s.refusesSwitchIn (max s.now tm) k o →
    (∀ j < k, ∀ p, ¬ s.refusesSwitchIn (max s.now tm) j p) →
    ∃ u, exec (.switchIn tm tag) s = .next u ∧ s.onlyReplies u 0x98 tag .conditions (b1 k ++ bObject o)) ∧
  ∀ (s : State) (tm : Time) (tag : Byte), s.ready → s.control.box = .switchedOut → s.control.mode ≠ .held .invalid →
    ((∀ x ∈ Tab.numbers 6, (s.conf.sec x).role = .offering → s.inPair (s.conf.sec x).line = true →
        (s.sec x).off.repeater = .lb ∧ s.blockLine x = .negative) →
      (∀ n ∈ Tab.numbers 24, ¬ s.outOfPlace n) →
      (∀ l ∈ Tab.numbers 3, s.inPair l = true →
        ∃ x, (s.bell l).exchange = some x ∧ ∃ k, x.code.entry = some (k, .switchInNotice) ∧
          max s.now tm ≤ x.at_ + 120000) →
      ∃ u, exec (.switchIn tm tag) s = .next u ∧ u.replies 0x98 tag .ok [] ∧ u.control.box = .opened ∧ u.set = .a ∧
        u.control.relayOn = false ∧ u.control.through = none ∧
        (∀ x ∈ Tab.numbers 6, u.sec x =
          (if (s.conf.sec x).role = .accepting ∧ s.inPair (s.conf.sec x).line = true
            then { s.sec x with
              acc := { (s.sec x).acc with
                state := .lb
                assumed := false
                unregistered := false
                disagreement := decide ((s.sec x).acc.switch ≠ .lb) } }
            else s.sec x)) ∧
        (∀ l ∈ Tab.numbers 3, u.bell l = (if s.inPair l then { s.bell l with relay := none } else s.bell l)) ∧
        ChangesOnly [.box, .set, .sections, .bells, .levers, .holds, .choices, .slot] s u)

/-! ### Panel -/

/-- The panel (R174, R175, R178, R179, R180): the flasher turns each 500 ms, a pulse and a lamp test end, and the
sounder's pattern goes on to its next part: 500 ms each way at 1 Hz, 200 ms on and 4,800 ms off for a beep. LAMP_TEST
lights all 32 outputs for 5,000 ms; ACK_ALERTS makes every alert entry acknowledged and the sounder silent;
CLEAR_ALERTS removes every acknowledged entry. A raise of an alert refreshes the entry for its kind and object, or is
appended, in a full list in the place of the entry of lowest priority that R178 names, if it is not itself the lowest;
its ALERT notices are sent, and the sounder plays what the list then asks, begun again by an entry at or above the
threshold (R179): so at the expiries of a travel timer (R37), a repetition deadline (R123), an owed reminder (R124)
and a ready window (R63), at a track that reaches its flicker limit (R8) and at a forced movement (R25), each with its
notices in the order of its rule (where notices of other units follow, that they do is the MODEL'S CHOICE, log 13).
Outside a lamp test an output is lit exactly where its source is true under its polarity, and for FLASH in the lit
half of the flasher; it is dark with no source, in the start interval and in HELD with configuration invalid (R173,
R176). -/
def Obligations.PanelTimersAndRequests : Prop :=
  (∀ (s : State) (tm : Time), s.between →
     (∀ lit e, s.panel.flasher = some ⟨lit, e⟩ → e ≤ max s.now tm →
       ∃ u, exec (.flasherHalf tm) s = .next u ∧ u.panel.flasher = some ⟨!lit, e + 500⟩ ∧
         ChangesOnly [.flasher] s u) ∧
     (∀ i e, isIndication i = true → s.pulse i = some e → e ≤ max s.now tm →
       ∃ u, exec (.pulseTimerExpiry tm i) s = .next u ∧ u.panel.pulses = s.panel.pulses.put i none ∧
         ChangesOnly [.pulses] s u) ∧
     (∀ e, s.panel.lampTest = some e → e ≤ max s.now tm →
       ∃ u, exec (.lampTestTimerExpiry tm) s = .next u ∧ u.panel.lampTest = none ∧
         ChangesOnly [.lampTest] s u) ∧
     (∀ p on e, s.panel.sounder = ⟨p, on, some e⟩ → e ≤ max s.now tm →
       ∃ u, exec (.sounderPatternTimer tm) s = .next u ∧
         u.panel.sounder = ⟨p, !on, match p with
           | .oneHz => some (e + 500)
           | .beep => some (if on then e + 4800 else e + 200)
           | _ => none⟩ ∧
         ChangesOnly [.sounder] s u)) ∧
  (∀ (s : State) (tm : Time) (tag : Byte), s.ready →
     (∃ u, exec (.lampTest tm tag) s = .next u ∧ u.replies 0x99 tag .ok [] ∧
       u.panel.lampTest = some (max s.now tm + 5000) ∧ (∀ i, u.lampOutput i = true) ∧
       ChangesOnly [.lampTest, .slot] s u) ∧
     (∃ u, exec (.ackAlerts tm tag) s = .next u ∧
       u.replies 0x9A tag .ok (b1 (s.panel.alerts.filter fun a => !a.acked).length) ∧
       u.panel.alerts = (s.panel.alerts.map fun a => { a with acked := true }) ∧
       u.panel.sounder.pattern = .silent ∧ s.announces u [(.alertAcknowledged, 0)] ∧
       ChangesOnly [.alerts, .sounder, .slot] s u) ∧
     ∃ u, exec (.clearAlerts tm tag) s = .next u ∧
       u.replies 0x9B tag .ok (b1 (s.panel.alerts.filter (·.acked)).length) ∧
       u.panel.alerts = (s.panel.alerts.filter fun a => !a.acked) ∧ s.announces u [(.alertCleared, 0)] ∧
       ChangesOnly [.alerts, .sounder, .slot] s u) ∧
  (∀ (s : State) (tm : Time) (n : Nat), s.started → s.AlertsKept → s.SounderKept →
     (∀ e, isLever n = true → (s.lever n).phase = .travel → (s.lever n).timer = .running e → e ≤ max s.now tm →
       ∃ u ns, exec (.travelTimerExpiry tm n) s = .next u ∧
         s.raises u (max s.now tm) (s.newAlert .travelOverdue n 6) ns ∧ s.announces u ((.leverOverdue, n) :: ns)) ∧
     (∀ o, isLine n = true → (s.bell n).outstanding = some o → o.deadline ≤ max s.now tm →
       ∃ u ns, exec (.repetitionDeadlineExpiry tm n) s = .next u ∧
         s.raises u (max s.now tm) (s.newAlert .noRepetition n 9) ns ∧ s.announces u ((.repNoRepetition, n) :: ns)) ∧
     (∀ o, isLine n = true → (s.bell n).owed = some o → o.expired = false → o.reminder ≤ max s.now tm →
       ∃ u ns, exec (.owedReminderExpiry tm n) s = .next u ∧
         s.raises u (max s.now tm) (s.newAlert .repeatOwed n 8) ns ∧
         s.announces u (ns ++ [(.repRepetitionOwed, n)])) ∧
     (∀ h e, s.hold? n = some h → h.state = .ready → h.timer = some e → e ≤ max s.now tm →
       ∃ u ns, exec (.readyWindowLapse tm n) s = .next u ∧
         s.raises u (max s.now tm) (s.newAlert .releaseLapsed n 4) ns ∧
         s.announcesFirst u (ns ++ [(.holdLapsed, n)])) ∧
     (∀ k, s.live = true → isTrack n = true → s.conf.fitted n = true → s.relayPicked n = true →
       (s.track n).filter = .picking → (s.conf.track n).flicker = .limit k → (s.track n).flickers + 1 = 2 ^ k →
       ∃ u ns, exec (.trackRelayDrop tm n) s = .next u ∧
         s.raises u (max s.now tm) (s.newAlert .trackFailed n 11) ns ∧ s.announces u ((.trackFailed, n) :: ns)) ∧
     ∀ side, isLever n = true → s.leverInputs n ≠ (s.leverInputs n).setSide side false →
       (s.lever n).phase = .normal ∨ (s.lever n).phase = .normalCatch ∨ (s.lever n).phase = .reverse ∨
         (s.lever n).phase = .reverseCatch →
       ∃ u ns, exec (.detectorOpen tm n side) s = .next u ∧
         s.raises u (max s.now tm) (s.newAlert .leverForced n 15) ns ∧
         s.announcesFirst u (ns ++ [(.leverForced, n)])) ∧
  ∀ (s : State) (i : Nat), isIndication i = true →
    (s.panel.lampTest = none → s.lampOutput i = s.litValue i) ∧ (s.live = false → s.litValue i = false) ∧
    (s.live = true →
      (s.litValue i = true ↔ (s.conf.indication i).source ≠ .none ∧
        (s.shows i ↔ (s.conf.indication i).litWhenFalse = false) ∧
        ((s.conf.indication i).display = .flash → ∀ f, s.panel.flasher = some f → f.lit = true)))

/-! ### Serial link -/

/-- Events of the link (R184, R186, R187, R188, R192): the technician key is read; the start byte begins a frame and a
byte with a framing error ends it, each such byte counted also where it comes too late; a frame that stalls for more
than 50 ms is abandoned and counted, by the timeout or by the late byte itself, which is discarded with the frame and
with a framing error is counted in both counts (the model's reading, DEDUCED log 24); a sent reply empties its slot,
and the first waiting request is then taken in the same event, before the next frame is chosen, unless a reset or a
store write is to come (R190); a sent notice leaves the outbox; a request that finds the slot filled joins the queue
of 4, or is discarded and counted when the queue is full; and a notice of an enabled kind that finds the outbox full
is lost and counted. -/
def Obligations.LinkEvents : Prop :=
  ∀ (s : State) (tm : Time) (tag : Byte) (reply : Reply), s.started →
    (∀ on, s.inputs.key ≠ on →
      ∃ u, exec (.technicianKeyChange tm on) s = .next u ∧ u.inputs = { s.inputs with key := on } ∧
        ChangesOnly [.inputs] s u) ∧
    (s.link.asm.state = .hunt →
      ∃ u, exec (.byteReceived tm 0x5A false) s = .next u ∧ u.link.asm = ⟨.length, [], max s.now tm⟩ ∧
        ChangesOnly [.assembler] s u) ∧
    (∀ b, s.link.asm.state = .hunt ∨ max s.now tm ≤ s.link.asm.lastAt + 50 →
      ∃ u, exec (.byteReceived tm b true) s = .next u ∧ u.link.asm.state = .hunt ∧ u.link.asm.bytes = [] ∧
        u.link.linkErrors = satAdd 65535 s.link.linkErrors ∧ u.link.abandoned = s.link.abandoned ∧
        u.link.discarded = s.link.discarded ∧ ChangesOnly [.assembler, .linkCounts] s u) ∧
    (∀ b framingError, s.link.asm.state ≠ .hunt → s.link.asm.lastAt + 50 < max s.now tm →
      ∃ u, exec (.byteReceived tm b framingError) s = .next u ∧ u.link.asm.state = .hunt ∧ u.link.asm.bytes = [] ∧
        u.link.abandoned = satAdd 65535 s.link.abandoned ∧ u.link.discarded = s.link.discarded ∧
        u.link.linkErrors = (if framingError then satAdd 65535 s.link.linkErrors else s.link.linkErrors) ∧
        ChangesOnly [.assembler, .linkCounts] s u) ∧
    (∀ t, s.live = true → isTrack t = true → s.conf.fitted t = true → s.relayPicked t = true →
      (s.track t).filter = .picking → (s.conf.track t).flicker = .each → 32 ≤ s.link.outbox.length →
      ∃ u, exec (.trackRelayDrop tm t) s = .next u ∧ u.link.outbox = s.link.outbox ∧
        u.link.lost = (if s.sends .track then satAdd 65535 s.link.lost else s.link.lost) ∧
        u.link.lostSinceStatus =
          (if s.sends .track then satAdd 65535 s.link.lostSinceStatus else s.link.lostSinceStatus) ∧
        ChangesOnly [.inputs, .tracks] s u) ∧
    (s.link.asm.state ≠ .hunt → s.link.asm.lastAt + 50 < max s.now tm →
      ∃ u, exec (.frameGapTimeout tm) s = .next u ∧ u.link.asm.state = .hunt ∧ u.link.asm.bytes = [] ∧
        u.link.abandoned = satAdd 65535 s.link.abandoned ∧ u.link.linkErrors = s.link.linkErrors ∧
        ChangesOnly [.assembler, .linkCounts] s u) ∧
    (s.link.tx = .reply → s.link.queue = [] ∨ s.control.after ≠ none ∨ s.control.writing = true →
      ∃ u, exec (.frameSent tm) s = .next u ∧ u.link.slot = none ∧ u.link.outbox = s.link.outbox ∧
        u.link.tx = (if s.link.outbox = [] then .idle else .notice) ∧ ChangesOnly [.slot] s u) ∧
    (s.link.tx = .reply → s.control.after = none → s.control.writing = false → ∀ q rest, s.link.queue = q :: rest →
      ∃ u, exec (.frameSent tm) s = .next u ∧ u.link.queue = rest ∧ u.link.tx = .reply ∧
        (∃ result body, u.replies q.request.replyKind q.tag result body) ∧
        (q.request = .status → u.replies 0x81 q.tag .ok (s.advance tm).statusBytes ∧ u.link.outbox = s.link.outbox ∧
          u.link.lost = s.link.lost ∧ u.link.lostSinceStatus = 0 ∧ ChangesOnly [.requests, .slot] s u)) ∧
    (s.link.tx = .notice →
      ∃ u, exec (.frameSent tm) s = .next u ∧ u.link.outbox = s.link.outbox.tail ∧
        u.link.tx = (if s.link.slot.isSome then .reply else if s.link.outbox.tail = [] then .idle else .notice) ∧
        ChangesOnly [] s u) ∧
    (s.link.slot = some reply →
      (s.link.queue.length < 4 →
        ∃ u, exec (.status tm tag) s = .next u ∧ u.link.queue = s.link.queue ++ [⟨tag, .status⟩] ∧
          ChangesOnly [.requests] s u) ∧
      (4 ≤ s.link.queue.length →
        ∃ u, exec (.status tm tag) s = .next u ∧ u.link.discarded = satAdd 65535 s.link.discarded ∧
          u.link.linkErrors = s.link.linkErrors ∧ u.link.abandoned = s.link.abandoned ∧
          ChangesOnly [.linkCounts] s u))

/-- A frame of a kind that is no request kind gets BAD_REQUEST in a reply of kind FFh, and a Technician request
without the key gets NOT_PERMITTED (R185, R188). So does one whose body has a wrong length, or a presence byte that
does not fit it; with its privilege met such a request gets BAD_REQUEST (that its frame is this request is O59), and
so does every request with a field out of its range. The Observer requests read (R189, R190): each is answered OK with
its body. None of them has another effect, and none sends a notice, but STATUS begins its count of lost notices again.
The bytes of each body are the model's layout (log 15). -/
def Obligations.RefusalsAndReadsChangeNothing : Prop :=
  (∀ (s : State) (tm : Time) (tag : Byte), s.ready →
     (∀ kind, ∃ u, exec (.unknownRequest tm tag kind) s = .next u ∧ s.onlyReplies u 0xFF tag .badRequest []) ∧
     (s.inputs.key = false →
       (∃ u, exec (.hold tm tag) s = .next u ∧ s.onlyReplies u 0xA0 tag .notPermitted []) ∧
       (∃ u, exec (.resume tm tag) s = .next u ∧ s.onlyReplies u 0xA1 tag .notPermitted []) ∧
       (∀ body, ∃ u, exec (.writeConfig tm tag body) s = .next u ∧ s.onlyReplies u 0xA2 tag .notPermitted []) ∧
       (∀ t, ∃ u, exec (.trackRestore tm tag t) s = .next u ∧ s.onlyReplies u 0xA3 tag .notPermitted []) ∧
       (∀ n, ∃ u, exec (.clearSticky tm tag n) s = .next u ∧ s.onlyReplies u 0xA4 tag .notPermitted []) ∧
       ∃ u, exec (.restart tm tag) s = .next u ∧ s.onlyReplies u 0xA5 tag .notPermitted [])) ∧
  (∀ (s : State) (tm : Time) (tag kind : Byte) (body : List Byte), s.ready → isRequestKind kind = true → kind ≠ 0x22 →
     body.length ∉ bodyLengths kind ∨ kind = 0x10 ∧ body.length = 3 ∧ body[2]? ≠ some 0 ∨
       kind = 0x10 ∧ body.length = 4 ∧ body[2]? ≠ some 1 →
     (kind.toNat < 0x20 ∨ s.inputs.key = true →
       s.onlyReplies (State.request tm tag (Request.parse kind body) s) (kind + 0x80) tag .badRequest []) ∧
     (0x20 ≤ kind.toNat → s.inputs.key = false →
       s.onlyReplies (State.request tm tag (Request.parse kind body) s) (kind + 0x80) tag .notPermitted [])) ∧
  (∀ (s : State) (tm : Time) (tag a b : Byte) (r : Option Byte), s.ready →
     (isLever a.toNat = false →
       (∃ u, exec (.readLevers tm tag a) s = .next u ∧ s.onlyReplies u 0x82 tag .badRequest []) ∧
       (∃ u, exec (.readHolds tm tag a) s = .next u ∧ s.onlyReplies u 0x85 tag .badRequest []) ∧
       (∃ u, exec (.timeReleaseStart tm tag a) s = .next u ∧ s.onlyReplies u 0x91 tag .badRequest []) ∧
       (∃ u, exec (.timeReleaseConfirm tm tag a) s = .next u ∧ s.onlyReplies u 0x92 tag .badRequest []) ∧
       ∃ u, exec (.timeReleaseCancel tm tag a) s = .next u ∧ s.onlyReplies u 0x93 tag .badRequest []) ∧
     (isTrack a.toNat = false →
       (∃ u, exec (.readTracks tm tag a) s = .next u ∧ s.onlyReplies u 0x83 tag .badRequest []) ∧
       (s.inputs.key = true →
         ∃ u, exec (.trackRestore tm tag a) s = .next u ∧ s.onlyReplies u 0xA3 tag .badRequest [])) ∧
     (isSection a.toNat = false →
       (∃ u, exec (.readSections tm tag a) s = .next u ∧ s.onlyReplies u 0x84 tag .badRequest []) ∧
       ∃ u, exec (.sectionRestore tm tag a) s = .next u ∧ s.onlyReplies u 0x94 tag .badRequest []) ∧
     (isLine a.toNat = false →
       ∃ u, exec (.readLines tm tag a) s = .next u ∧ s.onlyReplies u 0x86 tag .badRequest []) ∧
     (isLine a.toNat = false ∨ isIndication b.toNat = false ∨ (∃ k, r = some k ∧ isRecord k.toNat = false) →
       ∃ u, exec (.sendBell tm tag a b r) s = .next u ∧ s.onlyReplies u 0x90 tag .badRequest []) ∧
     (2 < a.toNat →
       ∃ u, exec (.listRecords tm tag a) s = .next u ∧ s.onlyReplies u 0x87 tag .badRequest []) ∧
     (isRecord a.toNat = false →
       (∃ u, exec (.readRecord tm tag a) s = .next u ∧ s.onlyReplies u 0x88 tag .badRequest []) ∧
       (∃ u, exec (.closeRecord tm tag a) s = .next u ∧ s.onlyReplies u 0x95 tag .badRequest []) ∧
       ∃ u, exec (.collectRecord tm tag a) s = .next u ∧ s.onlyReplies u 0x96 tag .badRequest []) ∧
     (a.toNat = 0 ∨ 16 < a.toNat →
       ∃ u, exec (.readAlerts tm tag a) s = .next u ∧ s.onlyReplies u 0x89 tag .badRequest []) ∧
     (itemExists a.toNat b.toNat = false →
       ∃ u, exec (.readConfig tm tag a b) s = .next u ∧ s.onlyReplies u 0x8A tag .badRequest []) ∧
     (a.toNat = 0 ∨ 69 < a.toNat →
       ∃ u, exec (.readCounters tm tag a) s = .next u ∧ s.onlyReplies u 0x8B tag .badRequest []) ∧
     (24 < a.toNat → s.inputs.key = true →
       ∃ u, exec (.clearSticky tm tag a) s = .next u ∧ s.onlyReplies u 0xA4 tag .badRequest [])) ∧
  ∀ (s : State) (tm : Time) (tag a b : Byte), s.ready →
    (∃ u, exec (.status tm tag) s = .next u ∧ s.onlyReplies u 0x81 tag .ok (s.advance tm).statusBytes ∧
      u.link.lostSinceStatus = 0) ∧
    (isLever a.toNat = true →
      (∃ u, exec (.readLevers tm tag a) s = .next u ∧
        s.onlyReplies u 0x82 tag .ok (pageBody (entriesFrom 24 a.toNat (s.advance tm).leverEntry) [])) ∧
      ∃ u, exec (.readHolds tm tag a) s = .next u ∧
        s.onlyReplies u 0x85 tag .ok (pageBody ((s.holds.filter (a.toNat ≤ ·.signal)).map fun h =>
          (h.signal, (s.advance tm).holdEntry h)) [])) ∧
    (isTrack a.toNat = true →
      (∃ u, exec (.readTracks tm tag a) s = .next u ∧
        s.onlyReplies u 0x83 tag .ok (pageBody (entriesFrom 16 a.toNat (s.advance tm).trackEntry) [])) ∧
      ∃ u, exec (.readAlerts tm tag a) s = .next u ∧
        s.onlyReplies u 0x89 tag .ok (pageBody ((s.advance tm).alertEntries a.toNat)
          (if a.toNat = 1 then (s.advance tm).alertExtras else []))) ∧
    (isSection a.toNat = true →
      ∃ u, exec (.readSections tm tag a) s = .next u ∧
        s.onlyReplies u 0x84 tag .ok (pageBody (entriesFrom 6 a.toNat (s.advance tm).sectionEntry) [])) ∧
    (isLine a.toNat = true →
      ∃ u, exec (.readLines tm tag a) s = .next u ∧
        s.onlyReplies u 0x86 tag .ok (pageBody (entriesFrom 3 a.toNat (s.advance tm).lineEntry) [])) ∧
    (a.toNat ≤ 2 →
      ∃ u, exec (.listRecords tm tag a) s = .next u ∧ s.onlyReplies u 0x87 tag .ok (s.listBytes a.toNat)) ∧
    (isRecord a.toNat = true →
      (a.toNat ∈ s.register.opened ∨ a.toNat ∈ s.register.completed →
        ∃ u, exec (.readRecord tm tag a) s = .next u ∧ s.onlyReplies u 0x88 tag .ok ((s.advance tm).recordBytes a.toNat)) ∧
      (a.toNat ∉ s.register.opened → a.toNat ∉ s.register.completed →
        ∃ u, exec (.readRecord tm tag a) s = .next u ∧ s.onlyReplies u 0x88 tag .noSuch [])) ∧
    (itemExists a.toNat b.toNat = true →
      ∃ u, exec (.readConfig tm tag a b) s = .next u ∧ s.onlyReplies u 0x8A tag .ok (itemBytes s.conf a.toNat b.toNat)) ∧
    (1 ≤ a.toNat → a.toNat ≤ 69 →
      ∃ u, exec (.readCounters tm tag a) s = .next u ∧
        s.onlyReplies u 0x8B tag .ok (pageBody (entriesFrom 69 a.toNat s.counterEntry) []))

/-- A frame read byte by byte is the request that its kind and body spell (R183, R184): from the start byte, through
the length, the kind, the tag, the body and the check, one byte at a time, the part ends in the state that the
request's arrival leaves, but for the assembler; so for a transmitter that is sending, and for one that rests because
it has nothing to send (R187). A request written as a frame body is read back as itself (R190), in the model's layout
of the fields (log 15): no field of any request is dropped. -/
def Obligations.FramesSpellTheirRequests : Prop :=
  (∀ (s : State) (tm : Time) (kind tag : Byte) (body : List Byte), s.started → s.now ≤ tm → body.length ≤ 240 →
     s.link.asm.state = .hunt → (s.link.tx = .idle → s.link.slot = none ∧ s.link.outbox = []) →
     (frameBytes kind tag body).foldl
         (fun (o : Host.Outcome State Fault Refusal) (b : Byte) => match o with
           | .next v => exec (.byteReceived tm b false) v
           | other => other) (.next s) =
       .next (State.request tm tag (Request.parse kind body)
         (s.putLink { s.link with asm := { state := .hunt, bytes := [], lastAt := tm } }))) ∧
  ∀ r : Request, (∀ k, r ≠ .unknown k ∧ r ≠ .malformed k) → Request.parse r.kind r.body = r

/-- A configuration item that WRITE_CONFIG takes is read back as it was written, and no other item of the
configuration changes (R190, R194, R198). Of every item that the part can hold, what READ_CONFIG returns WRITE_CONFIG
takes, and it changes nothing: so it is of the default configuration, and every step keeps it so for the items in
force and for the working copy. The bytes of an item are the model's (log 16). -/
def Obligations.ConfigItemsReadBack : Prop :=
  (∀ (w w' : Conf) (cls index : Byte) (fields : List Byte), writeBody w (cls :: index :: fields) = some w' →
     itemExists cls.toNat index.toNat = true ∧ fields = itemBytes w' cls.toNat index.toNat ∧
     (∀ cls' index', itemExists cls' index' = true → (cls', index') ≠ (cls.toNat, index.toNat) →
       itemBytes w' cls' index' = itemBytes w cls' index') ∧
     writeBody w (cls :: index :: itemBytes w' cls.toNat index.toNat) = some w' ∧ (Rereads w → Rereads w')) ∧
  Rereads {} ∧
  ∀ s u : State, Rereads s.store.inForce → Rereads s.store.working → step s = .next u →
    Rereads u.store.inForce ∧ Rereads u.store.working
end

