-- ==== Sys2Proof/Laws/Tab.lean ====
section
/-! SUPPORT. Reading and replacing in tables numbered from 1. -/

namespace Sys2Proof

namespace Tab

variable {n : Nat} {α β : Type}

/-- The numbers that name something. -/
@[simp] theorem mem_numbers {k : Nat} : k ∈ numbers n ↔ 1 ≤ k ∧ k ≤ n := by
  simp only [numbers, List.mem_map, List.mem_range]
  constructor
  · rintro ⟨a, h, rfl⟩; omega
  · intro h; exact ⟨k - 1, by omega, by omega⟩

/-- A number in range reads its element. -/
theorem get_eq (t : Tab n α) (d : α) (k : Nat) (h : k < n) : t.get d (k + 1) = Vector.get t ⟨k, h⟩ := by
  simp [get, Vector.get, h]

/-- A number out of range reads the default. -/
theorem get_out (t : Tab n α) (d : α) {k : Nat} (h : ¬ (1 ≤ k ∧ k ≤ n)) : t.get d k = d := by
  cases k with
  | zero => rfl
  | succ k => simp only [get]; rw [List.getElem?_eq_none (by simp; omega)]; rfl

/-- What is put at a number is read there; every other number reads as before. -/
theorem get_put (t : Tab n α) (d : α) (k j : Nat) (a : α) :
    (t.put k a).get d j = if j = k ∧ 1 ≤ k ∧ k ≤ n then a else t.get d j := by
  cases k with
  | zero => simp [put]
  | succ k =>
    by_cases hk : k < n
    · simp only [put, hk, dif_pos]
      cases j with
      | zero => simp [get]
      | succ j =>
        simp only [get, Vector.toList_set, List.getElem?_set, Nat.add_right_cancel_iff]
        by_cases hj : k = j
        · subst hj; simp [hk]
        · simp only [hj, Ne.symm hj]; simp
    · have h2 : ¬ k + 1 ≤ n := by omega
      simp [put, hk, h2]

/-- What is put at a number is read there. -/
@[simp] theorem get_put_self (t : Tab n α) (d : α) {k : Nat} (a : α) (h1 : 1 ≤ k) (h2 : k ≤ n) :
    (t.put k a).get d k = a := by simp [get_put, h1, h2]

/-- Another number reads as before. -/
@[simp] theorem get_put_ne (t : Tab n α) (d : α) {k j : Nat} (a : α) (h : j ≠ k) :
    (t.put k a).get d j = t.get d j := by simp [get_put, h]

/-- A number out of range changes nothing. -/
theorem put_out (t : Tab n α) {k : Nat} (a : α) (h : ¬ (1 ≤ k ∧ k ≤ n)) : t.put k a = t := by
  cases k with
  | zero => rfl
  | succ k => simp only [put]; rw [dif_neg (by omega)]

/-- The table that holds the default everywhere reads it everywhere. -/
@[simp] theorem get_rep (a : α) (k : Nat) : (rep n a).get a k = a := by
  cases k with
  | zero => rfl
  | succ k => simp only [get, rep, Vector.toList_replicate, List.getElem?_replicate]; split <;> rfl

/-- The default put anywhere changes nothing of the table that holds it everywhere. -/
@[simp] theorem put_rep (a : α) (k : Nat) : (rep n a).put k a = rep n a := by
  cases k with
  | zero => rfl
  | succ k =>
    simp only [put, rep]
    split
    · ext i hi; simp
    · rfl

/-- The table built from a function reads it in range. -/
@[simp] theorem get_build (f : Nat → α) (d : α) {k : Nat} (h1 : 1 ≤ k) (h2 : k ≤ n) : (build n f).get d k = f k := by
  obtain ⟨j, rfl⟩ : ∃ j, k = j + 1 := ⟨k - 1, by omega⟩
  have hj : j < n := by omega
  simp [get, build, Vector.toList, hj]

/-- A function applied to every thing is read at every number, when it keeps the default. -/
@[simp] theorem get_mapAll (f : α → β) (t : Tab n α) (d : α) (k : Nat) :
    (t.mapAll f).get (f d) k = f (t.get d k) := by
  cases k with
  | zero => rfl
  | succ k =>
    simp only [get, mapAll, Vector.toList_mk, List.getElem?_map]
    cases t.toList[k]? <;> rfl

end Tab

end Sys2Proof
end

