-- ==== Sys2Proof/Laws/State.lean ====
section
/-! SUPPORT. What each replacement leaves in each field of a state: one lemma per field per update. -/

namespace Sys2Proof.Machine

variable (s : State)

@[simp] theorem State.putTrack_now (t : Nat) (k : Track) : (s.putTrack t k).now = s.now := rfl
@[simp] theorem State.putTrack_powered (t : Nat) (k : Track) : (s.putTrack t k).powered = s.powered := rfl
@[simp] theorem State.putTrack_inputs (t : Nat) (k : Track) : (s.putTrack t k).inputs = s.inputs := rfl
@[simp] theorem State.putTrack_tracks (t : Nat) (k : Track) : (s.putTrack t k).tracks = s.tracks.put t k := rfl
@[simp] theorem State.putTrack_levers (t : Nat) (k : Track) : (s.putTrack t k).levers = s.levers := rfl
@[simp] theorem State.putTrack_set (t : Nat) (k : Track) : (s.putTrack t k).set = s.set := rfl
@[simp] theorem State.putTrack_holds (t : Nat) (k : Track) : (s.putTrack t k).holds = s.holds := rfl
@[simp] theorem State.putTrack_sections (t : Nat) (k : Track) : (s.putTrack t k).sections = s.sections := rfl
@[simp] theorem State.putTrack_bells (t : Nat) (k : Track) : (s.putTrack t k).bells = s.bells := rfl
@[simp] theorem State.putTrack_register (t : Nat) (k : Track) : (s.putTrack t k).register = s.register := rfl
@[simp] theorem State.putTrack_panel (t : Nat) (k : Track) : (s.putTrack t k).panel = s.panel := rfl
@[simp] theorem State.putTrack_link (t : Nat) (k : Track) : (s.putTrack t k).link = s.link := rfl
@[simp] theorem State.putTrack_control (t : Nat) (k : Track) : (s.putTrack t k).control = s.control := rfl
@[simp] theorem State.putTrack_store (t : Nat) (k : Track) : (s.putTrack t k).store = s.store := rfl
@[simp] theorem State.putTrack_emitted (t : Nat) (k : Track) : (s.putTrack t k).emitted = s.emitted := rfl
@[simp] theorem State.putTrack_choices (t : Nat) (k : Track) : (s.putTrack t k).choices = s.choices := rfl
@[simp] theorem State.putTrack_pending (t : Nat) (k : Track) : (s.putTrack t k).pending = s.pending := rfl

@[simp] theorem State.putLever_now (n : Nat) (l : Lever) : (s.putLever n l).now = s.now := rfl
@[simp] theorem State.putLever_powered (n : Nat) (l : Lever) : (s.putLever n l).powered = s.powered := rfl
@[simp] theorem State.putLever_inputs (n : Nat) (l : Lever) : (s.putLever n l).inputs = s.inputs := rfl
@[simp] theorem State.putLever_tracks (n : Nat) (l : Lever) : (s.putLever n l).tracks = s.tracks := rfl
@[simp] theorem State.putLever_levers (n : Nat) (l : Lever) : (s.putLever n l).levers = s.levers.put n l := rfl
@[simp] theorem State.putLever_set (n : Nat) (l : Lever) : (s.putLever n l).set = s.set := rfl
@[simp] theorem State.putLever_holds (n : Nat) (l : Lever) : (s.putLever n l).holds = s.holds := rfl
@[simp] theorem State.putLever_sections (n : Nat) (l : Lever) : (s.putLever n l).sections = s.sections := rfl
@[simp] theorem State.putLever_bells (n : Nat) (l : Lever) : (s.putLever n l).bells = s.bells := rfl
@[simp] theorem State.putLever_register (n : Nat) (l : Lever) : (s.putLever n l).register = s.register := rfl
@[simp] theorem State.putLever_panel (n : Nat) (l : Lever) : (s.putLever n l).panel = s.panel := rfl
@[simp] theorem State.putLever_link (n : Nat) (l : Lever) : (s.putLever n l).link = s.link := rfl
@[simp] theorem State.putLever_control (n : Nat) (l : Lever) : (s.putLever n l).control = s.control := rfl
@[simp] theorem State.putLever_store (n : Nat) (l : Lever) : (s.putLever n l).store = s.store := rfl
@[simp] theorem State.putLever_emitted (n : Nat) (l : Lever) : (s.putLever n l).emitted = s.emitted := rfl
@[simp] theorem State.putLever_choices (n : Nat) (l : Lever) : (s.putLever n l).choices = s.choices := rfl
@[simp] theorem State.putLever_pending (n : Nat) (l : Lever) : (s.putLever n l).pending = s.pending := rfl

@[simp] theorem State.putAcc_now (x : Nat) (a : Accepting) : (s.putAcc x a).now = s.now := rfl
@[simp] theorem State.putAcc_powered (x : Nat) (a : Accepting) : (s.putAcc x a).powered = s.powered := rfl
@[simp] theorem State.putAcc_inputs (x : Nat) (a : Accepting) : (s.putAcc x a).inputs = s.inputs := rfl
@[simp] theorem State.putAcc_tracks (x : Nat) (a : Accepting) : (s.putAcc x a).tracks = s.tracks := rfl
@[simp] theorem State.putAcc_levers (x : Nat) (a : Accepting) : (s.putAcc x a).levers = s.levers := rfl
@[simp] theorem State.putAcc_set (x : Nat) (a : Accepting) : (s.putAcc x a).set = s.set := rfl
@[simp] theorem State.putAcc_holds (x : Nat) (a : Accepting) : (s.putAcc x a).holds = s.holds := rfl
@[simp] theorem State.putAcc_sections (x : Nat) (a : Accepting) : (s.putAcc x a).sections = s.sections.put x { s.sec x with acc := a } := rfl
@[simp] theorem State.putAcc_bells (x : Nat) (a : Accepting) : (s.putAcc x a).bells = s.bells := rfl
@[simp] theorem State.putAcc_register (x : Nat) (a : Accepting) : (s.putAcc x a).register = s.register := rfl
@[simp] theorem State.putAcc_panel (x : Nat) (a : Accepting) : (s.putAcc x a).panel = s.panel := rfl
@[simp] theorem State.putAcc_link (x : Nat) (a : Accepting) : (s.putAcc x a).link = s.link := rfl
@[simp] theorem State.putAcc_control (x : Nat) (a : Accepting) : (s.putAcc x a).control = s.control := rfl
@[simp] theorem State.putAcc_store (x : Nat) (a : Accepting) : (s.putAcc x a).store = s.store := rfl
@[simp] theorem State.putAcc_emitted (x : Nat) (a : Accepting) : (s.putAcc x a).emitted = s.emitted := rfl
@[simp] theorem State.putAcc_choices (x : Nat) (a : Accepting) : (s.putAcc x a).choices = s.choices := rfl
@[simp] theorem State.putAcc_pending (x : Nat) (a : Accepting) : (s.putAcc x a).pending = s.pending := rfl

@[simp] theorem State.putOff_now (x : Nat) (o : Offering) : (s.putOff x o).now = s.now := rfl
@[simp] theorem State.putOff_powered (x : Nat) (o : Offering) : (s.putOff x o).powered = s.powered := rfl
@[simp] theorem State.putOff_inputs (x : Nat) (o : Offering) : (s.putOff x o).inputs = s.inputs := rfl
@[simp] theorem State.putOff_tracks (x : Nat) (o : Offering) : (s.putOff x o).tracks = s.tracks := rfl
@[simp] theorem State.putOff_levers (x : Nat) (o : Offering) : (s.putOff x o).levers = s.levers := rfl
@[simp] theorem State.putOff_set (x : Nat) (o : Offering) : (s.putOff x o).set = s.set := rfl
@[simp] theorem State.putOff_holds (x : Nat) (o : Offering) : (s.putOff x o).holds = s.holds := rfl
@[simp] theorem State.putOff_sections (x : Nat) (o : Offering) : (s.putOff x o).sections = s.sections.put x { s.sec x with off := o } := rfl
@[simp] theorem State.putOff_bells (x : Nat) (o : Offering) : (s.putOff x o).bells = s.bells := rfl
@[simp] theorem State.putOff_register (x : Nat) (o : Offering) : (s.putOff x o).register = s.register := rfl
@[simp] theorem State.putOff_panel (x : Nat) (o : Offering) : (s.putOff x o).panel = s.panel := rfl
@[simp] theorem State.putOff_link (x : Nat) (o : Offering) : (s.putOff x o).link = s.link := rfl
@[simp] theorem State.putOff_control (x : Nat) (o : Offering) : (s.putOff x o).control = s.control := rfl
@[simp] theorem State.putOff_store (x : Nat) (o : Offering) : (s.putOff x o).store = s.store := rfl
@[simp] theorem State.putOff_emitted (x : Nat) (o : Offering) : (s.putOff x o).emitted = s.emitted := rfl
@[simp] theorem State.putOff_choices (x : Nat) (o : Offering) : (s.putOff x o).choices = s.choices := rfl
@[simp] theorem State.putOff_pending (x : Nat) (o : Offering) : (s.putOff x o).pending = s.pending := rfl

@[simp] theorem State.putBell_now (l : Nat) (b : Bell) : (s.putBell l b).now = s.now := rfl
@[simp] theorem State.putBell_powered (l : Nat) (b : Bell) : (s.putBell l b).powered = s.powered := rfl
@[simp] theorem State.putBell_inputs (l : Nat) (b : Bell) : (s.putBell l b).inputs = s.inputs := rfl
@[simp] theorem State.putBell_tracks (l : Nat) (b : Bell) : (s.putBell l b).tracks = s.tracks := rfl
@[simp] theorem State.putBell_levers (l : Nat) (b : Bell) : (s.putBell l b).levers = s.levers := rfl
@[simp] theorem State.putBell_set (l : Nat) (b : Bell) : (s.putBell l b).set = s.set := rfl
@[simp] theorem State.putBell_holds (l : Nat) (b : Bell) : (s.putBell l b).holds = s.holds := rfl
@[simp] theorem State.putBell_sections (l : Nat) (b : Bell) : (s.putBell l b).sections = s.sections := rfl
@[simp] theorem State.putBell_bells (l : Nat) (b : Bell) : (s.putBell l b).bells = s.bells.put l b := rfl
@[simp] theorem State.putBell_register (l : Nat) (b : Bell) : (s.putBell l b).register = s.register := rfl
@[simp] theorem State.putBell_panel (l : Nat) (b : Bell) : (s.putBell l b).panel = s.panel := rfl
@[simp] theorem State.putBell_link (l : Nat) (b : Bell) : (s.putBell l b).link = s.link := rfl
@[simp] theorem State.putBell_control (l : Nat) (b : Bell) : (s.putBell l b).control = s.control := rfl
@[simp] theorem State.putBell_store (l : Nat) (b : Bell) : (s.putBell l b).store = s.store := rfl
@[simp] theorem State.putBell_emitted (l : Nat) (b : Bell) : (s.putBell l b).emitted = s.emitted := rfl
@[simp] theorem State.putBell_choices (l : Nat) (b : Bell) : (s.putBell l b).choices = s.choices := rfl
@[simp] theorem State.putBell_pending (l : Nat) (b : Bell) : (s.putBell l b).pending = s.pending := rfl

@[simp] theorem State.putHolds_now (hs : List Hold) : (s.putHolds hs).now = s.now := rfl
@[simp] theorem State.putHolds_powered (hs : List Hold) : (s.putHolds hs).powered = s.powered := rfl
@[simp] theorem State.putHolds_inputs (hs : List Hold) : (s.putHolds hs).inputs = s.inputs := rfl
@[simp] theorem State.putHolds_tracks (hs : List Hold) : (s.putHolds hs).tracks = s.tracks := rfl
@[simp] theorem State.putHolds_levers (hs : List Hold) : (s.putHolds hs).levers = s.levers := rfl
@[simp] theorem State.putHolds_set (hs : List Hold) : (s.putHolds hs).set = s.set := rfl
@[simp] theorem State.putHolds_holds (hs : List Hold) : (s.putHolds hs).holds = hs := rfl
@[simp] theorem State.putHolds_sections (hs : List Hold) : (s.putHolds hs).sections = s.sections := rfl
@[simp] theorem State.putHolds_bells (hs : List Hold) : (s.putHolds hs).bells = s.bells := rfl
@[simp] theorem State.putHolds_register (hs : List Hold) : (s.putHolds hs).register = s.register := rfl
@[simp] theorem State.putHolds_panel (hs : List Hold) : (s.putHolds hs).panel = s.panel := rfl
@[simp] theorem State.putHolds_link (hs : List Hold) : (s.putHolds hs).link = s.link := rfl
@[simp] theorem State.putHolds_control (hs : List Hold) : (s.putHolds hs).control = s.control := rfl
@[simp] theorem State.putHolds_store (hs : List Hold) : (s.putHolds hs).store = s.store := rfl
@[simp] theorem State.putHolds_emitted (hs : List Hold) : (s.putHolds hs).emitted = s.emitted := rfl
@[simp] theorem State.putHolds_choices (hs : List Hold) : (s.putHolds hs).choices = s.choices := rfl
@[simp] theorem State.putHolds_pending (hs : List Hold) : (s.putHolds hs).pending = s.pending := rfl

@[simp] theorem State.putRegister_now (g : Register) : (s.putRegister g).now = s.now := rfl
@[simp] theorem State.putRegister_powered (g : Register) : (s.putRegister g).powered = s.powered := rfl
@[simp] theorem State.putRegister_inputs (g : Register) : (s.putRegister g).inputs = s.inputs := rfl
@[simp] theorem State.putRegister_tracks (g : Register) : (s.putRegister g).tracks = s.tracks := rfl
@[simp] theorem State.putRegister_levers (g : Register) : (s.putRegister g).levers = s.levers := rfl
@[simp] theorem State.putRegister_set (g : Register) : (s.putRegister g).set = s.set := rfl
@[simp] theorem State.putRegister_holds (g : Register) : (s.putRegister g).holds = s.holds := rfl
@[simp] theorem State.putRegister_sections (g : Register) : (s.putRegister g).sections = s.sections := rfl
@[simp] theorem State.putRegister_bells (g : Register) : (s.putRegister g).bells = s.bells := rfl
@[simp] theorem State.putRegister_register (g : Register) : (s.putRegister g).register = g := rfl
@[simp] theorem State.putRegister_panel (g : Register) : (s.putRegister g).panel = s.panel := rfl
@[simp] theorem State.putRegister_link (g : Register) : (s.putRegister g).link = s.link := rfl
@[simp] theorem State.putRegister_control (g : Register) : (s.putRegister g).control = s.control := rfl
@[simp] theorem State.putRegister_store (g : Register) : (s.putRegister g).store = s.store := rfl
@[simp] theorem State.putRegister_emitted (g : Register) : (s.putRegister g).emitted = s.emitted := rfl
@[simp] theorem State.putRegister_choices (g : Register) : (s.putRegister g).choices = s.choices := rfl
@[simp] theorem State.putRegister_pending (g : Register) : (s.putRegister g).pending = s.pending := rfl

@[simp] theorem State.putRecord_now (r : Nat) (x : Record) : (s.putRecord r x).now = s.now := rfl
@[simp] theorem State.putRecord_powered (r : Nat) (x : Record) : (s.putRecord r x).powered = s.powered := rfl
@[simp] theorem State.putRecord_inputs (r : Nat) (x : Record) : (s.putRecord r x).inputs = s.inputs := rfl
@[simp] theorem State.putRecord_tracks (r : Nat) (x : Record) : (s.putRecord r x).tracks = s.tracks := rfl
@[simp] theorem State.putRecord_levers (r : Nat) (x : Record) : (s.putRecord r x).levers = s.levers := rfl
@[simp] theorem State.putRecord_set (r : Nat) (x : Record) : (s.putRecord r x).set = s.set := rfl
@[simp] theorem State.putRecord_holds (r : Nat) (x : Record) : (s.putRecord r x).holds = s.holds := rfl
@[simp] theorem State.putRecord_sections (r : Nat) (x : Record) : (s.putRecord r x).sections = s.sections := rfl
@[simp] theorem State.putRecord_bells (r : Nat) (x : Record) : (s.putRecord r x).bells = s.bells := rfl
@[simp] theorem State.putRecord_register (r : Nat) (x : Record) : (s.putRecord r x).register = { s.register with records := s.register.records.put r x } := rfl
@[simp] theorem State.putRecord_panel (r : Nat) (x : Record) : (s.putRecord r x).panel = s.panel := rfl
@[simp] theorem State.putRecord_link (r : Nat) (x : Record) : (s.putRecord r x).link = s.link := rfl
@[simp] theorem State.putRecord_control (r : Nat) (x : Record) : (s.putRecord r x).control = s.control := rfl
@[simp] theorem State.putRecord_store (r : Nat) (x : Record) : (s.putRecord r x).store = s.store := rfl
@[simp] theorem State.putRecord_emitted (r : Nat) (x : Record) : (s.putRecord r x).emitted = s.emitted := rfl
@[simp] theorem State.putRecord_choices (r : Nat) (x : Record) : (s.putRecord r x).choices = s.choices := rfl
@[simp] theorem State.putRecord_pending (r : Nat) (x : Record) : (s.putRecord r x).pending = s.pending := rfl

@[simp] theorem State.putPanel_now (p : Panel) : (s.putPanel p).now = s.now := rfl
@[simp] theorem State.putPanel_powered (p : Panel) : (s.putPanel p).powered = s.powered := rfl
@[simp] theorem State.putPanel_inputs (p : Panel) : (s.putPanel p).inputs = s.inputs := rfl
@[simp] theorem State.putPanel_tracks (p : Panel) : (s.putPanel p).tracks = s.tracks := rfl
@[simp] theorem State.putPanel_levers (p : Panel) : (s.putPanel p).levers = s.levers := rfl
@[simp] theorem State.putPanel_set (p : Panel) : (s.putPanel p).set = s.set := rfl
@[simp] theorem State.putPanel_holds (p : Panel) : (s.putPanel p).holds = s.holds := rfl
@[simp] theorem State.putPanel_sections (p : Panel) : (s.putPanel p).sections = s.sections := rfl
@[simp] theorem State.putPanel_bells (p : Panel) : (s.putPanel p).bells = s.bells := rfl
@[simp] theorem State.putPanel_register (p : Panel) : (s.putPanel p).register = s.register := rfl
@[simp] theorem State.putPanel_panel (p : Panel) : (s.putPanel p).panel = p := rfl
@[simp] theorem State.putPanel_link (p : Panel) : (s.putPanel p).link = s.link := rfl
@[simp] theorem State.putPanel_control (p : Panel) : (s.putPanel p).control = s.control := rfl
@[simp] theorem State.putPanel_store (p : Panel) : (s.putPanel p).store = s.store := rfl
@[simp] theorem State.putPanel_emitted (p : Panel) : (s.putPanel p).emitted = s.emitted := rfl
@[simp] theorem State.putPanel_choices (p : Panel) : (s.putPanel p).choices = s.choices := rfl
@[simp] theorem State.putPanel_pending (p : Panel) : (s.putPanel p).pending = s.pending := rfl

@[simp] theorem State.putLink_now (k : Link) : (s.putLink k).now = s.now := rfl
@[simp] theorem State.putLink_powered (k : Link) : (s.putLink k).powered = s.powered := rfl
@[simp] theorem State.putLink_inputs (k : Link) : (s.putLink k).inputs = s.inputs := rfl
@[simp] theorem State.putLink_tracks (k : Link) : (s.putLink k).tracks = s.tracks := rfl
@[simp] theorem State.putLink_levers (k : Link) : (s.putLink k).levers = s.levers := rfl
@[simp] theorem State.putLink_set (k : Link) : (s.putLink k).set = s.set := rfl
@[simp] theorem State.putLink_holds (k : Link) : (s.putLink k).holds = s.holds := rfl
@[simp] theorem State.putLink_sections (k : Link) : (s.putLink k).sections = s.sections := rfl
@[simp] theorem State.putLink_bells (k : Link) : (s.putLink k).bells = s.bells := rfl
@[simp] theorem State.putLink_register (k : Link) : (s.putLink k).register = s.register := rfl
@[simp] theorem State.putLink_panel (k : Link) : (s.putLink k).panel = s.panel := rfl
@[simp] theorem State.putLink_link (k : Link) : (s.putLink k).link = k := rfl
@[simp] theorem State.putLink_control (k : Link) : (s.putLink k).control = s.control := rfl
@[simp] theorem State.putLink_store (k : Link) : (s.putLink k).store = s.store := rfl
@[simp] theorem State.putLink_emitted (k : Link) : (s.putLink k).emitted = s.emitted := rfl
@[simp] theorem State.putLink_choices (k : Link) : (s.putLink k).choices = s.choices := rfl
@[simp] theorem State.putLink_pending (k : Link) : (s.putLink k).pending = s.pending := rfl

@[simp] theorem State.putControl_now (c : Control) : (s.putControl c).now = s.now := rfl
@[simp] theorem State.putControl_powered (c : Control) : (s.putControl c).powered = s.powered := rfl
@[simp] theorem State.putControl_inputs (c : Control) : (s.putControl c).inputs = s.inputs := rfl
@[simp] theorem State.putControl_tracks (c : Control) : (s.putControl c).tracks = s.tracks := rfl
@[simp] theorem State.putControl_levers (c : Control) : (s.putControl c).levers = s.levers := rfl
@[simp] theorem State.putControl_set (c : Control) : (s.putControl c).set = s.set := rfl
@[simp] theorem State.putControl_holds (c : Control) : (s.putControl c).holds = s.holds := rfl
@[simp] theorem State.putControl_sections (c : Control) : (s.putControl c).sections = s.sections := rfl
@[simp] theorem State.putControl_bells (c : Control) : (s.putControl c).bells = s.bells := rfl
@[simp] theorem State.putControl_register (c : Control) : (s.putControl c).register = s.register := rfl
@[simp] theorem State.putControl_panel (c : Control) : (s.putControl c).panel = s.panel := rfl
@[simp] theorem State.putControl_link (c : Control) : (s.putControl c).link = s.link := rfl
@[simp] theorem State.putControl_control (c : Control) : (s.putControl c).control = c := rfl
@[simp] theorem State.putControl_store (c : Control) : (s.putControl c).store = s.store := rfl
@[simp] theorem State.putControl_emitted (c : Control) : (s.putControl c).emitted = s.emitted := rfl
@[simp] theorem State.putControl_choices (c : Control) : (s.putControl c).choices = s.choices := rfl
@[simp] theorem State.putControl_pending (c : Control) : (s.putControl c).pending = s.pending := rfl

@[simp] theorem State.putStore_now (c : Store) : (s.putStore c).now = s.now := rfl
@[simp] theorem State.putStore_powered (c : Store) : (s.putStore c).powered = s.powered := rfl
@[simp] theorem State.putStore_inputs (c : Store) : (s.putStore c).inputs = s.inputs := rfl
@[simp] theorem State.putStore_tracks (c : Store) : (s.putStore c).tracks = s.tracks := rfl
@[simp] theorem State.putStore_levers (c : Store) : (s.putStore c).levers = s.levers := rfl
@[simp] theorem State.putStore_set (c : Store) : (s.putStore c).set = s.set := rfl
@[simp] theorem State.putStore_holds (c : Store) : (s.putStore c).holds = s.holds := rfl
@[simp] theorem State.putStore_sections (c : Store) : (s.putStore c).sections = s.sections := rfl
@[simp] theorem State.putStore_bells (c : Store) : (s.putStore c).bells = s.bells := rfl
@[simp] theorem State.putStore_register (c : Store) : (s.putStore c).register = s.register := rfl
@[simp] theorem State.putStore_panel (c : Store) : (s.putStore c).panel = s.panel := rfl
@[simp] theorem State.putStore_link (c : Store) : (s.putStore c).link = s.link := rfl
@[simp] theorem State.putStore_control (c : Store) : (s.putStore c).control = s.control := rfl
@[simp] theorem State.putStore_store (c : Store) : (s.putStore c).store = c := rfl
@[simp] theorem State.putStore_emitted (c : Store) : (s.putStore c).emitted = s.emitted := rfl
@[simp] theorem State.putStore_choices (c : Store) : (s.putStore c).choices = s.choices := rfl
@[simp] theorem State.putStore_pending (c : Store) : (s.putStore c).pending = s.pending := rfl

@[simp] theorem State.putInputs_now (i : Inputs) : (s.putInputs i).now = s.now := rfl
@[simp] theorem State.putInputs_powered (i : Inputs) : (s.putInputs i).powered = s.powered := rfl
@[simp] theorem State.putInputs_inputs (i : Inputs) : (s.putInputs i).inputs = i := rfl
@[simp] theorem State.putInputs_tracks (i : Inputs) : (s.putInputs i).tracks = s.tracks := rfl
@[simp] theorem State.putInputs_levers (i : Inputs) : (s.putInputs i).levers = s.levers := rfl
@[simp] theorem State.putInputs_set (i : Inputs) : (s.putInputs i).set = s.set := rfl
@[simp] theorem State.putInputs_holds (i : Inputs) : (s.putInputs i).holds = s.holds := rfl
@[simp] theorem State.putInputs_sections (i : Inputs) : (s.putInputs i).sections = s.sections := rfl
@[simp] theorem State.putInputs_bells (i : Inputs) : (s.putInputs i).bells = s.bells := rfl
@[simp] theorem State.putInputs_register (i : Inputs) : (s.putInputs i).register = s.register := rfl
@[simp] theorem State.putInputs_panel (i : Inputs) : (s.putInputs i).panel = s.panel := rfl
@[simp] theorem State.putInputs_link (i : Inputs) : (s.putInputs i).link = s.link := rfl
@[simp] theorem State.putInputs_control (i : Inputs) : (s.putInputs i).control = s.control := rfl
@[simp] theorem State.putInputs_store (i : Inputs) : (s.putInputs i).store = s.store := rfl
@[simp] theorem State.putInputs_emitted (i : Inputs) : (s.putInputs i).emitted = s.emitted := rfl
@[simp] theorem State.putInputs_choices (i : Inputs) : (s.putInputs i).choices = s.choices := rfl
@[simp] theorem State.putInputs_pending (i : Inputs) : (s.putInputs i).pending = s.pending := rfl

@[simp] theorem State.putSet_now (e : EntrySet) : (s.putSet e).now = s.now := rfl
@[simp] theorem State.putSet_powered (e : EntrySet) : (s.putSet e).powered = s.powered := rfl
@[simp] theorem State.putSet_inputs (e : EntrySet) : (s.putSet e).inputs = s.inputs := rfl
@[simp] theorem State.putSet_tracks (e : EntrySet) : (s.putSet e).tracks = s.tracks := rfl
@[simp] theorem State.putSet_levers (e : EntrySet) : (s.putSet e).levers = s.levers := rfl
@[simp] theorem State.putSet_set (e : EntrySet) : (s.putSet e).set = e := rfl
@[simp] theorem State.putSet_holds (e : EntrySet) : (s.putSet e).holds = s.holds := rfl
@[simp] theorem State.putSet_sections (e : EntrySet) : (s.putSet e).sections = s.sections := rfl
@[simp] theorem State.putSet_bells (e : EntrySet) : (s.putSet e).bells = s.bells := rfl
@[simp] theorem State.putSet_register (e : EntrySet) : (s.putSet e).register = s.register := rfl
@[simp] theorem State.putSet_panel (e : EntrySet) : (s.putSet e).panel = s.panel := rfl
@[simp] theorem State.putSet_link (e : EntrySet) : (s.putSet e).link = s.link := rfl
@[simp] theorem State.putSet_control (e : EntrySet) : (s.putSet e).control = s.control := rfl
@[simp] theorem State.putSet_store (e : EntrySet) : (s.putSet e).store = s.store := rfl
@[simp] theorem State.putSet_emitted (e : EntrySet) : (s.putSet e).emitted = s.emitted := rfl
@[simp] theorem State.putSet_choices (e : EntrySet) : (s.putSet e).choices = s.choices := rfl
@[simp] theorem State.putSet_pending (e : EntrySet) : (s.putSet e).pending = s.pending := rfl

@[simp] theorem State.advance_now (tm : Time) : (s.advance tm).now = max s.now tm := rfl
@[simp] theorem State.advance_powered (tm : Time) : (s.advance tm).powered = s.powered := rfl
@[simp] theorem State.advance_inputs (tm : Time) : (s.advance tm).inputs = s.inputs := rfl
@[simp] theorem State.advance_tracks (tm : Time) : (s.advance tm).tracks = s.tracks := rfl
@[simp] theorem State.advance_levers (tm : Time) : (s.advance tm).levers = s.levers := rfl
@[simp] theorem State.advance_set (tm : Time) : (s.advance tm).set = s.set := rfl
@[simp] theorem State.advance_holds (tm : Time) : (s.advance tm).holds = s.holds := rfl
@[simp] theorem State.advance_sections (tm : Time) : (s.advance tm).sections = s.sections := rfl
@[simp] theorem State.advance_bells (tm : Time) : (s.advance tm).bells = s.bells := rfl
@[simp] theorem State.advance_register (tm : Time) : (s.advance tm).register = s.register := rfl
@[simp] theorem State.advance_panel (tm : Time) : (s.advance tm).panel = s.panel := rfl
@[simp] theorem State.advance_link (tm : Time) : (s.advance tm).link = s.link := rfl
@[simp] theorem State.advance_control (tm : Time) : (s.advance tm).control = s.control := rfl
@[simp] theorem State.advance_store (tm : Time) : (s.advance tm).store = s.store := rfl
@[simp] theorem State.advance_emitted (tm : Time) : (s.advance tm).emitted = s.emitted := rfl
@[simp] theorem State.advance_choices (tm : Time) : (s.advance tm).choices = s.choices := rfl
@[simp] theorem State.advance_pending (tm : Time) : (s.advance tm).pending = s.pending := rfl

@[simp] theorem State.emit_now (e : NoticeEvent) (o : Nat) (x : List Byte) : (s.emit e o x).now = s.now := rfl
@[simp] theorem State.emit_powered (e : NoticeEvent) (o : Nat) (x : List Byte) : (s.emit e o x).powered = s.powered := rfl
@[simp] theorem State.emit_inputs (e : NoticeEvent) (o : Nat) (x : List Byte) : (s.emit e o x).inputs = s.inputs := rfl
@[simp] theorem State.emit_tracks (e : NoticeEvent) (o : Nat) (x : List Byte) : (s.emit e o x).tracks = s.tracks := rfl
@[simp] theorem State.emit_levers (e : NoticeEvent) (o : Nat) (x : List Byte) : (s.emit e o x).levers = s.levers := rfl
@[simp] theorem State.emit_set (e : NoticeEvent) (o : Nat) (x : List Byte) : (s.emit e o x).set = s.set := rfl
@[simp] theorem State.emit_holds (e : NoticeEvent) (o : Nat) (x : List Byte) : (s.emit e o x).holds = s.holds := rfl
@[simp] theorem State.emit_sections (e : NoticeEvent) (o : Nat) (x : List Byte) : (s.emit e o x).sections = s.sections := rfl
@[simp] theorem State.emit_bells (e : NoticeEvent) (o : Nat) (x : List Byte) : (s.emit e o x).bells = s.bells := rfl
@[simp] theorem State.emit_register (e : NoticeEvent) (o : Nat) (x : List Byte) : (s.emit e o x).register = s.register := rfl
@[simp] theorem State.emit_panel (e : NoticeEvent) (o : Nat) (x : List Byte) : (s.emit e o x).panel = s.panel := rfl
@[simp] theorem State.emit_link (e : NoticeEvent) (o : Nat) (x : List Byte) : (s.emit e o x).link = s.link := rfl
@[simp] theorem State.emit_control (e : NoticeEvent) (o : Nat) (x : List Byte) : (s.emit e o x).control = s.control := rfl
@[simp] theorem State.emit_store (e : NoticeEvent) (o : Nat) (x : List Byte) : (s.emit e o x).store = s.store := rfl
@[simp] theorem State.emit_emitted (e : NoticeEvent) (o : Nat) (x : List Byte) : (s.emit e o x).emitted = s.emitted ++ [⟨e, o, x⟩] := rfl
@[simp] theorem State.emit_choices (e : NoticeEvent) (o : Nat) (x : List Byte) : (s.emit e o x).choices = s.choices := rfl
@[simp] theorem State.emit_pending (e : NoticeEvent) (o : Nat) (x : List Byte) : (s.emit e o x).pending = s.pending := rfl

/-! ### Reading by number after a replacement -/

/-- A track after a replacement in range. -/
theorem State.track_putTrack (t j : Nat) (k : Track) :
    (s.putTrack t k).track j = if j = t ∧ 1 ≤ t ∧ t ≤ 16 then k else s.track j := Tab.get_put ..

/-- A lever after a replacement in range. -/
theorem State.lever_putLever (n j : Nat) (l : Lever) :
    (s.putLever n l).lever j = if j = n ∧ 1 ≤ n ∧ n ≤ 24 then l else s.lever j := Tab.get_put ..

/-- A section after its accepting half is replaced. -/
theorem State.sec_putAcc (x j : Nat) (a : Accepting) :
    (s.putAcc x a).sec j = if j = x ∧ 1 ≤ x ∧ x ≤ 6 then { s.sec x with acc := a } else s.sec j := Tab.get_put ..

/-- A section after its offering half is replaced. -/
theorem State.sec_putOff (x j : Nat) (o : Offering) :
    (s.putOff x o).sec j = if j = x ∧ 1 ≤ x ∧ x ≤ 6 then { s.sec x with off := o } else s.sec j := Tab.get_put ..

/-- A bell line after a replacement. -/
theorem State.bell_putBell (l j : Nat) (b : Bell) :
    (s.putBell l b).bell j = if j = l ∧ 1 ≤ l ∧ l ≤ 3 then b else s.bell j := Tab.get_put ..

/-- A record after a replacement. -/
theorem State.record_putRecord (r j : Nat) (x : Record) :
    (s.putRecord r x).record j = if j = r ∧ 1 ≤ r ∧ r ≤ 48 then x else s.record j := Tab.get_put ..

end Sys2Proof.Machine
end

