-- ==== Sys2Proof/Laws/Frames.lean ====
section
/-! SUPPORT. Frames: what the replacements and the shared operations leave unchanged. Each operation has a
lemma that names the parts
it may change, and a simp lemma that strips it from a frame that lists them. -/

namespace Sys2Proof.Machine

variable {ps qs : List Part} {s t u : State}

/-- Sameness of a part composes. -/
theorem Part.same_trans {p : Part} (h : p.Same s t) (k : p.Same t u) : p.Same s u := by
  cases p <;> simp_all [Part.Same]
/-- Sameness of a part is symmetric. -/
theorem Part.same_symm {p : Part} (h : p.Same s t) : p.Same t s := by
  cases p <;> simp_all [Part.Same]
/-- A state differs from itself nowhere. -/
@[simp] theorem Outside.refl (ps : List Part) (s : State) : Outside ps s s := by
  intro p _; cases p <;> simp [Part.Same]
/-- Frames compose. -/
theorem Outside.trans (h : Outside ps s t) (k : Outside ps t u) : Outside ps s u :=
  fun p hp => Part.same_trans (h p hp) (k p hp)
/-- A frame with more parts is weaker. -/
theorem Outside.mono (h : Outside qs s t) (hq : qs ⊆ ps) : Outside ps s t := fun p hp => h p fun hm => hp (hq hm)
/-- An operation whose changes a frame lists is stripped from it. -/
theorem outside_iff (h : Outside qs t u) (hq : qs ⊆ ps) : Outside ps s u ↔ Outside ps s t :=
  ⟨fun k p hp => Part.same_trans (k p hp) (Part.same_symm (h.mono hq p hp)), fun k => k.trans (h.mono hq)⟩
/-- A fold whose every step is stripped from a frame is stripped from it. -/
@[simp] theorem outside_foldl {α : Type} (f : State → α → State) (l : List α) (t : State)
    (h : ∀ u a, Outside ps u (f u a)) : Outside ps s (l.foldl f t) ↔ Outside ps s t := by
  induction l generalizing t with
  | nil => exact Iff.rfl
  | cons a l ih => exact (ih (f t a)).trans (outside_iff (h t a) (List.Subset.refl ps))

/-- The frame of `State.putTrack`. -/
theorem State.putTrack_outside (n : Nat) (k : Track) (s : State) :
    Outside [.tracks] s (s.putTrack n k) := by
  intro p hp; cases p <;> simp_all [Part.Same]
@[simp] theorem State.outside_putTrack (n : Nat) (k : Track) (h : [Part.tracks] ⊆ ps) :
    Outside ps s (t.putTrack n k) ↔ Outside ps s t := outside_iff (State.putTrack_outside n k t) h

/-- The frame of `State.putLever`. -/
theorem State.putLever_outside (n : Nat) (l : Lever) (s : State) :
    Outside [.levers] s (s.putLever n l) := by
  intro p hp; cases p <;> simp_all [Part.Same]
@[simp] theorem State.outside_putLever (n : Nat) (l : Lever) (h : [Part.levers] ⊆ ps) :
    Outside ps s (t.putLever n l) ↔ Outside ps s t := outside_iff (State.putLever_outside n l t) h

/-- The frame of `State.putAcc`. -/
theorem State.putAcc_outside (x : Nat) (a : Accepting) (s : State) :
    Outside [.sections] s (s.putAcc x a) := by
  intro p hp; cases p <;> simp_all [Part.Same]
@[simp] theorem State.outside_putAcc (x : Nat) (a : Accepting) (h : [Part.sections] ⊆ ps) :
    Outside ps s (t.putAcc x a) ↔ Outside ps s t := outside_iff (State.putAcc_outside x a t) h

/-- The frame of `State.putOff`. -/
theorem State.putOff_outside (x : Nat) (o : Offering) (s : State) :
    Outside [.sections] s (s.putOff x o) := by
  intro p hp; cases p <;> simp_all [Part.Same]
@[simp] theorem State.outside_putOff (x : Nat) (o : Offering) (h : [Part.sections] ⊆ ps) :
    Outside ps s (t.putOff x o) ↔ Outside ps s t := outside_iff (State.putOff_outside x o t) h

/-- The frame of `State.putBell`. -/
theorem State.putBell_outside (l : Nat) (b : Bell) (s : State) :
    Outside [.bells] s (s.putBell l b) := by
  intro p hp; cases p <;> simp_all [Part.Same]
@[simp] theorem State.outside_putBell (l : Nat) (b : Bell) (h : [Part.bells] ⊆ ps) :
    Outside ps s (t.putBell l b) ↔ Outside ps s t := outside_iff (State.putBell_outside l b t) h

/-- The frame of `State.putHolds`. -/
theorem State.putHolds_outside (hs : List Hold) (s : State) :
    Outside [.holds] s (s.putHolds hs) := by
  intro p hp; cases p <;> simp_all [Part.Same]
@[simp] theorem State.outside_putHolds (hs : List Hold) (h : [Part.holds] ⊆ ps) :
    Outside ps s (t.putHolds hs) ↔ Outside ps s t := outside_iff (State.putHolds_outside hs t) h

/-- The frame of `State.putRegister`. -/
theorem State.putRegister_outside (g : Register) (s : State) :
    Outside [.register] s (s.putRegister g) := by
  intro p hp; cases p <;> simp_all [Part.Same]
@[simp] theorem State.outside_putRegister (g : Register) (h : [Part.register] ⊆ ps) :
    Outside ps s (t.putRegister g) ↔ Outside ps s t := outside_iff (State.putRegister_outside g t) h

/-- The frame of `State.putRecord`. -/
theorem State.putRecord_outside (r : Nat) (x : Record) (s : State) :
    Outside [.register] s (s.putRecord r x) := by
  intro p hp; cases p <;> simp_all [Part.Same]
@[simp] theorem State.outside_putRecord (r : Nat) (x : Record) (h : [Part.register] ⊆ ps) :
    Outside ps s (t.putRecord r x) ↔ Outside ps s t := outside_iff (State.putRecord_outside r x t) h

/-- The frame of `State.putInputs`. -/
theorem State.putInputs_outside (i : Inputs) (s : State) :
    Outside [.inputs] s (s.putInputs i) := by
  intro p hp; cases p <;> simp_all [Part.Same]
@[simp] theorem State.outside_putInputs (i : Inputs) (h : [Part.inputs] ⊆ ps) :
    Outside ps s (t.putInputs i) ↔ Outside ps s t := outside_iff (State.putInputs_outside i t) h

/-- The frame of `State.putSet`. -/
theorem State.putSet_outside (e : EntrySet) (s : State) :
    Outside [.set] s (s.putSet e) := by
  intro p hp; cases p <;> simp_all [Part.Same]
@[simp] theorem State.outside_putSet (e : EntrySet) (h : [Part.set] ⊆ ps) :
    Outside ps s (t.putSet e) ↔ Outside ps s t := outside_iff (State.putSet_outside e t) h

/-- The frame of `State.advance`. -/
theorem State.advance_outside (tm : Time) (s : State) :
    Outside [.now] s (s.advance tm) := by
  intro p hp; cases p <;> simp_all [Part.Same]
@[simp] theorem State.outside_advance (tm : Time) (h : [Part.now] ⊆ ps) :
    Outside ps s (t.advance tm) ↔ Outside ps s t := outside_iff (State.advance_outside tm t) h

/-- The frame of `State.emit`. -/
theorem State.emit_outside (e : NoticeEvent) (o : Nat) (x : List Byte) (s : State) :
    Outside [.emitted] s (s.emit e o x) := by
  intro p hp; cases p <;> simp_all [Part.Same]
@[simp] theorem State.outside_emit (e : NoticeEvent) (o : Nat) (x : List Byte) (h : [Part.emitted] ⊆ ps) :
    Outside ps s (t.emit e o x) ↔ Outside ps s t := outside_iff (State.emit_outside e o x t) h

/-- Replacing the panel changes the parts of it that differ. -/
@[simp] theorem State.outside_putPanel (p : Panel) (h1 : .alerts ∈ ps ∨ p.alerts = t.panel.alerts)
    (h2 : .sounder ∈ ps ∨ p.sounder = t.panel.sounder) (h3 : .lampTest ∈ ps ∨ p.lampTest = t.panel.lampTest)
    (h4 : .pulses ∈ ps ∨ p.pulses = t.panel.pulses) (h5 : .flasher ∈ ps ∨ p.flasher = t.panel.flasher) :
    Outside ps s (t.putPanel p) ↔ Outside ps s t := by
  have k : Outside ps t (t.putPanel p) := by
    intro p hp; cases p <;> simp_all [Part.Same]
  exact outside_iff k (List.Subset.refl _)

/-- Replacing the link changes the parts of it that differ. -/
@[simp] theorem State.outside_putLink (k : Link) (h1 : .assembler ∈ ps ∨ k.asm = t.link.asm)
    (h2 : .requests ∈ ps ∨ k.queue = t.link.queue) (h3 : .slot ∈ ps ∨ k.slot = t.link.slot)
    (h4 : .outbox ∈ ps ∨ k.outbox = t.link.outbox ∧ k.lost = t.link.lost ∧ k.lostSinceStatus = t.link.lostSinceStatus)
    (h5 : .transmitter ∈ ps ∨ k.tx = t.link.tx)
    (h6 : .linkCounts ∈ ps ∨ k.linkErrors = t.link.linkErrors ∧ k.abandoned = t.link.abandoned ∧
      k.discarded = t.link.discarded) :
    Outside ps s (t.putLink k) ↔ Outside ps s t := by
  have k : Outside ps t (t.putLink k) := by
    intro p hp; cases p <;> simp_all [Part.Same]
  exact outside_iff k (List.Subset.refl _)

/-- Replacing the control state changes the parts of it that differ. -/
@[simp] theorem State.outside_putControl (c : Control)
    (h1 : .mode ∈ ps ∨ c.mode = t.control.mode ∧ c.interval = t.control.interval ∧ c.base = t.control.base ∧
      c.cause = t.control.cause)
    (h2 : .after ∈ ps ∨ c.after = t.control.after ∧ c.writing = t.control.writing)
    (h3 : .box ∈ ps ∨ c.box = t.control.box ∧ c.relayOn = t.control.relayOn ∧ c.through = t.control.through)
    (h4 : .clock ∈ ps ∨ c.clock = t.control.clock) :
    Outside ps s (t.putControl c) ↔ Outside ps s t := by
  have k : Outside ps t (t.putControl c) := by
    intro p hp; cases p <;> simp_all [Part.Same]
  exact outside_iff k (List.Subset.refl _)

/-- Replacing the store changes the parts of it that differ. -/
@[simp] theorem State.outside_putStore (c : Store)
    (h1 : .configuration ∈ ps ∨ c.inForce = t.store.inForce ∧ c.checkGood = t.store.checkGood ∧
      c.working = t.store.working ∧ c.written = t.store.written)
    (h2 : .counters ∈ ps ∨ c.releases = t.store.releases ∧ c.forced = t.store.forced ∧ c.marks = t.store.marks)
    (h3 : .storeFault ∈ ps ∨ c.fault = t.store.fault) :
    Outside ps s (t.putStore c) ↔ Outside ps s t := by
  have k : Outside ps t (t.putStore c) := by
    intro p hp; cases p <;> simp_all [Part.Same]
  exact outside_iff k (List.Subset.refl _)

/-- The frame of `State.count`. -/
theorem State.count_outside (k : CounterName) (s : State) :
    Outside [.counters] s (s.count k) := by
  unfold State.count; cases k <;> simp [Store.putCounter]
@[simp] theorem State.outside_count (k : CounterName) (h : [Part.counters] ⊆ ps) :
    Outside ps s (t.count k) ↔ Outside ps s t := outside_iff (State.count_outside k t) h

/-- The frame of `State.recomputeSounder`. -/
theorem State.recomputeSounder_outside (again : Bool) (s : State) :
    Outside [.sounder] s (s.recomputeSounder again) := by
  unfold State.recomputeSounder; dsimp only; repeat' split
  all_goals simp
@[simp] theorem State.outside_recomputeSounder (again : Bool) (h : [Part.sounder] ⊆ ps) :
    Outside ps s (t.recomputeSounder again) ↔ Outside ps s t := outside_iff (State.recomputeSounder_outside again t) h

/-- The frame of `State.raise`. -/
theorem State.raise_outside (k : AlertKind) (o : Nat) (s : State) :
    Outside [.alerts, .sounder, .emitted] s (s.raise k o) := by
  unfold State.raise; dsimp only; repeat' split
  all_goals simp
@[simp] theorem State.outside_raise (k : AlertKind) (o : Nat) (h : [Part.alerts, .sounder, .emitted] ⊆ ps) :
    Outside ps s (t.raise k o) ↔ Outside ps s t := outside_iff (State.raise_outside k o t) h

end Sys2Proof.Machine
end

