-- ==== Sys2Proof/Laws/FrameHolds.lean ====
section
/-! SUPPORT. Frames of the Route Hold Unit. -/

namespace Sys2Proof.Machine

variable {ps qs : List Part} {s t u : State}

/-- The frame of `State.putHold`. -/
theorem State.putHold_outside (h' : Hold) (s : State) :
    Outside [.holds] s (s.putHold h') := by
  unfold State.putHold; simp
@[simp] theorem State.outside_putHold (h' : Hold) (h : [Part.holds] ⊆ ps) :
    Outside ps s (t.putHold h') ↔ Outside ps s t := outside_iff (State.putHold_outside h' t) h

/-- The frame of `State.removeHold`. -/
theorem State.removeHold_outside (n : Nat) (c : HoldCause) (s : State) :
    Outside [.holds, .emitted] s (s.removeHold n c) := by
  unfold State.removeHold; simp
@[simp] theorem State.outside_removeHold (n : Nat) (c : HoldCause) (h : [Part.holds, .emitted] ⊆ ps) :
    Outside ps s (t.removeHold n c) ↔ Outside ps s t := outside_iff (State.removeHold_outside n c t) h

/-- The frame of `State.testSequential`. -/
theorem State.testSequential_outside (n : Nat) (s : State) :
    Outside [.holds, .emitted] s (s.testSequential n) := by
  unfold State.testSequential; repeat' split
  all_goals simp
@[simp] theorem State.outside_testSequential (n : Nat) (h : [Part.holds, .emitted] ⊆ ps) :
    Outside ps s (t.testSequential n) ↔ Outside ps s t := outside_iff (State.testSequential_outside n t) h

/-- The frame of `State.testApproach`. -/
theorem State.testApproach_outside (n : Nat) (s : State) :
    Outside [.holds, .emitted] s (s.testApproach n) := by
  unfold State.testApproach; repeat' split
  all_goals simp
@[simp] theorem State.outside_testApproach (n : Nat) (h : [Part.holds, .emitted] ⊆ ps) :
    Outside ps s (t.testApproach n) ↔ Outside ps s t := outside_iff (State.testApproach_outside n t) h

/-- The frame of `State.testRelease`. -/
theorem State.testRelease_outside (n : Nat) (s : State) :
    Outside [.holds, .emitted] s (s.testRelease n) := by
  unfold State.testRelease; simp
@[simp] theorem State.outside_testRelease (n : Nat) (h : [Part.holds, .emitted] ⊆ ps) :
    Outside ps s (t.testRelease n) ↔ Outside ps s t := outside_iff (State.testRelease_outside n t) h

/-- The frame of `State.cancelTimeRelease`. -/
theorem State.cancelTimeRelease_outside (k : Hold) (c : HoldCause) (s : State) :
    Outside [.holds, .emitted] s (s.cancelTimeRelease k c) := by
  unfold State.cancelTimeRelease; simp
@[simp] theorem State.outside_cancelTimeRelease (k : Hold) (c : HoldCause) (h : [Part.holds, .emitted] ⊆ ps) :
    Outside ps s (t.cancelTimeRelease k c) ↔ Outside ps s t := outside_iff (State.cancelTimeRelease_outside k c t) h

/-- The frame of `State.createHold`. -/
theorem State.createHold_outside (n : Nat) (d : HoldDef) (st : HoldState) (r : Bool) (c : HoldCause) (s : State) :
    Outside [.holds, .levers, .emitted] s (s.createHold n d st r c) := by
  unfold State.createHold; dsimp only
  simp only [State.outside_emit, List.cons_subset, List.mem_cons, true_or, or_true, List.nil_subset, and_self]
  rw [outside_foldl]
  · simp
  · intro u k; split <;> simp
@[simp] theorem State.outside_createHold (n : Nat) (d : HoldDef) (st : HoldState) (r : Bool) (c : HoldCause) (h : [Part.holds, .levers, .emitted] ⊆ ps) :
    Outside ps s (t.createHold n d st r c) ↔ Outside ps s t := outside_iff (State.createHold_outside n d st r c t) h

/-- The frame of `State.signalArrivesReverse`. -/
theorem State.signalArrivesReverse_outside (n : Nat) (s : State) :
    Outside [.holds, .levers, .emitted] s (s.signalArrivesReverse n) := by
  unfold State.signalArrivesReverse; dsimp only; repeat' split
  all_goals simp
@[simp] theorem State.outside_signalArrivesReverse (n : Nat) (h : [Part.holds, .levers, .emitted] ⊆ ps) :
    Outside ps s (t.signalArrivesReverse n) ↔ Outside ps s t := outside_iff (State.signalArrivesReverse_outside n t) h

/-- The frame of `State.signalStandsReverse`. -/
theorem State.signalStandsReverse_outside (n : Nat) (s : State) :
    Outside [.holds] s (s.signalStandsReverse n) := by
  unfold State.signalStandsReverse; repeat' split
  all_goals simp
@[simp] theorem State.outside_signalStandsReverse (n : Nat) (h : [Part.holds] ⊆ ps) :
    Outside ps s (t.signalStandsReverse n) ↔ Outside ps s t := outside_iff (State.signalStandsReverse_outside n t) h

/-- The frame of `State.signalStandsNormal`. -/
theorem State.signalStandsNormal_outside (n : Nat) (s : State) :
    Outside [.holds, .emitted] s (s.signalStandsNormal n) := by
  unfold State.signalStandsNormal; dsimp only; repeat' split
  all_goals simp
@[simp] theorem State.outside_signalStandsNormal (n : Nat) (h : [Part.holds, .emitted] ⊆ ps) :
    Outside ps s (t.signalStandsNormal n) ↔ Outside ps s t := outside_iff (State.signalStandsNormal_outside n t) h

/-- The frame of `State.stageDone`. -/
theorem State.stageDone_outside (a i : Nat) (r : Hold × Bool) (s : State) :
    Outside [.holds, .emitted] s (s.stageDone a i r) := by
  unfold State.stageDone; dsimp only; repeat' split
  all_goals simp
@[simp] theorem State.outside_stageDone (a i : Nat) (r : Hold × Bool) (h : [Part.holds, .emitted] ⊆ ps) :
    Outside ps s (t.stageDone a i r) ↔ Outside ps s t := outside_iff (State.stageDone_outside a i r t) h

/-- The frame of `State.holdTrackOccupied`. -/
theorem State.holdTrackOccupied_outside (a n : Nat) (s : State) :
    Outside [.holds, .emitted] s (s.holdTrackOccupied a n) := by
  unfold State.holdTrackOccupied; repeat' split
  all_goals simp
@[simp] theorem State.outside_holdTrackOccupied (a n : Nat) (h : [Part.holds, .emitted] ⊆ ps) :
    Outside ps s (t.holdTrackOccupied a n) ↔ Outside ps s t := outside_iff (State.holdTrackOccupied_outside a n t) h

/-- The frame of `State.holdTrackCleared`. -/
theorem State.holdTrackCleared_outside (a n : Nat) (s : State) :
    Outside [.holds, .emitted] s (s.holdTrackCleared a n) := by
  unfold State.holdTrackCleared; dsimp only; repeat' split
  all_goals simp
@[simp] theorem State.outside_holdTrackCleared (a n : Nat) (h : [Part.holds, .emitted] ⊆ ps) :
    Outside ps s (t.holdTrackCleared a n) ↔ Outside ps s t := outside_iff (State.holdTrackCleared_outside a n t) h

/-- The frame of `State.holdsTrackOccupied`. -/
theorem State.holdsTrackOccupied_outside (a : Nat) (s : State) :
    Outside [.holds, .emitted] s (s.holdsTrackOccupied a) := by
  unfold State.holdsTrackOccupied; simp
@[simp] theorem State.outside_holdsTrackOccupied (a : Nat) (h : [Part.holds, .emitted] ⊆ ps) :
    Outside ps s (t.holdsTrackOccupied a) ↔ Outside ps s t := outside_iff (State.holdsTrackOccupied_outside a t) h

/-- The frame of `State.holdsTrackCleared`. -/
theorem State.holdsTrackCleared_outside (a : Nat) (s : State) :
    Outside [.holds, .emitted] s (s.holdsTrackCleared a) := by
  unfold State.holdsTrackCleared; simp
@[simp] theorem State.outside_holdsTrackCleared (a : Nat) (h : [Part.holds, .emitted] ⊆ ps) :
    Outside ps s (t.holdsTrackCleared a) ↔ Outside ps s t := outside_iff (State.holdsTrackCleared_outside a t) h

/-- The frame of `State.countdownExpires`. -/
theorem State.countdownExpires_outside (n : Nat) (s : State) :
    Outside [.holds, .emitted] s (s.countdownExpires n) := by
  unfold State.countdownExpires; repeat' split
  all_goals simp
@[simp] theorem State.outside_countdownExpires (n : Nat) (h : [Part.holds, .emitted] ⊆ ps) :
    Outside ps s (t.countdownExpires n) ↔ Outside ps s t := outside_iff (State.countdownExpires_outside n t) h

/-- The frame of `State.holdsOnHold`. -/
theorem State.holdsOnHold_outside (s : State) :
    Outside [.holds, .emitted] s (s.holdsOnHold) := by
  unfold State.holdsOnHold; simp
@[simp] theorem State.outside_holdsOnHold (h : [Part.holds, .emitted] ⊆ ps) :
    Outside ps s (t.holdsOnHold) ↔ Outside ps s t := outside_iff (State.holdsOnHold_outside t) h

/-- The frame of `State.startUpHold`. -/
theorem State.startUpHold_outside (n : Nat) (s : State) :
    Outside [.holds, .levers, .emitted] s (s.startUpHold n) := by
  unfold State.startUpHold; repeat' split
  all_goals simp
@[simp] theorem State.outside_startUpHold (n : Nat) (h : [Part.holds, .levers, .emitted] ⊆ ps) :
    Outside ps s (t.startUpHold n) ↔ Outside ps s t := outside_iff (State.startUpHold_outside n t) h

/-- The frame of `State.startUpHolds`. -/
theorem State.startUpHolds_outside (s : State) :
    Outside [.holds, .levers, .emitted] s (s.startUpHolds) := by
  unfold State.startUpHolds; simp
@[simp] theorem State.outside_startUpHolds (h : [Part.holds, .levers, .emitted] ⊆ ps) :
    Outside ps s (t.startUpHolds) ↔ Outside ps s t := outside_iff (State.startUpHolds_outside t) h

/-- The frame of `State.releaseStarts`. -/
theorem State.releaseStarts_outside (k : Hold) (pr : PriorState) (s : State) :
    Outside [.holds, .emitted] s (s.releaseStarts k pr) := by
  unfold State.releaseStarts; dsimp only; simp
@[simp] theorem State.outside_releaseStarts (k : Hold) (pr : PriorState) (h : [Part.holds, .emitted] ⊆ ps) :
    Outside ps s (t.releaseStarts k pr) ↔ Outside ps s t := outside_iff (State.releaseStarts_outside k pr t) h

end Sys2Proof.Machine
end

