-- ==== Sys2Proof/Laws/FrameSections.lean ====
section
/-! SUPPORT. Frames of the Train Record Unit and the Block Section Unit. -/

namespace Sys2Proof.Machine

variable {ps qs : List Part} {s t u : State}

/-- The frame of `State.linkOwed`. -/
theorem State.linkOwed_outside (l : Nat) (r : Option Nat) (s : State) :
    Outside [.register] s (s.linkOwed l r) := by
  unfold State.linkOwed; dsimp only; simp
@[simp] theorem State.outside_linkOwed (l : Nat) (r : Option Nat) (h : [Part.register] ⊆ ps) :
    Outside ps s (t.linkOwed l r) ↔ Outside ps s t := outside_iff (State.linkOwed_outside l r t) h

/-- The frame of `State.linkOutstanding`. -/
theorem State.linkOutstanding_outside (l : Nat) (r : Option Nat) (s : State) :
    Outside [.register] s (s.linkOutstanding l r) := by
  unfold State.linkOutstanding; dsimp only; simp
@[simp] theorem State.outside_linkOutstanding (l : Nat) (r : Option Nat) (h : [Part.register] ⊆ ps) :
    Outside ps s (t.linkOutstanding l r) ↔ Outside ps s t := outside_iff (State.linkOutstanding_outside l r t) h

/-- The frame of `State.moveInbound`. -/
theorem State.moveInbound_outside (r : Nat) (g : HalfStage) (s : State) :
    Outside [.register] s (s.moveInbound r g) := by
  unfold State.moveInbound; dsimp only; repeat' split
  all_goals simp
@[simp] theorem State.outside_moveInbound (r : Nat) (g : HalfStage) (h : [Part.register] ⊆ ps) :
    Outside ps s (t.moveInbound r g) ↔ Outside ps s t := outside_iff (State.moveInbound_outside r g t) h

/-- The frame of `State.moveOutbound`. -/
theorem State.moveOutbound_outside (r : Nat) (g : HalfStage) (s : State) :
    Outside [.register] s (s.moveOutbound r g) := by
  unfold State.moveOutbound; dsimp only; repeat' split
  all_goals simp
@[simp] theorem State.outside_moveOutbound (r : Nat) (g : HalfStage) (h : [Part.register] ⊆ ps) :
    Outside ps s (t.moveOutbound r g) ↔ Outside ps s t := outside_iff (State.moveOutbound_outside r g t) h

/-- The frame of `State.openRecord`. -/
theorem State.openRecord_outside (r : Nat) (s : State) :
    Outside [.register] s (s.openRecord r) := by
  unfold State.openRecord; dsimp only; simp
@[simp] theorem State.outside_openRecord (r : Nat) (h : [Part.register] ⊆ ps) :
    Outside ps s (t.openRecord r) ↔ Outside ps s t := outside_iff (State.openRecord_outside r t) h

/-- The frame of `State.complete`. -/
theorem State.complete_outside (r : Nat) (why : Reason) (s : State) :
    Outside [.register, .emitted] s (s.complete r why) := by
  unfold State.complete; dsimp only; simp
@[simp] theorem State.outside_complete (r : Nat) (why : Reason) (h : [Part.register, .emitted] ⊆ ps) :
    Outside ps s (t.complete r why) ↔ Outside ps s t := outside_iff (State.complete_outside r why t) h

/-- The frame of `State.completeIfDone`. -/
theorem State.completeIfDone_outside (r : Nat) (s : State) :
    Outside [.register, .emitted] s (s.completeIfDone r) := by
  unfold State.completeIfDone; dsimp only; repeat' split
  all_goals simp
@[simp] theorem State.outside_completeIfDone (r : Nat) (h : [Part.register, .emitted] ⊆ ps) :
    Outside ps s (t.completeIfDone r) ↔ Outside ps s t := outside_iff (State.completeIfDone_outside r t) h

/-- The frame of `State.collect`. -/
theorem State.collect_outside (r : Nat) (s : State) :
    Outside [.register, .emitted] s (s.collect r) := by
  unfold State.collect; dsimp only; simp
@[simp] theorem State.outside_collect (r : Nat) (h : [Part.register, .emitted] ⊆ ps) :
    Outside ps s (t.collect r) ↔ Outside ps s t := outside_iff (State.collect_outside r t) h

/-- The frame of `State.acceptInbound`. -/
theorem State.acceptInbound_outside (r : Nat) (s : State) :
    Outside [.register, .emitted] s (s.acceptInbound r) := by
  unfold State.acceptInbound; simp
@[simp] theorem State.outside_acceptInbound (r : Nat) (h : [Part.register, .emitted] ⊆ ps) :
    Outside ps s (t.acceptInbound r) ↔ Outside ps s t := outside_iff (State.acceptInbound_outside r t) h

/-- The frame of `State.acceptOutbound`. -/
theorem State.acceptOutbound_outside (r : Nat) (s : State) :
    Outside [.register, .emitted] s (s.acceptOutbound r) := by
  unfold State.acceptOutbound; simp
@[simp] theorem State.outside_acceptOutbound (r : Nat) (h : [Part.register, .emitted] ⊆ ps) :
    Outside ps s (t.acceptOutbound r) ↔ Outside ps s t := outside_iff (State.acceptOutbound_outside r t) h

/-- The frame of `State.acceptAtLC`. -/
theorem State.acceptAtLC_outside (x : Nat) (s : State) :
    Outside [.register, .emitted] s (s.acceptAtLC x) := by
  unfold State.acceptAtLC; repeat' split
  all_goals simp
@[simp] theorem State.outside_acceptAtLC (x : Nat) (h : [Part.register, .emitted] ⊆ ps) :
    Outside ps s (t.acceptAtLC x) ↔ Outside ps s t := outside_iff (State.acceptAtLC_outside x t) h

/-- The frame of `State.acceptAtRepeater`. -/
theorem State.acceptAtRepeater_outside (x : Nat) (s : State) :
    Outside [.register, .emitted] s (s.acceptAtRepeater x) := by
  unfold State.acceptAtRepeater; repeat' split
  all_goals simp
@[simp] theorem State.outside_acceptAtRepeater (x : Nat) (h : [Part.register, .emitted] ⊆ ps) :
    Outside ps s (t.acceptAtRepeater x) ↔ Outside ps s t := outside_iff (State.acceptAtRepeater_outside x t) h

/-- The frame of `State.repetitionGiven`. -/
theorem State.repetitionGiven_outside (l : Nat) (c : Code) (s : State) :
    Outside [.register, .emitted] s (s.repetitionGiven l c) := by
  unfold State.repetitionGiven; dsimp only; repeat' split
  all_goals simp
@[simp] theorem State.outside_repetitionGiven (l : Nat) (c : Code) (h : [Part.register, .emitted] ⊆ ps) :
    Outside ps s (t.repetitionGiven l c) ↔ Outside ps s t := outside_iff (State.repetitionGiven_outside l c t) h

/-- The frame of `State.acknowledged`. -/
theorem State.acknowledged_outside (l : Nat) (c : Code) (s : State) :
    Outside [.register, .emitted] s (s.acknowledged l c) := by
  unfold State.acknowledged; dsimp only; repeat' split
  all_goals simp
@[simp] theorem State.outside_acknowledged (l : Nat) (c : Code) (h : [Part.register, .emitted] ⊆ ps) :
    Outside ps s (t.acknowledged l c) ↔ Outside ps s t := outside_iff (State.acknowledged_outside l c t) h

/-- The frame of `State.irregularCode`. -/
theorem State.irregularCode_outside (e : CodeEvent) (g : HalfStage) (b : Bool) (s : State) :
    Outside [.emitted] s (s.irregularCode e g b) := by
  unfold State.irregularCode; simp
@[simp] theorem State.outside_irregularCode (e : CodeEvent) (g : HalfStage) (b : Bool) (h : [Part.emitted] ⊆ ps) :
    Outside ps s (t.irregularCode e g b) ↔ Outside ps s t := outside_iff (State.irregularCode_outside e g b t) h

/-- The frame of `State.registerFull`. -/
theorem State.registerFull_outside (e : CodeEvent) (x : Nat) (s : State) :
    Outside [.sections, .emitted] s (s.registerFull e x) := by
  unfold State.registerFull; dsimp only; repeat' split
  all_goals simp
@[simp] theorem State.outside_registerFull (e : CodeEvent) (x : Nat) (h : [Part.sections, .emitted] ⊆ ps) :
    Outside ps s (t.registerFull e x) ↔ Outside ps s t := outside_iff (State.registerFull_outside e x t) h

/-- The frame of `State.allocate`. -/
theorem State.allocate_outside {r : Nat} (h : s.allocate = some (r, u)) :
    Outside [.register, .alerts, .sounder, .emitted] s u := by
  unfold State.allocate at h; dsimp only at h; repeat' split at h
  all_goals first | (cases h; done) | (obtain ⟨-, rfl⟩ := Prod.mk.inj (Option.some.inj h); simp)

/-- An allocation is stripped from a frame that lists its changes. -/
theorem State.outside_allocate {r : Nat} (h : t.allocate = some (r, u))
    (hp : [Part.register, .alerts, .sounder, .emitted] ⊆ ps) : Outside ps s u ↔ Outside ps s t :=
  outside_iff (State.allocate_outside h) hp

/-- The frame of `State.attachOutbound`. -/
theorem State.attachOutbound_outside (e : CodeEvent) (x r : Nat) (s : State) :
    Outside [.register] s (s.attachOutbound e x r) := by
  unfold State.attachOutbound; dsimp only; simp
@[simp] theorem State.outside_attachOutbound (e : CodeEvent) (x r : Nat) (h : [Part.register] ⊆ ps) :
    Outside ps s (t.attachOutbound e x r) ↔ Outside ps s t := outside_iff (State.attachOutbound_outside e x r t) h

/-- The frame of `State.receivedOffer`. -/
theorem State.receivedOffer_outside (e : CodeEvent) (c x : Nat) (s : State) :
    Outside [.register, .sections, .alerts, .sounder, .emitted] s (s.receivedOffer e c x) := by
  unfold State.receivedOffer; dsimp only; split
  · simp
  · rename_i h; simp [State.outside_allocate h]
@[simp] theorem State.outside_receivedOffer (e : CodeEvent) (c x : Nat) (h : [Part.register, .sections, .alerts, .sounder, .emitted] ⊆ ps) :
    Outside ps s (t.receivedOffer e c x) ↔ Outside ps s t := outside_iff (State.receivedOffer_outside e c x t) h

/-- The frame of `State.sentOffer`. -/
theorem State.sentOffer_outside (e : CodeEvent) (x : Nat) (k : Option Nat) (s : State) :
    Outside [.register, .sections, .alerts, .sounder, .emitted] s (s.sentOffer e x k) := by
  unfold State.sentOffer; dsimp only; split
  · simp
  · split
    · simp
    · rename_i h; simp [State.outside_allocate h]
@[simp] theorem State.outside_sentOffer (e : CodeEvent) (x : Nat) (k : Option Nat) (h : [Part.register, .sections, .alerts, .sounder, .emitted] ⊆ ps) :
    Outside ps s (t.sentOffer e x k) ↔ Outside ps s t := outside_iff (State.sentOffer_outside e x k t) h

/-- The frame of `State.stageInbound`. -/
theorem State.stageInbound_outside (r : Nat) (g : HalfStage) (b : Bool) (s : State) :
    Outside [.register, .emitted] s (s.stageInbound r g b) := by
  unfold State.stageInbound; dsimp only; repeat' split
  all_goals simp
@[simp] theorem State.outside_stageInbound (r : Nat) (g : HalfStage) (b : Bool) (h : [Part.register, .emitted] ⊆ ps) :
    Outside ps s (t.stageInbound r g b) ↔ Outside ps s t := outside_iff (State.stageInbound_outside r g b t) h

/-- The frame of `State.stageOutbound`. -/
theorem State.stageOutbound_outside (r : Nat) (g : HalfStage) (s : State) :
    Outside [.register, .emitted] s (s.stageOutbound r g) := by
  unfold State.stageOutbound; dsimp only; repeat' split
  all_goals simp
@[simp] theorem State.outside_stageOutbound (r : Nat) (g : HalfStage) (h : [Part.register, .emitted] ⊆ ps) :
    Outside ps s (t.stageOutbound r g) ↔ Outside ps s t := outside_iff (State.stageOutbound_outside r g t) h

/-- The frame of `State.inboundCode`. -/
theorem State.inboundCode_outside (e : CodeEvent) (x : Nat) (m : Meaning) (s : State) :
    Outside [.register, .emitted] s (s.inboundCode e x m) := by
  unfold State.inboundCode; dsimp only; repeat' split
  all_goals simp
@[simp] theorem State.outside_inboundCode (e : CodeEvent) (x : Nat) (m : Meaning) (h : [Part.register, .emitted] ⊆ ps) :
    Outside ps s (t.inboundCode e x m) ↔ Outside ps s t := outside_iff (State.inboundCode_outside e x m t) h

/-- The frame of `State.outboundCode`. -/
theorem State.outboundCode_outside (e : CodeEvent) (x : Nat) (m : Meaning) (s : State) :
    Outside [.register, .emitted] s (s.outboundCode e x m) := by
  unfold State.outboundCode; repeat' split
  all_goals simp
@[simp] theorem State.outside_outboundCode (e : CodeEvent) (x : Nat) (m : Meaning) (h : [Part.register, .emitted] ⊆ ps) :
    Outside ps s (t.outboundCode e x m) ↔ Outside ps s t := outside_iff (State.outboundCode_outside e x m t) h

/-- The frame of `State.codeEvent`. -/
theorem State.codeEvent_outside (e : CodeEvent) (c : Nat) (k : Option Nat) (s : State) :
    Outside [.register, .sections, .alerts, .sounder, .emitted] s (s.codeEvent e c k) := by
  unfold State.codeEvent; dsimp only; repeat' split
  all_goals simp
@[simp] theorem State.outside_codeEvent (e : CodeEvent) (c : Nat) (k : Option Nat) (h : [Part.register, .sections, .alerts, .sounder, .emitted] ⊆ ps) :
    Outside ps s (t.codeEvent e c k) ↔ Outside ps s t := outside_iff (State.codeEvent_outside e c k t) h

/-- The frame of `State.attributeTo`. -/
theorem State.attributeTo_outside (a r : Nat) (b : Bool) (s : State) :
    Outside [.register, .emitted] s (s.attributeTo a r b) := by
  unfold State.attributeTo; dsimp only; simp
@[simp] theorem State.outside_attributeTo (a r : Nat) (b : Bool) (h : [Part.register, .emitted] ⊆ ps) :
    Outside ps s (t.attributeTo a r b) ↔ Outside ps s t := outside_iff (State.attributeTo_outside a r b t) h

/-- The frame of `State.attribute`. -/
theorem State.attribute_outside (a : Nat) (s : State) :
    Outside [.register, .alerts, .sounder, .emitted] s (s.attribute a) := by
  unfold State.attribute; dsimp only; repeat' split
  all_goals simp
@[simp] theorem State.outside_attribute (a : Nat) (h : [Part.register, .alerts, .sounder, .emitted] ⊆ ps) :
    Outside ps s (t.attribute a) ↔ Outside ps s t := outside_iff (State.attribute_outside a t) h

/-- The frame of `State.depart`. -/
theorem State.depart_outside (r a : Nat) (s : State) :
    Outside [.register, .emitted] s (s.depart r a) := by
  unfold State.depart; dsimp only; simp
@[simp] theorem State.outside_depart (r a : Nat) (h : [Part.register, .emitted] ⊆ ps) :
    Outside ps s (t.depart r a) ↔ Outside ps s t := outside_iff (State.depart_outside r a t) h

/-- The frame of `State.headClears`. -/
theorem State.headClears_outside (a r : Nat) (s : State) : Outside [.register, .emitted] s (State.headClears a s r) := by
  unfold State.headClears; dsimp only; repeat' split
  all_goals simp

/-- The frame of `State.headsClear`. -/
theorem State.headsClear_outside (a : Nat) (s : State) :
    Outside [.register, .emitted] s (s.headsClear a) := by
  unfold State.headsClear; simp [State.headClears_outside]
@[simp] theorem State.outside_headsClear (a : Nat) (h : [Part.register, .emitted] ⊆ ps) :
    Outside ps s (t.headsClear a) ↔ Outside ps s t := outside_iff (State.headsClear_outside a t) h

/-- The frame of `State.departOnRepeater`. -/
theorem State.departOnRepeater_outside (x : Nat) (s : State) :
    Outside [.register, .emitted] s (s.departOnRepeater x) := by
  unfold State.departOnRepeater; simp
@[simp] theorem State.outside_departOnRepeater (x : Nat) (h : [Part.register, .emitted] ⊆ ps) :
    Outside ps s (t.departOnRepeater x) ↔ Outside ps s t := outside_iff (State.departOnRepeater_outside x t) h

/-- The frame of `State.moveSection`. -/
theorem State.moveSection_outside (x : Nat) (d : LineState) (s : State) :
    Outside [.sections, .register, .emitted] s (s.moveSection x d) := by
  unfold State.moveSection; dsimp only; repeat' split
  all_goals simp
@[simp] theorem State.outside_moveSection (x : Nat) (d : LineState) (h : [Part.sections, .register, .emitted] ⊆ ps) :
    Outside ps s (t.moveSection x d) ↔ Outside ps s t := outside_iff (State.moveSection_outside x d t) h

/-- The frame of `State.moveRequest`. -/
theorem State.moveRequest_outside (x : Nat) (d : LineState) (s : State) :
    Outside [.sections, .register, .emitted] s (s.moveRequest x d) := by
  unfold State.moveRequest; dsimp only; repeat' split
  all_goals simp
@[simp] theorem State.outside_moveRequest (x : Nat) (d : LineState) (h : [Part.sections, .register, .emitted] ⊆ ps) :
    Outside ps s (t.moveRequest x d) ↔ Outside ps s t := outside_iff (State.moveRequest_outside x d t) h

/-- The frame of `State.switchMoves`. -/
theorem State.switchMoves_outside (x : Nat) (s : State) :
    Outside [.sections, .register, .emitted] s (s.switchMoves x) := by
  unfold State.switchMoves; dsimp only; repeat' split
  all_goals simp
@[simp] theorem State.outside_switchMoves (x : Nat) (h : [Part.sections, .register, .emitted] ⊆ ps) :
    Outside ps s (t.switchMoves x) ↔ Outside ps s t := outside_iff (State.switchMoves_outside x t) h

/-- The frame of `State.foul`. -/
theorem State.foul_outside (x : Nat) (s : State) :
    Outside [.sections, .alerts, .sounder, .emitted] s (s.foul x) := by
  unfold State.foul; dsimp only; simp
@[simp] theorem State.outside_foul (x : Nat) (h : [Part.sections, .alerts, .sounder, .emitted] ⊆ ps) :
    Outside ps s (t.foul x) ↔ Outside ps s t := outside_iff (State.foul_outside x t) h

/-- The frame of `State.clearingOccupied`. -/
theorem State.clearingOccupied_outside (x : Nat) (s : State) :
    Outside [.sections, .alerts, .sounder, .emitted] s (s.clearingOccupied x) := by
  unfold State.clearingOccupied; dsimp only; repeat' split
  all_goals simp
@[simp] theorem State.outside_clearingOccupied (x : Nat) (h : [Part.sections, .alerts, .sounder, .emitted] ⊆ ps) :
    Outside ps s (t.clearingOccupied x) ↔ Outside ps s t := outside_iff (State.clearingOccupied_outside x t) h

/-- The frame of `State.clearingCleared`. -/
theorem State.clearingCleared_outside (x : Nat) (s : State) :
    Outside [.sections, .emitted] s (s.clearingCleared x) := by
  unfold State.clearingCleared; dsimp only; repeat' split
  all_goals simp
@[simp] theorem State.outside_clearingCleared (x : Nat) (h : [Part.sections, .emitted] ⊆ ps) :
    Outside ps s (t.clearingCleared x) ↔ Outside ps s t := outside_iff (State.clearingCleared_outside x t) h

/-- The frame of `State.sectionsTrackOccupied`. -/
theorem State.sectionsTrackOccupied_outside (a : Nat) (s : State) :
    Outside [.sections, .alerts, .sounder, .emitted] s (s.sectionsTrackOccupied a) := by
  unfold State.sectionsTrackOccupied; simp
@[simp] theorem State.outside_sectionsTrackOccupied (a : Nat) (h : [Part.sections, .alerts, .sounder, .emitted] ⊆ ps) :
    Outside ps s (t.sectionsTrackOccupied a) ↔ Outside ps s t := outside_iff (State.sectionsTrackOccupied_outside a t) h

/-- The frame of `State.sectionsTrackCleared`. -/
theorem State.sectionsTrackCleared_outside (a : Nat) (s : State) :
    Outside [.sections, .emitted] s (s.sectionsTrackCleared a) := by
  unfold State.sectionsTrackCleared; simp
@[simp] theorem State.outside_sectionsTrackCleared (a : Nat) (h : [Part.sections, .emitted] ⊆ ps) :
    Outside ps s (t.sectionsTrackCleared a) ↔ Outside ps s t := outside_iff (State.sectionsTrackCleared_outside a t) h

/-- The frame of `State.releaseFollows`. -/
theorem State.releaseFollows_outside (x : Nat) (o d : LineState) (s : State) :
    Outside [.sections, .emitted] s (s.releaseFollows x o d) := by
  unfold State.releaseFollows; dsimp only; repeat' split
  all_goals simp
@[simp] theorem State.outside_releaseFollows (x : Nat) (o d : LineState) (h : [Part.sections, .emitted] ⊆ ps) :
    Outside ps s (t.releaseFollows x o d) ↔ Outside ps s t := outside_iff (State.releaseFollows_outside x o d t) h

/-- The frame of `State.recordsTakeRepeater`. -/
theorem State.recordsTakeRepeater_outside (x : Nat) (d : LineState) (s : State) :
    Outside [.register, .emitted] s (s.recordsTakeRepeater x d) := by
  unfold State.recordsTakeRepeater; repeat' split
  all_goals simp
@[simp] theorem State.outside_recordsTakeRepeater (x : Nat) (d : LineState) (h : [Part.register, .emitted] ⊆ ps) :
    Outside ps s (t.recordsTakeRepeater x d) ↔ Outside ps s t := outside_iff (State.recordsTakeRepeater_outside x d t) h

/-- The frame of `State.repeaterTransition`. -/
theorem State.repeaterTransition_outside (x : Nat) (d : LineState) (s : State) :
    Outside [.sections, .register, .emitted] s (s.repeaterTransition x d) := by
  unfold State.repeaterTransition; simp
@[simp] theorem State.outside_repeaterTransition (x : Nat) (d : LineState) (h : [Part.sections, .register, .emitted] ⊆ ps) :
    Outside ps s (t.repeaterTransition x d) ↔ Outside ps s t := outside_iff (State.repeaterTransition_outside x d t) h

/-- The frame of `State.blockLineChanged`. -/
theorem State.blockLineChanged_outside (x : Nat) (s : State) :
    Outside [.sections] s (s.blockLineChanged x) := by
  unfold State.blockLineChanged; dsimp only; repeat' split
  all_goals simp
@[simp] theorem State.outside_blockLineChanged (x : Nat) (h : [Part.sections] ⊆ ps) :
    Outside ps s (t.blockLineChanged x) ↔ Outside ps s t := outside_iff (State.blockLineChanged_outside x t) h

/-- The frame of `State.consumeRelease`. -/
theorem State.consumeRelease_outside (n : Nat) (s : State) :
    Outside [.sections, .emitted] s (s.consumeRelease n) := by
  unfold State.consumeRelease; dsimp only; repeat' split
  all_goals simp
@[simp] theorem State.outside_consumeRelease (n : Nat) (h : [Part.sections, .emitted] ⊆ ps) :
    Outside ps s (t.consumeRelease n) ↔ Outside ps s t := outside_iff (State.consumeRelease_outside n t) h

/-- The frame of `State.sectionTakesReceived`. -/
theorem State.sectionTakesReceived_outside (l : Nat) (m : Meaning) (s : State) :
    Outside [.sections, .alerts, .sounder, .emitted] s (s.sectionTakesReceived l m) := by
  unfold State.sectionTakesReceived; dsimp only; repeat' split
  all_goals simp
@[simp] theorem State.outside_sectionTakesReceived (l : Nat) (m : Meaning) (h : [Part.sections, .alerts, .sounder, .emitted] ⊆ ps) :
    Outside ps s (t.sectionTakesReceived l m) ↔ Outside ps s t := outside_iff (State.sectionTakesReceived_outside l m t) h

/-- The frame of `State.restoreSection`. -/
theorem State.restoreSection_outside (x : Nat) (s : State) :
    Outside [.sections, .emitted] s (s.restoreSection x) := by
  unfold State.restoreSection; dsimp only; simp
@[simp] theorem State.outside_restoreSection (x : Nat) (h : [Part.sections, .emitted] ⊆ ps) :
    Outside ps s (t.restoreSection x) ↔ Outside ps s t := outside_iff (State.restoreSection_outside x t) h

end Sys2Proof.Machine
end

