-- ==== Sys2Proof/Laws/FrameLevers.lean ====
section
/-! SUPPORT. Frames of the Lever Locking Unit and the Track Circuit Unit. -/

namespace Sys2Proof.Machine

variable {ps qs : List Part} {s t u : State}

/-- The frame of `State.present`. -/
theorem State.present_outside (n : Nat) (old : Standing) (b : Bool) (s : State) :
    Outside [.levers, .holds, .sections, .emitted] s (s.present n old b) := by
  unfold State.present; dsimp only; repeat' split
  all_goals simp
@[simp] theorem State.outside_present (n : Nat) (old : Standing) (b : Bool) (h : [Part.levers, .holds, .sections, .emitted] ⊆ ps) :
    Outside ps s (t.present n old b) ↔ Outside ps s t := outside_iff (State.present_outside n old b t) h

/-- The frame of `State.moveLever`. -/
theorem State.moveLever_outside (n : Nat) (l : Lever) (e : NoticeEvent) (x : List Byte) (b : Bool) (s : State) :
    Outside [.levers, .holds, .sections, .emitted] s (s.moveLever n l e x b) := by
  unfold State.moveLever; simp
@[simp] theorem State.outside_moveLever (n : Nat) (l : Lever) (e : NoticeEvent) (x : List Byte) (b : Bool) (h : [Part.levers, .holds, .sections, .emitted] ⊆ ps) :
    Outside ps s (t.moveLever n l e x b) ↔ Outside ps s t := outside_iff (State.moveLever_outside n l e x b t) h

/-- A change of standing position that is no arrival reaches the holds alone. -/
theorem State.present_found_outside (n : Nat) (old : Standing) (s : State) :
    Outside [.holds, .emitted] s (s.present n old false) := by
  unfold State.present; dsimp only; repeat' split
  all_goals simp_all

/-- A lever that moves without arriving changes the levers and the holds alone. -/
@[simp] theorem State.outside_moveLever_found (n : Nat) (l : Lever) (e : NoticeEvent) (x : List Byte)
    (h : [Part.levers, .holds, .emitted] ⊆ ps) :
    Outside ps s (t.moveLever n l e x false) ↔ Outside ps s t := by
  have h' := h
  simp only [List.cons_subset, List.nil_subset, and_true] at h'
  exact (outside_iff (State.present_found_outside n (t.standing n) ((t.putLever n l).emit e n x))
    (by simp [h'])).trans (by simp [h'])

/-- The frame of `State.grantLever`. -/
theorem State.grantLever_outside (n : Nat) (s : State) :
    Outside [.levers, .holds, .emitted] s (s.grantLever n) := by
  unfold State.grantLever; dsimp only; simp
@[simp] theorem State.outside_grantLever (n : Nat) (h : [Part.levers, .holds, .emitted] ⊆ ps) :
    Outside ps s (t.grantLever n) ↔ Outside ps s t := outside_iff (State.grantLever_outside n t) h

/-- The frame of `State.withdraw`. -/
theorem State.withdraw_outside (n : Nat) (f : GrantFail) (s : State) :
    Outside [.levers, .holds, .emitted] s (s.withdraw n f) := by
  unfold State.withdraw; dsimp only; simp
@[simp] theorem State.outside_withdraw (n : Nat) (f : GrantFail) (h : [Part.levers, .holds, .emitted] ⊆ ps) :
    Outside ps s (t.withdraw n f) ↔ Outside ps s t := outside_iff (State.withdraw_outside n f t) h

/-- The frame of `State.withdrawPass`. -/
theorem State.withdrawPass_outside (s : State) :
    Outside [.levers, .holds, .emitted] s (s.withdrawPass) := by
  unfold State.withdrawPass; simp
@[simp] theorem State.outside_withdrawPass (h : [Part.levers, .holds, .emitted] ⊆ ps) :
    Outside ps s (t.withdrawPass) ↔ Outside ps s t := outside_iff (State.withdrawPass_outside t) h

/-- The frame of `State.settleLevers`. -/
theorem State.settleLevers_outside (fuel : Nat) (s : State) :
    Outside [.levers, .holds, .choices, .emitted] s (s.settleLevers fuel) := by
  induction fuel generalizing s with
  | zero => simp [State.settleLevers]
  | succ fuel ih =>
    unfold State.settleLevers; dsimp only; split
    · simp
    · exact Outside.trans (by simp) (ih _)
    · refine Outside.trans ?_ (ih _)
      rw [State.outside_grantLever _ (by simp)]
      refine Outside.trans (t := s.withdrawPass) (by simp) ?_
      intro p hp; cases p <;> simp_all [Part.Same]

/-! ### `State.removalsLast` -/

@[simp] theorem State.removalsLast_now : s.removalsLast.now = s.now := rfl
@[simp] theorem State.removalsLast_powered : s.removalsLast.powered = s.powered := rfl
@[simp] theorem State.removalsLast_inputs : s.removalsLast.inputs = s.inputs := rfl
@[simp] theorem State.removalsLast_tracks : s.removalsLast.tracks = s.tracks := rfl
@[simp] theorem State.removalsLast_levers : s.removalsLast.levers = s.levers := rfl
@[simp] theorem State.removalsLast_set : s.removalsLast.set = s.set := rfl
@[simp] theorem State.removalsLast_holds : s.removalsLast.holds = s.holds := rfl
@[simp] theorem State.removalsLast_sections : s.removalsLast.sections = s.sections := rfl
@[simp] theorem State.removalsLast_bells : s.removalsLast.bells = s.bells := rfl
@[simp] theorem State.removalsLast_register : s.removalsLast.register = s.register := rfl
@[simp] theorem State.removalsLast_panel : s.removalsLast.panel = s.panel := rfl
@[simp] theorem State.removalsLast_link : s.removalsLast.link = s.link := rfl
@[simp] theorem State.removalsLast_control : s.removalsLast.control = s.control := rfl
@[simp] theorem State.removalsLast_store : s.removalsLast.store = s.store := rfl
@[simp] theorem State.removalsLast_choices : s.removalsLast.choices = s.choices := rfl
@[simp] theorem State.removalsLast_pending : s.removalsLast.pending = s.pending := rfl
/-- The order of the notices changes, not which notices there are. -/
@[simp] theorem State.mem_removalsLast (d : Draft) : d ∈ s.removalsLast.emitted ↔ d ∈ s.emitted := by
  simp only [State.removalsLast, List.mem_append, List.mem_filter]
  by_cases h : d.event = .holdRemoved <;> simp [h]

/-- The frame of `State.removalsLast`. -/
theorem State.removalsLast_outside (s : State) : Outside [.emitted] s s.removalsLast := by
  intro p hp; cases p <;> simp_all [Part.Same]
@[simp] theorem State.outside_removalsLast (h : [Part.emitted] ⊆ ps) :
    Outside ps s t.removalsLast ↔ Outside ps s t := outside_iff (State.removalsLast_outside t) h

/-- The frame of `State.settle`. -/
theorem State.settle_outside (s : State) :
    Outside [.levers, .holds, .choices, .emitted] s (s.settle) := by
  unfold State.settle
  exact (State.settleLevers_outside 48 s).trans ((State.removalsLast_outside _).mono (by simp))
@[simp] theorem State.outside_settle (h : [Part.levers, .holds, .choices, .emitted] ⊆ ps) :
    Outside ps s (t.settle) ↔ Outside ps s t := outside_iff (State.settle_outside t) h

/-- The frame of `State.readyLapses`. -/
theorem State.readyLapses_outside (n : Nat) (s : State) :
    Outside [.levers, .holds, .choices, .alerts, .sounder, .emitted] s (s.readyLapses n) := by
  unfold State.readyLapses; repeat' split
  all_goals simp
@[simp] theorem State.outside_readyLapses (n : Nat) (h : [Part.levers, .holds, .choices, .alerts, .sounder, .emitted] ⊆ ps) :
    Outside ps s (t.readyLapses n) ↔ Outside ps s t := outside_iff (State.readyLapses_outside n t) h

/-- The frame of `State.stabilityExpires`. -/
theorem State.stabilityExpires_outside (x : Nat) (s : State) :
    Outside [.sections, .register, .levers, .holds, .choices, .emitted] s (s.stabilityExpires x) := by
  unfold State.stabilityExpires; dsimp only; repeat' split
  all_goals simp
@[simp] theorem State.outside_stabilityExpires (x : Nat) (h : [Part.sections, .register, .levers, .holds, .choices, .emitted] ⊆ ps) :
    Outside ps s (t.stabilityExpires x) ↔ Outside ps s t := outside_iff (State.stabilityExpires_outside x t) h

/-- The frame of `State.becomesOccupied`. -/
theorem State.becomesOccupied_outside (a : Nat) (s : State) :
    Outside [.holds, .sections, .alerts, .sounder, .emitted] s (s.becomesOccupied a) := by
  unfold State.becomesOccupied; simp
@[simp] theorem State.outside_becomesOccupied (a : Nat) (h : [Part.holds, .sections, .alerts, .sounder, .emitted] ⊆ ps) :
    Outside ps s (t.becomesOccupied a) ↔ Outside ps s t := outside_iff (State.becomesOccupied_outside a t) h

/-- The frame of `State.becomesClear`. -/
theorem State.becomesClear_outside (a : Nat) (s : State) :
    Outside [.holds, .sections, .register, .emitted] s (s.becomesClear a) := by
  unfold State.becomesClear; simp
@[simp] theorem State.outside_becomesClear (a : Nat) (h : [Part.holds, .sections, .register, .emitted] ⊆ ps) :
    Outside ps s (t.becomesClear a) ↔ Outside ps s t := outside_iff (State.becomesClear_outside a t) h

/-- The frame of `State.countMark`. -/
theorem State.countMark_outside (a : Nat) (b : Bool) (s : State) :
    Outside [.counters] s (s.countMark a b) := by
  unfold State.countMark; repeat' split
  all_goals simp
@[simp] theorem State.outside_countMark (a : Nat) (b : Bool) (h : [Part.counters] ⊆ ps) :
    Outside ps s (t.countMark a b) ↔ Outside ps s t := outside_iff (State.countMark_outside a b t) h

/-- The frame of `State.occupationStarts`. -/
theorem State.occupationStarts_outside (a : Nat) (s : State) :
    Outside [.tracks, .holds, .sections, .register, .alerts, .sounder, .levers, .choices, .emitted] s (s.occupationStarts a) := by
  unfold State.occupationStarts; dsimp only; repeat' split
  all_goals simp
@[simp] theorem State.outside_occupationStarts (a : Nat) (h : [Part.tracks, .holds, .sections, .register, .alerts, .sounder, .levers, .choices, .emitted] ⊆ ps) :
    Outside ps s (t.occupationStarts a) ↔ Outside ps s t := outside_iff (State.occupationStarts_outside a t) h

/-- The frame of `State.flicker`. -/
theorem State.flicker_outside (a : Nat) (s : State) :
    Outside [.tracks, .counters, .alerts, .sounder, .emitted] s (s.flicker a) := by
  unfold State.flicker; dsimp only; repeat' split
  all_goals simp
@[simp] theorem State.outside_flicker (a : Nat) (h : [Part.tracks, .counters, .alerts, .sounder, .emitted] ⊆ ps) :
    Outside ps s (t.flicker a) ↔ Outside ps s t := outside_iff (State.flicker_outside a t) h

/-- The frame of `State.relayDrops`. -/
theorem State.relayDrops_outside (a : Nat) (s : State) :
    Outside [.tracks, .holds, .sections, .register, .alerts, .sounder, .levers, .choices, .emitted, .counters] s (s.relayDrops a) := by
  unfold State.relayDrops; repeat' split
  all_goals simp
@[simp] theorem State.outside_relayDrops (a : Nat) (h : [Part.tracks, .holds, .sections, .register, .alerts, .sounder, .levers, .choices, .emitted, .counters] ⊆ ps) :
    Outside ps s (t.relayDrops a) ↔ Outside ps s t := outside_iff (State.relayDrops_outside a t) h

/-- The frame of `State.beginPicking`. -/
theorem State.beginPicking_outside (a : Nat) (s : State) :
    Outside [.tracks] s (s.beginPicking a) := by
  unfold State.beginPicking; dsimp only; simp
@[simp] theorem State.outside_beginPicking (a : Nat) (h : [Part.tracks] ⊆ ps) :
    Outside ps s (t.beginPicking a) ↔ Outside ps s t := outside_iff (State.beginPicking_outside a t) h

/-- The frame of `State.relayPicksUp`. -/
theorem State.relayPicksUp_outside (a : Nat) (s : State) :
    Outside [.tracks] s (s.relayPicksUp a) := by
  unfold State.relayPicksUp; repeat' split
  all_goals simp
@[simp] theorem State.outside_relayPicksUp (a : Nat) (h : [Part.tracks] ⊆ ps) :
    Outside ps s (t.relayPicksUp a) ↔ Outside ps s t := outside_iff (State.relayPicksUp_outside a t) h

/-- The frame of `State.pickUpExpires`. -/
theorem State.pickUpExpires_outside (a : Nat) (s : State) :
    Outside [.tracks, .holds, .sections, .register, .levers, .choices, .emitted] s (s.pickUpExpires a) := by
  unfold State.pickUpExpires; dsimp only; repeat' split
  all_goals simp
@[simp] theorem State.outside_pickUpExpires (a : Nat) (h : [Part.tracks, .holds, .sections, .register, .levers, .choices, .emitted] ⊆ ps) :
    Outside ps s (t.pickUpExpires a) ↔ Outside ps s t := outside_iff (State.pickUpExpires_outside a t) h

/-- The frame of `State.suspectRequest`. -/
theorem State.suspectRequest_outside (a : Nat) (s : State) :
    Outside [.tracks, .counters, .holds, .sections, .alerts, .sounder, .emitted] s (s.suspectRequest a) := by
  unfold State.suspectRequest; dsimp only; repeat' split
  all_goals simp
@[simp] theorem State.outside_suspectRequest (a : Nat) (h : [Part.tracks, .counters, .holds, .sections, .alerts, .sounder, .emitted] ⊆ ps) :
    Outside ps s (t.suspectRequest a) ↔ Outside ps s t := outside_iff (State.suspectRequest_outside a t) h

/-- The frame of `State.trackRestore`. -/
theorem State.trackRestore_outside (a : Nat) (s : State) :
    Outside [.tracks, .holds, .sections, .register, .levers, .choices, .emitted] s ((s.trackRestore a).2.2) := by
  unfold State.trackRestore; dsimp only; repeat' split
  all_goals simp
@[simp] theorem State.outside_trackRestore (a : Nat) (h : [Part.tracks, .holds, .sections, .register, .levers, .choices, .emitted] ⊆ ps) :
    Outside ps s ((t.trackRestore a).2.2) ↔ Outside ps s t := outside_iff (State.trackRestore_outside a t) h

/-- The frame of `State.graceExpires`. -/
theorem State.graceExpires_outside (r : Nat) (s : State) :
    Outside [.tracks, .counters, .holds, .sections, .register, .alerts, .sounder, .levers, .choices, .emitted] s (s.graceExpires r) := by
  unfold State.graceExpires; dsimp only; repeat' split
  all_goals simp
@[simp] theorem State.outside_graceExpires (r : Nat) (h : [Part.tracks, .counters, .holds, .sections, .register, .alerts, .sounder, .levers, .choices, .emitted] ⊆ ps) :
    Outside ps s (t.graceExpires r) ↔ Outside ps s t := outside_iff (State.graceExpires_outside r t) h

/-- The frame of `State.derive`. -/
theorem State.derive_outside (n : Nat) (s : State) :
    Outside [.levers] s (s.derive n) := by
  unfold State.derive; dsimp only; simp
@[simp] theorem State.outside_derive (n : Nat) (h : [Part.levers] ⊆ ps) :
    Outside ps s (t.derive n) ↔ Outside ps s t := outside_iff (State.derive_outside n t) h

/-- The frame of `State.tryEnd`. -/
theorem State.tryEnd_outside (n : Nat) (s : State) :
    Outside [.levers, .holds, .sections, .choices, .emitted] s (s.tryEnd n) := by
  unfold State.tryEnd; dsimp only; repeat' split
  all_goals simp
@[simp] theorem State.outside_tryEnd (n : Nat) (h : [Part.levers, .holds, .sections, .choices, .emitted] ⊆ ps) :
    Outside ps s (t.tryEnd n) ↔ Outside ps s t := outside_iff (State.tryEnd_outside n t) h

/-- The frame of `State.catchLifts`. -/
theorem State.catchLifts_outside (n : Nat) (s : State) :
    Outside [.levers, .holds, .choices, .emitted] s (s.catchLifts n) := by
  unfold State.catchLifts; dsimp only; repeat' split
  all_goals simp
@[simp] theorem State.outside_catchLifts (n : Nat) (h : [Part.levers, .holds, .choices, .emitted] ⊆ ps) :
    Outside ps s (t.catchLifts n) ↔ Outside ps s t := outside_iff (State.catchLifts_outside n t) h

/-- The frame of `State.catchLowers`. -/
theorem State.catchLowers_outside (n : Nat) (s : State) :
    Outside [.levers, .holds, .sections, .choices, .emitted] s (s.catchLowers n) := by
  unfold State.catchLowers; dsimp only; repeat' split
  all_goals simp
@[simp] theorem State.outside_catchLowers (n : Nat) (h : [Part.levers, .holds, .sections, .choices, .emitted] ⊆ ps) :
    Outside ps s (t.catchLowers n) ↔ Outside ps s t := outside_iff (State.catchLowers_outside n t) h

/-- The frame of `State.forcedMovement`. -/
theorem State.forcedMovement_outside (n : Nat) (s : State) :
    Outside [.levers, .counters, .alerts, .sounder, .emitted] s (s.forcedMovement n) := by
  unfold State.forcedMovement; simp
@[simp] theorem State.outside_forcedMovement (n : Nat) (h : [Part.levers, .counters, .alerts, .sounder, .emitted] ⊆ ps) :
    Outside ps s (t.forcedMovement n) ↔ Outside ps s t := outside_iff (State.forcedMovement_outside n t) h

/-- The frame of `State.detectorOpens`. -/
theorem State.detectorOpens_outside (n : Nat) (s : State) :
    Outside [.levers, .holds, .sections, .choices, .counters, .alerts, .sounder, .emitted] s (s.detectorOpens n) := by
  unfold State.detectorOpens; dsimp only; repeat' split
  all_goals simp
@[simp] theorem State.outside_detectorOpens (n : Nat) (h : [Part.levers, .holds, .sections, .choices, .counters, .alerts, .sounder, .emitted] ⊆ ps) :
    Outside ps s (t.detectorOpens n) ↔ Outside ps s t := outside_iff (State.detectorOpens_outside n t) h

/-- The frame of `State.detectorMakes`. -/
theorem State.detectorMakes_outside (n : Nat) (s : State) :
    Outside [.levers, .holds, .sections, .choices, .emitted] s (s.detectorMakes n) := by
  unfold State.detectorMakes; dsimp only; repeat' split
  all_goals simp
@[simp] theorem State.outside_detectorMakes (n : Nat) (h : [Part.levers, .holds, .sections, .choices, .emitted] ⊆ ps) :
    Outside ps s (t.detectorMakes n) ↔ Outside ps s t := outside_iff (State.detectorMakes_outside n t) h

/-- The frame of `State.travelExpires`. -/
theorem State.travelExpires_outside (n : Nat) (s : State) :
    Outside [.levers, .alerts, .sounder, .emitted] s (s.travelExpires n) := by
  unfold State.travelExpires; dsimp only; repeat' split
  all_goals simp
@[simp] theorem State.outside_travelExpires (n : Nat) (h : [Part.levers, .alerts, .sounder, .emitted] ⊆ ps) :
    Outside ps s (t.travelExpires n) ↔ Outside ps s t := outside_iff (State.travelExpires_outside n t) h

/-- The frame of `State.leversOnHold`. -/
theorem State.leversOnHold_outside (s : State) :
    Outside [.levers] s (s.leversOnHold) := by
  intro p hp; cases p <;> simp_all [Part.Same, State.leversOnHold]
@[simp] theorem State.outside_leversOnHold (h : [Part.levers] ⊆ ps) :
    Outside ps s (t.leversOnHold) ↔ Outside ps s t := outside_iff (State.leversOnHold_outside t) h

/-- The frame of `State.clearMark`. -/
theorem State.clearMark_outside (n : Nat) (s : State) :
    Outside [.levers, .emitted] s (s.clearMark n) := by
  unfold State.clearMark; dsimp only; repeat' split
  all_goals simp
@[simp] theorem State.outside_clearMark (n : Nat) (h : [Part.levers, .emitted] ⊆ ps) :
    Outside ps s (t.clearMark n) ↔ Outside ps s t := outside_iff (State.clearMark_outside n t) h

/-- The frame of `State.clearSticky`. -/
theorem State.clearSticky_outside (n : Nat) (s : State) :
    Outside [.levers, .emitted] s ((s.clearSticky n).2.2) := by
  unfold State.clearSticky; repeat' split
  all_goals simp
@[simp] theorem State.outside_clearSticky (n : Nat) (h : [Part.levers, .emitted] ⊆ ps) :
    Outside ps s ((t.clearSticky n).2.2) ↔ Outside ps s t := outside_iff (State.clearSticky_outside n t) h

end Sys2Proof.Machine
end

