-- ==== Sys2Proof/Laws/FrameBells.lean ====
section
/-! SUPPORT. Frames of the Bell Unit, of the switching of the box, and of the Panel Output Unit. -/

namespace Sys2Proof.Machine

variable {ps qs : List Part} {s t u : State}

/-- The frame of `State.exchanged`. -/
theorem State.exchanged_outside (l : Nat) (c : Code) (b : Bool) (s : State) :
    Outside [.bells] s (s.exchanged l c b) := by
  unfold State.exchanged; dsimp only; simp
@[simp] theorem State.outside_exchanged (l : Nat) (c : Code) (b : Bool) (h : [Part.bells] ⊆ ps) :
    Outside ps s (t.exchanged l c b) ↔ Outside ps s t := outside_iff (State.exchanged_outside l c b t) h

/-- The frame of `State.throughExchange`. -/
theorem State.throughExchange_outside (l : Nat) (c : Code) (s : State) :
    Outside [.bells, .box, .emitted] s (s.throughExchange l c) := by
  unfold State.throughExchange; repeat' split
  all_goals simp [State.exchanged]
@[simp] theorem State.outside_throughExchange (l : Nat) (c : Code) (h : [Part.bells, .box, .emitted] ⊆ ps) :
    Outside ps s (t.throughExchange l c) ↔ Outside ps s t := outside_iff (State.throughExchange_outside l c t) h

/-- The frame of `State.throughExpires`. -/
theorem State.throughExpires_outside (s : State) :
    Outside [.box, .emitted] s (s.throughExpires) := by
  unfold State.throughExpires; dsimp only; repeat' split
  all_goals simp
@[simp] theorem State.outside_throughExpires (h : [Part.box, .emitted] ⊆ ps) :
    Outside ps s (t.throughExpires) ↔ Outside ps s t := outside_iff (State.throughExpires_outside t) h

/-- The frame of `State.toThrough`. -/
theorem State.toThrough_outside (k : Nat) (s : State) :
    Outside [.sections, .emitted] s (s.toThrough k) := by
  unfold State.toThrough; dsimp only; simp
@[simp] theorem State.outside_toThrough (k : Nat) (h : [Part.sections, .emitted] ⊆ ps) :
    Outside ps s (t.toThrough k) ↔ Outside ps s t := outside_iff (State.toThrough_outside k t) h

/-- The frame of `State.fromThrough`. -/
theorem State.fromThrough_outside (k : Nat) (s : State) :
    Outside [.sections, .emitted] s (s.fromThrough k) := by
  unfold State.fromThrough; dsimp only; simp
@[simp] theorem State.outside_fromThrough (k : Nat) (h : [Part.sections, .emitted] ⊆ ps) :
    Outside ps s (t.fromThrough k) ↔ Outside ps s t := outside_iff (State.fromThrough_outside k t) h

/-- The frame of `State.lineSwitchesOut`. -/
theorem State.lineSwitchesOut_outside (k : Nat) (s : State) :
    Outside [.bells] s (s.lineSwitchesOut k) := by
  unfold State.lineSwitchesOut; dsimp only; simp
@[simp] theorem State.outside_lineSwitchesOut (k : Nat) (h : [Part.bells] ⊆ ps) :
    Outside ps s (t.lineSwitchesOut k) ↔ Outside ps s t := outside_iff (State.lineSwitchesOut_outside k t) h

/-- The frame of `State.cutRelay`. -/
theorem State.cutRelay_outside (k : Nat) (s : State) :
    Outside [.bells] s (s.cutRelay k) := by
  unfold State.cutRelay; dsimp only; simp
@[simp] theorem State.outside_cutRelay (k : Nat) (h : [Part.bells] ⊆ ps) :
    Outside ps s (t.cutRelay k) ↔ Outside ps s t := outside_iff (State.cutRelay_outside k t) h

/-- The frame of `State.doSwitchOut`. -/
theorem State.doSwitchOut_outside (s : State) :
    Outside [.box, .set, .sections, .bells, .emitted] s (s.doSwitchOut) := by
  unfold State.doSwitchOut; dsimp only; simp
@[simp] theorem State.outside_doSwitchOut (h : [Part.box, .set, .sections, .bells, .emitted] ⊆ ps) :
    Outside ps s (t.doSwitchOut) ↔ Outside ps s t := outside_iff (State.doSwitchOut_outside t) h

/-- The frame of `State.doSwitchIn`. -/
theorem State.doSwitchIn_outside (s : State) :
    Outside [.box, .set, .sections, .bells, .emitted] s (s.doSwitchIn) := by
  unfold State.doSwitchIn; dsimp only; simp
@[simp] theorem State.outside_doSwitchIn (h : [Part.box, .set, .sections, .bells, .emitted] ⊆ ps) :
    Outside ps s (t.doSwitchIn) ↔ Outside ps s t := outside_iff (State.doSwitchIn_outside t) h

/-- The frame of `State.switchOut`. -/
theorem State.switchOut_outside (s : State) :
    Outside [.box, .set, .sections, .bells, .levers, .holds, .choices, .emitted] s ((s.switchOut).2.2) := by
  unfold State.switchOut; repeat' split
  all_goals simp
@[simp] theorem State.outside_switchOut (h : [Part.box, .set, .sections, .bells, .levers, .holds, .choices, .emitted] ⊆ ps) :
    Outside ps s ((t.switchOut).2.2) ↔ Outside ps s t := outside_iff (State.switchOut_outside t) h

/-- The frame of `State.switchIn`. -/
theorem State.switchIn_outside (s : State) :
    Outside [.box, .set, .sections, .bells, .levers, .holds, .choices, .emitted] s ((s.switchIn).2.2) := by
  unfold State.switchIn; repeat' split
  all_goals simp
@[simp] theorem State.outside_switchIn (h : [Part.box, .set, .sections, .bells, .levers, .holds, .choices, .emitted] ⊆ ps) :
    Outside ps s ((t.switchIn).2.2) ↔ Outside ps s t := outside_iff (State.switchIn_outside t) h

/-- The frame of `State.putRecognizer`. -/
theorem State.putRecognizer_outside (l : Nat) (e : Ear) (r : Recognizer) (s : State) :
    Outside [.bells] s (s.putRecognizer l e r) := by
  unfold State.putRecognizer; simp
@[simp] theorem State.outside_putRecognizer (l : Nat) (e : Ear) (r : Recognizer) (h : [Part.bells] ⊆ ps) :
    Outside ps s (t.putRecognizer l e r) ↔ Outside ps s t := outside_iff (State.putRecognizer_outside l e r t) h

/-- The frame of `State.giveRepetition`. -/
theorem State.giveRepetition_outside (l : Nat) (c : Code) (s : State) :
    Outside [.bells, .emitted] s (s.giveRepetition l c) := by
  unfold State.giveRepetition; dsimp only; simp
@[simp] theorem State.outside_giveRepetition (l : Nat) (c : Code) (h : [Part.bells, .emitted] ⊆ ps) :
    Outside ps s (t.giveRepetition l c) ↔ Outside ps s t := outside_iff (State.giveRepetition_outside l c t) h

/-- The frame of `State.becomeOutstanding`. -/
theorem State.becomeOutstanding_outside (l : Nat) (c : Code) (s : State) :
    Outside [.bells, .emitted] s (s.becomeOutstanding l c) := by
  unfold State.becomeOutstanding; dsimp only; repeat' split
  all_goals simp
@[simp] theorem State.outside_becomeOutstanding (l : Nat) (c : Code) (h : [Part.bells, .emitted] ⊆ ps) :
    Outside ps s (t.becomeOutstanding l c) ↔ Outside ps s t := outside_iff (State.becomeOutstanding_outside l c t) h

/-- The frame of `State.takeAcknowledgement`. -/
theorem State.takeAcknowledgement_outside (l : Nat) (c : Code) (s : State) :
    Outside [.bells, .emitted] s (s.takeAcknowledgement l c) := by
  unfold State.takeAcknowledgement; dsimp only; simp
@[simp] theorem State.outside_takeAcknowledgement (l : Nat) (c : Code) (h : [Part.bells, .emitted] ⊆ ps) :
    Outside ps s (t.takeAcknowledgement l c) ↔ Outside ps s t := outside_iff (State.takeAcknowledgement_outside l c t) h

/-- The frame of `State.becomeOwed`. -/
theorem State.becomeOwed_outside (l : Nat) (c : Code) (s : State) :
    Outside [.bells, .alerts, .sounder, .emitted] s (s.becomeOwed l c) := by
  unfold State.becomeOwed; dsimp only; repeat' split
  all_goals simp
@[simp] theorem State.outside_becomeOwed (l : Nat) (c : Code) (h : [Part.bells, .alerts, .sounder, .emitted] ⊆ ps) :
    Outside ps s (t.becomeOwed l c) ↔ Outside ps s t := outside_iff (State.becomeOwed_outside l c t) h

/-- The frame of `State.deadlineExpires`. -/
theorem State.deadlineExpires_outside (l : Nat) (s : State) :
    Outside [.bells, .alerts, .sounder, .emitted] s (s.deadlineExpires l) := by
  unfold State.deadlineExpires; dsimp only; repeat' split
  all_goals simp
@[simp] theorem State.outside_deadlineExpires (l : Nat) (h : [Part.bells, .alerts, .sounder, .emitted] ⊆ ps) :
    Outside ps s (t.deadlineExpires l) ↔ Outside ps s t := outside_iff (State.deadlineExpires_outside l t) h

/-- The frame of `State.reminderExpires`. -/
theorem State.reminderExpires_outside (l : Nat) (s : State) :
    Outside [.bells, .alerts, .sounder, .emitted] s (s.reminderExpires l) := by
  unfold State.reminderExpires; dsimp only; repeat' split
  all_goals simp
@[simp] theorem State.outside_reminderExpires (l : Nat) (h : [Part.bells, .alerts, .sounder, .emitted] ⊆ ps) :
    Outside ps s (t.reminderExpires l) ↔ Outside ps s t := outside_iff (State.reminderExpires_outside l t) h

/-- The frame of `State.startPulses`. -/
theorem State.startPulses_outside (l : Nat) (s : State) :
    Outside [.pulses] s (s.startPulses l) := by
  unfold State.startPulses; dsimp only; simp
@[simp] theorem State.outside_startPulses (l : Nat) (h : [Part.pulses] ⊆ ps) :
    Outside ps s (t.startPulses l) ↔ Outside ps s t := outside_iff (State.startPulses_outside l t) h

/-- The frame of `State.receivedActs`. -/
theorem State.receivedActs_outside (l : Nat) (k : CodeResult) (s : State) :
    Outside [.register, .sections, .alerts, .sounder, .emitted] s (s.receivedActs l k) := by
  unfold State.receivedActs; dsimp only; repeat' split
  all_goals simp
@[simp] theorem State.outside_receivedActs (l : Nat) (k : CodeResult) (h : [Part.register, .sections, .alerts, .sounder, .emitted] ⊆ ps) :
    Outside ps s (t.receivedActs l k) ↔ Outside ps s t := outside_iff (State.receivedActs_outside l k t) h

/-- The frame of `State.receivedCode`. -/
theorem State.receivedCode_outside (l : Nat) (k : CodeResult) (s : State) :
    Outside [.bells, .box, .pulses, .register, .sections, .alerts, .sounder, .emitted] s (s.receivedCode l k) := by
  unfold State.receivedCode; dsimp only; repeat' split
  all_goals simp
@[simp] theorem State.outside_receivedCode (l : Nat) (k : CodeResult) (h : [Part.bells, .box, .pulses, .register, .sections, .alerts, .sounder, .emitted] ⊆ ps) :
    Outside ps s (t.receivedCode l k) ↔ Outside ps s t := outside_iff (State.receivedCode_outside l k t) h

/-- The frame of `State.sentCode`. -/
theorem State.sentCode_outside (l : Nat) (c : Code) (cls : Nat) (k : Option Nat) (b : Bool) (s : State) :
    Outside [.bells, .register, .sections, .alerts, .sounder, .emitted] s (s.sentCode l c cls k b) := by
  unfold State.sentCode; dsimp only; repeat' split
  all_goals simp
@[simp] theorem State.outside_sentCode (l : Nat) (c : Code) (cls : Nat) (k : Option Nat) (b : Bool) (h : [Part.bells, .register, .sections, .alerts, .sounder, .emitted] ⊆ ps) :
    Outside ps s (t.sentCode l c cls k b) ↔ Outside ps s t := outside_iff (State.sentCode_outside l c cls k b t) h

/-- The frame of `State.manualCode`. -/
theorem State.manualCode_outside (l : Nat) (k : CodeResult) (s : State) :
    Outside [.bells, .register, .sections, .alerts, .sounder, .emitted] s (s.manualCode l k) := by
  unfold State.manualCode; dsimp only; repeat' split
  all_goals simp
@[simp] theorem State.outside_manualCode (l : Nat) (k : CodeResult) (h : [Part.bells, .register, .sections, .alerts, .sounder, .emitted] ⊆ ps) :
    Outside ps s (t.manualCode l k) ↔ Outside ps s t := outside_iff (State.manualCode_outside l k t) h

/-- The frame of `State.finishCode`. -/
theorem State.finishCode_outside (l : Nat) (e : Ear) (s : State) :
    Outside [.bells, .box, .pulses, .register, .sections, .alerts, .sounder, .emitted] s (s.finishCode l e) := by
  unfold State.finishCode; dsimp only; repeat' split
  all_goals simp
@[simp] theorem State.outside_finishCode (l : Nat) (e : Ear) (h : [Part.bells, .box, .pulses, .register, .sections, .alerts, .sounder, .emitted] ⊆ ps) :
    Outside ps s (t.finishCode l e) ↔ Outside ps s t := outside_iff (State.finishCode_outside l e t) h

/-- The frame of `State.inputOn`. -/
theorem State.inputOn_outside (l : Nat) (e : Ear) (s : State) :
    Outside [.bells] s (s.inputOn l e) := by
  unfold State.inputOn; dsimp only; repeat' split
  all_goals simp
@[simp] theorem State.outside_inputOn (l : Nat) (e : Ear) (h : [Part.bells] ⊆ ps) :
    Outside ps s (t.inputOn l e) ↔ Outside ps s t := outside_iff (State.inputOn_outside l e t) h

/-- The frame of `State.relayStroke`. -/
theorem State.relayStroke_outside (l : Nat) (s : State) :
    Outside [.bells] s (s.relayStroke l) := by
  unfold State.relayStroke; dsimp only; simp
@[simp] theorem State.outside_relayStroke (l : Nat) (h : [Part.bells] ⊆ ps) :
    Outside ps s (t.relayStroke l) ↔ Outside ps s t := outside_iff (State.relayStroke_outside l t) h

/-- The frame of `State.acceptStroke`. -/
theorem State.acceptStroke_outside (l : Nat) (e : Ear) (c : Time) (s : State) :
    Outside [.bells] s (s.acceptStroke l e c) := by
  unfold State.acceptStroke; dsimp only; repeat' split
  all_goals simp
@[simp] theorem State.outside_acceptStroke (l : Nat) (e : Ear) (c : Time) (h : [Part.bells] ⊆ ps) :
    Outside ps s (t.acceptStroke l e c) ↔ Outside ps s t := outside_iff (State.acceptStroke_outside l e c t) h

/-- The frame of `State.testExpires`. -/
theorem State.testExpires_outside (l : Nat) (e : Ear) (s : State) :
    Outside [.bells] s (s.testExpires l e) := by
  unfold State.testExpires; repeat' split
  all_goals simp
@[simp] theorem State.outside_testExpires (l : Nat) (e : Ear) (h : [Part.bells] ⊆ ps) :
    Outside ps s (t.testExpires l e) ↔ Outside ps s t := outside_iff (State.testExpires_outside l e t) h

/-- The frame of `State.relayWidth`. -/
theorem State.relayWidth_outside (l w : Nat) (s : State) :
    Outside [.bells] s (s.relayWidth l w) := by
  unfold State.relayWidth; dsimp only; repeat' split
  all_goals simp
@[simp] theorem State.outside_relayWidth (l w : Nat) (h : [Part.bells] ⊆ ps) :
    Outside ps s (t.relayWidth l w) ↔ Outside ps s t := outside_iff (State.relayWidth_outside l w t) h

/-- The frame of `State.inputOff`. -/
theorem State.inputOff_outside (l : Nat) (e : Ear) (s : State) :
    Outside [.bells, .box, .pulses, .register, .sections, .alerts, .sounder, .emitted] s (s.inputOff l e) := by
  unfold State.inputOff; dsimp only; repeat' split
  all_goals simp
@[simp] theorem State.outside_inputOff (l : Nat) (e : Ear) (h : [Part.bells, .box, .pulses, .register, .sections, .alerts, .sounder, .emitted] ⊆ ps) :
    Outside ps s (t.inputOff l e) ↔ Outside ps s t := outside_iff (State.inputOff_outside l e t) h

/-- The frame of `State.endGapExpires`. -/
theorem State.endGapExpires_outside (l : Nat) (e : Ear) (s : State) :
    Outside [.bells, .box, .pulses, .register, .sections, .alerts, .sounder, .emitted] s (s.endGapExpires l e) := by
  unfold State.endGapExpires; dsimp only; repeat' split
  all_goals simp
@[simp] theorem State.outside_endGapExpires (l : Nat) (e : Ear) (h : [Part.bells, .box, .pulses, .register, .sections, .alerts, .sounder, .emitted] ⊆ ps) :
    Outside ps s (t.endGapExpires l e) ↔ Outside ps s t := outside_iff (State.endGapExpires_outside l e t) h

/-- The frame of `State.relayOff`. -/
theorem State.relayOff_outside (l : Nat) (s : State) :
    Outside [.bells] s (s.relayOff l) := by
  unfold State.relayOff; dsimp only; repeat' split
  all_goals simp
@[simp] theorem State.outside_relayOff (l : Nat) (h : [Part.bells] ⊆ ps) :
    Outside ps s (t.relayOff l) ↔ Outside ps s t := outside_iff (State.relayOff_outside l t) h

/-- The frame of `State.startSend`. -/
theorem State.startSend_outside (l e : Nat) (k : Option Nat) (s : State) :
    Outside [.bells] s (s.startSend l e k) := by
  unfold State.startSend; dsimp only; simp
@[simp] theorem State.outside_startSend (l e : Nat) (k : Option Nat) (h : [Part.bells] ⊆ ps) :
    Outside ps s (t.startSend l e k) ↔ Outside ps s t := outside_iff (State.startSend_outside l e k t) h

/-- The frame of `State.sendBell`. -/
theorem State.sendBell_outside (l e : Nat) (k : Option Nat) (s : State) :
    Outside [.bells] s ((s.sendBell l e k).2.2) := by
  unfold State.sendBell; repeat' split
  all_goals simp
@[simp] theorem State.outside_sendBell (l e : Nat) (k : Option Nat) (h : [Part.bells] ⊆ ps) :
    Outside ps s ((t.sendBell l e k).2.2) ↔ Outside ps s t := outside_iff (State.sendBell_outside l e k t) h

/-- The frame of `State.strokeStarts`. -/
theorem State.strokeStarts_outside (l : Nat) (s : State) :
    Outside [.bells] s (s.strokeStarts l) := by
  unfold State.strokeStarts; dsimp only; repeat' split
  all_goals simp
@[simp] theorem State.outside_strokeStarts (l : Nat) (h : [Part.bells] ⊆ ps) :
    Outside ps s (t.strokeStarts l) ↔ Outside ps s t := outside_iff (State.strokeStarts_outside l t) h

/-- The frame of `State.sendCompletes`. -/
theorem State.sendCompletes_outside (l : Nat) (k : Send) (s : State) :
    Outside [.bells, .register, .sections, .alerts, .sounder, .emitted] s (s.sendCompletes l k) := by
  unfold State.sendCompletes; dsimp only; simp
@[simp] theorem State.outside_sendCompletes (l : Nat) (k : Send) (h : [Part.bells, .register, .sections, .alerts, .sounder, .emitted] ⊆ ps) :
    Outside ps s (t.sendCompletes l k) ↔ Outside ps s t := outside_iff (State.sendCompletes_outside l k t) h

/-- The frame of `State.strokeEnds`. -/
theorem State.strokeEnds_outside (l : Nat) (s : State) :
    Outside [.bells, .register, .sections, .alerts, .sounder, .emitted] s (s.strokeEnds l) := by
  unfold State.strokeEnds; dsimp only; repeat' split
  all_goals simp
@[simp] theorem State.outside_strokeEnds (l : Nat) (h : [Part.bells, .register, .sections, .alerts, .sounder, .emitted] ⊆ ps) :
    Outside ps s (t.strokeEnds l) ↔ Outside ps s t := outside_iff (State.strokeEnds_outside l t) h

/-- The frame of `State.abortSend`. -/
theorem State.abortSend_outside (l : Nat) (s : State) :
    Outside [.bells, .emitted] s (s.abortSend l) := by
  unfold State.abortSend; dsimp only; repeat' split
  all_goals simp
@[simp] theorem State.outside_abortSend (l : Nat) (h : [Part.bells, .emitted] ⊆ ps) :
    Outside ps s (t.abortSend l) ↔ Outside ps s t := outside_iff (State.abortSend_outside l t) h

/-- The frame of `State.plungerPressed`. -/
theorem State.plungerPressed_outside (l : Nat) (s : State) :
    Outside [.bells, .emitted] s (s.plungerPressed l) := by
  unfold State.plungerPressed; dsimp only; repeat' split
  all_goals simp
@[simp] theorem State.outside_plungerPressed (l : Nat) (h : [Part.bells, .emitted] ⊆ ps) :
    Outside ps s (t.plungerPressed l) ↔ Outside ps s t := outside_iff (State.plungerPressed_outside l t) h

/-- The frame of `State.plungerReleased`. -/
theorem State.plungerReleased_outside (l : Nat) (s : State) :
    Outside [.bells] s (s.plungerReleased l) := by
  unfold State.plungerReleased; dsimp only; repeat' split
  all_goals simp
@[simp] theorem State.outside_plungerReleased (l : Nat) (h : [Part.bells] ⊆ ps) :
    Outside ps s (t.plungerReleased l) ↔ Outside ps s t := outside_iff (State.plungerReleased_outside l t) h

/-- The frame of `State.plungerExpires`. -/
theorem State.plungerExpires_outside (l : Nat) (s : State) :
    Outside [.bells] s (s.plungerExpires l) := by
  unfold State.plungerExpires; dsimp only; repeat' split
  all_goals simp
@[simp] theorem State.outside_plungerExpires (l : Nat) (h : [Part.bells] ⊆ ps) :
    Outside ps s (t.plungerExpires l) ↔ Outside ps s t := outside_iff (State.plungerExpires_outside l t) h

/-- The frame of `State.flasherTurns`. -/
theorem State.flasherTurns_outside (s : State) :
    Outside [.flasher] s (s.flasherTurns) := by
  unfold State.flasherTurns; dsimp only; repeat' split
  all_goals simp
@[simp] theorem State.outside_flasherTurns (h : [Part.flasher] ⊆ ps) :
    Outside ps s (t.flasherTurns) ↔ Outside ps s t := outside_iff (State.flasherTurns_outside t) h

/-- The frame of `State.pulseExpires`. -/
theorem State.pulseExpires_outside (i : Nat) (s : State) :
    Outside [.pulses] s (s.pulseExpires i) := by
  unfold State.pulseExpires; dsimp only; repeat' split
  all_goals simp
@[simp] theorem State.outside_pulseExpires (i : Nat) (h : [Part.pulses] ⊆ ps) :
    Outside ps s (t.pulseExpires i) ↔ Outside ps s t := outside_iff (State.pulseExpires_outside i t) h

/-- The frame of `State.startLampTest`. -/
theorem State.startLampTest_outside (s : State) :
    Outside [.lampTest] s (s.startLampTest) := by
  unfold State.startLampTest; dsimp only; simp
@[simp] theorem State.outside_startLampTest (h : [Part.lampTest] ⊆ ps) :
    Outside ps s (t.startLampTest) ↔ Outside ps s t := outside_iff (State.startLampTest_outside t) h

/-- The frame of `State.lampTestExpires`. -/
theorem State.lampTestExpires_outside (s : State) :
    Outside [.lampTest] s (s.lampTestExpires) := by
  unfold State.lampTestExpires; dsimp only; repeat' split
  all_goals simp
@[simp] theorem State.outside_lampTestExpires (h : [Part.lampTest] ⊆ ps) :
    Outside ps s (t.lampTestExpires) ↔ Outside ps s t := outside_iff (State.lampTestExpires_outside t) h

/-- The frame of `State.sounderTurns`. -/
theorem State.sounderTurns_outside (s : State) :
    Outside [.sounder] s (s.sounderTurns) := by
  unfold State.sounderTurns; dsimp only; repeat' split
  all_goals simp
@[simp] theorem State.outside_sounderTurns (h : [Part.sounder] ⊆ ps) :
    Outside ps s (t.sounderTurns) ↔ Outside ps s t := outside_iff (State.sounderTurns_outside t) h

/-- The frame of `State.ackAlerts`. -/
theorem State.ackAlerts_outside (s : State) :
    Outside [.alerts, .sounder, .emitted] s ((s.ackAlerts).2.2) := by
  unfold State.ackAlerts; dsimp only; simp
@[simp] theorem State.outside_ackAlerts (h : [Part.alerts, .sounder, .emitted] ⊆ ps) :
    Outside ps s ((t.ackAlerts).2.2) ↔ Outside ps s t := outside_iff (State.ackAlerts_outside t) h

/-- The frame of `State.clearAlerts`. -/
theorem State.clearAlerts_outside (s : State) :
    Outside [.alerts, .sounder, .emitted] s ((s.clearAlerts).2.2) := by
  unfold State.clearAlerts; dsimp only; simp
@[simp] theorem State.outside_clearAlerts (h : [Part.alerts, .sounder, .emitted] ⊆ ps) :
    Outside ps s ((t.clearAlerts).2.2) ↔ Outside ps s t := outside_iff (State.clearAlerts_outside t) h

end Sys2Proof.Machine
end

