-- ==== Sys2Proof/Laws/FrameLink.lean ====
section
/-! SUPPORT. Frames of the Mode Control, of the requests, and of the Link Controller. -/

namespace Sys2Proof.Machine

variable {ps qs : List Part} {s t u : State}

/-- The frame of `State.clockTicks`. -/
theorem State.clockTicks_outside (s : State) :
    Outside [.clock] s (s.clockTicks) := by
  unfold State.clockTicks; dsimp only; repeat' split
  all_goals simp
@[simp] theorem State.outside_clockTicks (h : [Part.clock] ⊆ ps) :
    Outside ps s (t.clockTicks) ↔ Outside ps s t := outside_iff (State.clockTicks_outside t) h

/-- The frame of `State.setClock`. -/
theorem State.setClock_outside (d c : Nat) (s : State) :
    Outside [.clock, .emitted] s ((s.setClock d c).2.2) := by
  unfold State.setClock; dsimp only; repeat' split
  all_goals simp
@[simp] theorem State.outside_setClock (d c : Nat) (h : [Part.clock, .emitted] ⊆ ps) :
    Outside ps s ((t.setClock d c).2.2) ↔ Outside ps s t := outside_iff (State.setClock_outside d c t) h

/-- The frame of `State.writeConfig`. -/
theorem State.writeConfig_outside (b : List Byte) (s : State) :
    Outside [.configuration] s ((s.writeConfig b).2.2) := by
  unfold State.writeConfig; dsimp only; repeat' split
  all_goals simp
@[simp] theorem State.outside_writeConfig (b : List Byte) (h : [Part.configuration] ⊆ ps) :
    Outside ps s ((t.writeConfig b).2.2) ↔ Outside ps s t := outside_iff (State.writeConfig_outside b t) h

/-- The frame of `State.holdPart`. -/
theorem State.holdPart_outside (s : State) :
    Outside [.mode, .configuration, .levers, .holds, .choices, .emitted] s ((s.holdPart).2.2) := by
  unfold State.holdPart; split
  all_goals simp [Store.loaded]
@[simp] theorem State.outside_holdPart (h : [Part.mode, .configuration, .levers, .holds, .choices, .emitted] ⊆ ps) :
    Outside ps s ((t.holdPart).2.2) ↔ Outside ps s t := outside_iff (State.holdPart_outside t) h

/-- The frame of `State.resumePasses`. -/
theorem State.resumePasses_outside (s : State) :
    Outside [.mode, .after, .levers, .holds, .choices, .emitted] s ((s.resumePasses).2.2) := by
  unfold State.resumePasses; dsimp only; repeat' split
  all_goals simp
@[simp] theorem State.outside_resumePasses (h : [Part.mode, .after, .levers, .holds, .choices, .emitted] ⊆ ps) :
    Outside ps s ((t.resumePasses).2.2) ↔ Outside ps s t := outside_iff (State.resumePasses_outside t) h

/-- The frame of `State.resumePart`. -/
theorem State.resumePart_outside (s : State) :
    Outside [.mode, .after, .levers, .holds, .choices, .emitted] s ((s.resumePart).2.2) := by
  unfold State.resumePart; repeat' split
  all_goals simp
@[simp] theorem State.outside_resumePart (h : [Part.mode, .after, .levers, .holds, .choices, .emitted] ⊆ ps) :
    Outside ps s ((t.resumePart).2.2) ↔ Outside ps s t := outside_iff (State.resumePart_outside t) h

/-- The frame of `State.restartPart`. -/
theorem State.restartPart_outside (s : State) :
    Outside [.after] s ((s.restartPart).2.2) := by
  unfold State.restartPart; dsimp only; repeat' split
  all_goals simp
@[simp] theorem State.outside_restartPart (h : [Part.after] ⊆ ps) :
    Outside ps s ((t.restartPart).2.2) ↔ Outside ps s t := outside_iff (State.restartPart_outside t) h

/-- The frame of `State.storeWriteBegins`. -/
theorem State.storeWriteBegins_outside (s : State) :
    Outside [.after, .slot, .transmitter] s (s.storeWriteBegins) := by
  unfold State.storeWriteBegins; split
  · rw [State.outside_putLink]
    all_goals simp
  · simp
@[simp] theorem State.outside_storeWriteBegins (h : [Part.after, .slot, .transmitter] ⊆ ps) :
    Outside ps s (t.storeWriteBegins) ↔ Outside ps s t := outside_iff (State.storeWriteBegins_outside t) h

/-- The frame of `State.timeReleaseStart`. -/
theorem State.timeReleaseStart_outside (n : Nat) (s : State) :
    Outside [.holds, .emitted] s ((s.timeReleaseStart n).2.2) := by
  unfold State.timeReleaseStart; repeat' split
  all_goals simp
@[simp] theorem State.outside_timeReleaseStart (n : Nat) (h : [Part.holds, .emitted] ⊆ ps) :
    Outside ps s ((t.timeReleaseStart n).2.2) ↔ Outside ps s t := outside_iff (State.timeReleaseStart_outside n t) h

/-- The frame of `State.timeReleaseConfirm`. -/
theorem State.timeReleaseConfirm_outside (n : Nat) (s : State) :
    Outside [.levers, .holds, .choices, .counters, .emitted] s ((s.timeReleaseConfirm n).2.2) := by
  unfold State.timeReleaseConfirm; repeat' split
  all_goals simp
@[simp] theorem State.outside_timeReleaseConfirm (n : Nat) (h : [Part.levers, .holds, .choices, .counters, .emitted] ⊆ ps) :
    Outside ps s ((t.timeReleaseConfirm n).2.2) ↔ Outside ps s t := outside_iff (State.timeReleaseConfirm_outside n t) h

/-- The frame of `State.timeReleaseCancel`. -/
theorem State.timeReleaseCancel_outside (n : Nat) (s : State) :
    Outside [.levers, .holds, .choices, .emitted] s ((s.timeReleaseCancel n).2.2) := by
  unfold State.timeReleaseCancel; repeat' split
  all_goals simp
@[simp] theorem State.outside_timeReleaseCancel (n : Nat) (h : [Part.levers, .holds, .choices, .emitted] ⊆ ps) :
    Outside ps s ((t.timeReleaseCancel n).2.2) ↔ Outside ps s t := outside_iff (State.timeReleaseCancel_outside n t) h

/-- The frame of `State.sectionRestore`. -/
theorem State.sectionRestore_outside (x : Nat) (s : State) :
    Outside [.sections, .emitted] s ((s.sectionRestore x).2.2) := by
  unfold State.sectionRestore; repeat' split
  all_goals simp
@[simp] theorem State.outside_sectionRestore (x : Nat) (h : [Part.sections, .emitted] ⊆ ps) :
    Outside ps s ((t.sectionRestore x).2.2) ↔ Outside ps s t := outside_iff (State.sectionRestore_outside x t) h

/-- The frame of `State.closeRecord`. -/
theorem State.closeRecord_outside (r : Nat) (s : State) :
    Outside [.register, .emitted] s ((s.closeRecord r).2.2) := by
  unfold State.closeRecord; repeat' split
  all_goals simp
@[simp] theorem State.outside_closeRecord (r : Nat) (h : [Part.register, .emitted] ⊆ ps) :
    Outside ps s ((t.closeRecord r).2.2) ↔ Outside ps s t := outside_iff (State.closeRecord_outside r t) h

/-- The frame of `State.collectRecord`. -/
theorem State.collectRecord_outside (r : Nat) (s : State) :
    Outside [.register, .emitted] s ((s.collectRecord r).2.2) := by
  unfold State.collectRecord; repeat' split
  all_goals simp
@[simp] theorem State.outside_collectRecord (r : Nat) (h : [Part.register, .emitted] ⊆ ps) :
    Outside ps s ((t.collectRecord r).2.2) ↔ Outside ps s t := outside_iff (State.collectRecord_outside r t) h

/-- The frame of `State.own`. -/
theorem State.own_outside (r : Request) (s : State) :
    Outside [.tracks, .levers, .set, .holds, .sections, .bells, .register, .alerts, .sounder, .lampTest, .outbox, .mode, .after, .box, .clock, .configuration, .counters, .choices, .emitted] s ((s.own r).2.2) := by
  cases r <;> simp only [State.own, State.readOut]
  all_goals (try split)
  all_goals simp
@[simp] theorem State.outside_own (r : Request) (h : [Part.tracks, .levers, .set, .holds, .sections, .bells, .register, .alerts, .sounder, .lampTest, .outbox, .mode, .after, .box, .clock, .configuration, .counters, .choices, .emitted] ⊆ ps) :
    Outside ps s ((t.own r).2.2) ↔ Outside ps s t := outside_iff (State.own_outside r t) h

/-- The frame of `State.serve`. -/
theorem State.serve_outside (r : Request) (s : State) :
    Outside [.tracks, .levers, .set, .holds, .sections, .bells, .register, .alerts, .sounder, .lampTest, .outbox, .mode, .after, .box, .clock, .configuration, .counters, .choices, .emitted] s ((s.serve r).2.2) := by
  unfold State.serve; repeat' split
  all_goals simp
@[simp] theorem State.outside_serve (r : Request) (h : [Part.tracks, .levers, .set, .holds, .sections, .bells, .register, .alerts, .sounder, .lampTest, .outbox, .mode, .after, .box, .clock, .configuration, .counters, .choices, .emitted] ⊆ ps) :
    Outside ps s ((t.serve r).2.2) ↔ Outside ps s t := outside_iff (State.serve_outside r t) h

/-- The frame of `State.takeNext`. -/
theorem State.takeNext_outside (s : State) :
    Outside [.tracks, .levers, .set, .holds, .sections, .bells, .register, .alerts, .sounder, .lampTest, .outbox, .mode, .after, .box, .clock, .configuration, .counters, .choices, .emitted, .requests, .slot] s (s.takeNext) := by
  unfold State.takeNext; dsimp only; repeat' split
  all_goals simp
@[simp] theorem State.outside_takeNext (h : [Part.tracks, .levers, .set, .holds, .sections, .bells, .register, .alerts, .sounder, .lampTest, .outbox, .mode, .after, .box, .clock, .configuration, .counters, .choices, .emitted, .requests, .slot] ⊆ ps) :
    Outside ps s (t.takeNext) ↔ Outside ps s t := outside_iff (State.takeNext_outside t) h

/-- The frame of `State.enqueue`. -/
theorem State.enqueue_outside (q : Queued) (s : State) :
    Outside [.requests, .linkCounts] s (s.enqueue q) := by
  unfold State.enqueue; dsimp only; repeat' split
  all_goals simp
@[simp] theorem State.outside_enqueue (q : Queued) (h : [Part.requests, .linkCounts] ⊆ ps) :
    Outside ps s (t.enqueue q) ↔ Outside ps s t := outside_iff (State.enqueue_outside q t) h

/-- The frame of `State.submit`. -/
theorem State.submit_outside (tag : Byte) (r : Request) (s : State) :
    Outside [.tracks, .levers, .set, .holds, .sections, .bells, .register, .alerts, .sounder, .lampTest, .outbox, .mode, .after, .box, .clock, .configuration, .counters, .choices, .emitted, .requests, .slot, .linkCounts] s (s.submit tag r) := by
  unfold State.submit; repeat' split
  all_goals simp
@[simp] theorem State.outside_submit (tag : Byte) (r : Request) (h : [Part.tracks, .levers, .set, .holds, .sections, .bells, .register, .alerts, .sounder, .lampTest, .outbox, .mode, .after, .box, .clock, .configuration, .counters, .choices, .emitted, .requests, .slot, .linkCounts] ⊆ ps) :
    Outside ps s (t.submit tag r) ↔ Outside ps s t := outside_iff (State.submit_outside tag r t) h

/-- The frame of `State.frameEnds`. -/
theorem State.frameEnds_outside (b : Byte) (s : State) :
    Outside [.tracks, .levers, .set, .holds, .sections, .bells, .register, .alerts, .sounder, .lampTest, .outbox, .mode, .after, .box, .clock, .configuration, .counters, .choices, .emitted, .requests, .slot, .linkCounts, .assembler] s (s.frameEnds b) := by
  unfold State.frameEnds; dsimp only; repeat' split
  all_goals simp [Link.hunt, Link.error]
@[simp] theorem State.outside_frameEnds (b : Byte) (h : [Part.tracks, .levers, .set, .holds, .sections, .bells, .register, .alerts, .sounder, .lampTest, .outbox, .mode, .after, .box, .clock, .configuration, .counters, .choices, .emitted, .requests, .slot, .linkCounts, .assembler] ⊆ ps) :
    Outside ps s (t.frameEnds b) ↔ Outside ps s t := outside_iff (State.frameEnds_outside b t) h

/-- The frame of `State.assemble`. -/
theorem State.assemble_outside (b : Byte) (s : State) :
    Outside [.tracks, .levers, .set, .holds, .sections, .bells, .register, .alerts, .sounder, .lampTest, .outbox, .mode, .after, .box, .clock, .configuration, .counters, .choices, .emitted, .requests, .slot, .linkCounts, .assembler] s (s.assemble b) := by
  unfold State.assemble; dsimp only; repeat' split
  all_goals simp [Link.hunt, Link.error, Link.keep]
@[simp] theorem State.outside_assemble (b : Byte) (h : [Part.tracks, .levers, .set, .holds, .sections, .bells, .register, .alerts, .sounder, .lampTest, .outbox, .mode, .after, .box, .clock, .configuration, .counters, .choices, .emitted, .requests, .slot, .linkCounts, .assembler] ⊆ ps) :
    Outside ps s (t.assemble b) ↔ Outside ps s t := outside_iff (State.assemble_outside b t) h

/-- The frame of `State.abandonFrame`. -/
theorem State.abandonFrame_outside (s : State) :
    Outside [.assembler, .linkCounts] s (s.abandonFrame) := by
  simp [State.abandonFrame, Link.hunt]
@[simp] theorem State.outside_abandonFrame (h : [Part.assembler, .linkCounts] ⊆ ps) :
    Outside ps s (t.abandonFrame) ↔ Outside ps s t := outside_iff (State.abandonFrame_outside t) h

/-- The frame of `State.byteArrives`. -/
theorem State.byteArrives_outside (b : Byte) (f : Bool) (s : State) :
    Outside [.tracks, .levers, .set, .holds, .sections, .bells, .register, .alerts, .sounder, .lampTest, .outbox, .mode, .after, .box, .clock, .configuration, .counters, .choices, .emitted, .requests, .slot, .linkCounts, .assembler] s (s.byteArrives b f) := by
  unfold State.byteArrives; repeat' split
  all_goals simp [Link.hunt, Link.error]
@[simp] theorem State.outside_byteArrives (b : Byte) (f : Bool) (h : [Part.tracks, .levers, .set, .holds, .sections, .bells, .register, .alerts, .sounder, .lampTest, .outbox, .mode, .after, .box, .clock, .configuration, .counters, .choices, .emitted, .requests, .slot, .linkCounts, .assembler] ⊆ ps) :
    Outside ps s (t.byteArrives b f) ↔ Outside ps s t := outside_iff (State.byteArrives_outside b f t) h

/-- The frame of `State.gapPasses`. -/
theorem State.gapPasses_outside (s : State) :
    Outside [.assembler, .linkCounts] s (s.gapPasses) := by
  unfold State.gapPasses; repeat' split
  all_goals simp
@[simp] theorem State.outside_gapPasses (h : [Part.assembler, .linkCounts] ⊆ ps) :
    Outside ps s (t.gapPasses) ↔ Outside ps s t := outside_iff (State.gapPasses_outside t) h

/-- Placing a notice changes the outbox and its counts alone. -/
theorem Link.place_same (k : Link) (n : Notice) :
    (k.place n).asm = k.asm ∧ (k.place n).queue = k.queue ∧ (k.place n).slot = k.slot ∧ (k.place n).tx = k.tx ∧
      (k.place n).linkErrors = k.linkErrors ∧ (k.place n).abandoned = k.abandoned ∧
      (k.place n).discarded = k.discarded := by
  unfold Link.place; split <;> simp

/-- Placing notices changes the outbox and its counts alone. -/
theorem Link.places_same (l : List Notice) (k : Link) :
    (l.foldl Link.place k).asm = k.asm ∧ (l.foldl Link.place k).queue = k.queue ∧
      (l.foldl Link.place k).slot = k.slot ∧ (l.foldl Link.place k).tx = k.tx ∧
      (l.foldl Link.place k).linkErrors = k.linkErrors ∧ (l.foldl Link.place k).abandoned = k.abandoned ∧
      (l.foldl Link.place k).discarded = k.discarded := by
  induction l generalizing k with
  | nil => simp
  | cons n l ih =>
    obtain ⟨h1, h2, h3, h4, h5, h6, h7⟩ := ih (k.place n)
    obtain ⟨k1, k2, k3, k4, k5, k6, k7⟩ := k.place_same n
    simp only [List.foldl_cons]
    exact ⟨h1.trans k1, h2.trans k2, h3.trans k3, h4.trans k4, h5.trans k5, h6.trans k6, h7.trans k7⟩

/-- The frame of `State.flush`. -/
theorem State.flush_outside (s : State) :
    Outside [.emitted, .outbox] s (s.flush) := by
  obtain ⟨h1, h2, h3, h4, h5, h6, h7⟩ :=
    Link.places_same ((if s.control.mode = .start then [] else s.emitted.filter fun d => s.sends d.event.kind).map
      s.noticeOf) s.link
  intro p hp; cases p <;> simp_all [Part.Same, State.flush]
@[simp] theorem State.outside_flush (h : [Part.emitted, .outbox] ⊆ ps) :
    Outside ps s (t.flush) ↔ Outside ps s t := outside_iff (State.flush_outside t) h

/-- The frame of `State.kick`. -/
theorem State.kick_outside (s : State) :
    Outside [.transmitter] s (s.kick) := by
  unfold State.kick; dsimp only; repeat' split
  all_goals simp
@[simp] theorem State.outside_kick (h : [Part.transmitter] ⊆ ps) :
    Outside ps s (t.kick) ↔ Outside ps s t := outside_iff (State.kick_outside t) h

/-- The frame of `State.frameGoes`. -/
theorem State.frameGoes_outside (s : State) :
    Outside [.tracks, .levers, .set, .holds, .sections, .bells, .register, .alerts, .sounder, .lampTest, .outbox, .mode, .after, .box, .clock, .configuration, .counters, .choices, .emitted, .requests, .slot, .transmitter] s (s.frameGoes) := by
  unfold State.frameGoes; dsimp only; repeat' split
  all_goals simp
@[simp] theorem State.outside_frameGoes (h : [Part.tracks, .levers, .set, .holds, .sections, .bells, .register, .alerts, .sounder, .lampTest, .outbox, .mode, .after, .box, .clock, .configuration, .counters, .choices, .emitted, .requests, .slot, .transmitter] ⊆ ps) :
    Outside ps s (t.frameGoes) ↔ Outside ps s t := outside_iff (State.frameGoes_outside t) h

/-- The frame of `State.close`. -/
theorem State.close_outside (s : State) :
    Outside [.emitted, .outbox, .transmitter] s (s.close) := by
  unfold State.close; simp
@[simp] theorem State.outside_close (h : [Part.emitted, .outbox, .transmitter] ⊆ ps) :
    Outside ps s (t.close) ↔ Outside ps s t := outside_iff (State.close_outside t) h

end Sys2Proof.Machine
end

