-- ==== Sys2Proof/Laws/Events.lean ====
section
/-! SUPPORT. What an event is made of: taking it, serving a request at once, placing its notices, and the hold
list. -/

namespace Sys2Proof.Machine

variable {s t u : State}

/-! ### Taking an event -/

/-- A powered part takes an event at its time and closes it. -/
theorem State.event_powered (tm : Time) (f : State → State) (h : s.powered = true) :
    s.event tm f = (f (s.advance tm)).close := by
  simp [State.event, State.advance, h]

/-- A powered part takes a change at its terminals. -/
theorem State.terminal_powered (tm : Time) (i : Inputs → Inputs) (f : State → State) (h : s.powered = true)
    (hi : i s.inputs ≠ s.inputs) :
    s.terminal tm i f = (f ((s.advance tm).putInputs (i s.inputs))).close := by
  simp [State.terminal, State.advance, State.putInputs, h, hi]

/-- A change that leaves the terminals as they were is no event. -/
theorem State.terminal_same (tm : Time) (i : Inputs → Inputs) (f : State → State) (hi : i s.inputs = s.inputs) :
    s.terminal tm i f = s.advance tm := by
  simp [State.terminal, State.advance, hi]

/-- A request that finds an empty slot and an empty queue, with no reset and no store write to come, is served at
once and its reply fills the slot. -/
theorem State.submit_empty (tag : Byte) (r : Request) (hm : s.control.mode ≠ .start) (hs : s.link.slot = none)
    (hq : s.link.queue = []) (ha : s.control.after = none) (hw : s.control.writing = false) :
    s.submit tag r = (s.serve r).2.2.putLink { (s.serve r).2.2.link with
      slot := some ⟨r.replyKind, tag, (s.serve r).1, (s.serve r).2.1⟩ } := by
  obtain ⟨_, _, _, _, _, _, _, _, _, _, _, ⟨_, queue, slot, _, _, _, _, _, _, _⟩, control, _, _, _, _⟩ := s
  simp only at hm hs hq ha hw
  subst hs hq
  simp [State.submit, State.enqueue, State.takeNext, State.putLink, hm, ha, hw]

/-- A request to a part that is ready. -/
theorem State.request_ready (tm : Time) (tag : Byte) (r : Request) (h : s.ready) :
    s.request tm tag r = ((((s.advance tm).serve r).2.2).putLink { ((s.advance tm).serve r).2.2.link with
      slot := some ⟨r.replyKind, tag, ((s.advance tm).serve r).1, ((s.advance tm).serve r).2.1⟩ }).close := by
  obtain ⟨⟨⟨hp, -⟩, hm⟩, hs, hq, ha, hw⟩ := h
  rw [State.request, State.event_powered tm _ hp]
  exact congrArg State.close (State.submit_empty (s := s.advance tm) tag r hm hs hq ha hw)

/-! ### Placing notices -/

/-- Notices that find room join the outbox in their order. -/
theorem Link.places_outbox (l : List Notice) (k : Link) (h : k.outbox.length + l.length ≤ 32) :
    (l.foldl Link.place k).outbox = k.outbox ++ l := by
  induction l generalizing k with
  | nil => simp
  | cons n l ih =>
    simp only [List.length_cons] at h
    have hk : k.outbox.length < 32 := by omega
    rw [List.foldl_cons, ih]
    · simp [Link.place, hk]
    · simp [Link.place, hk]; omega

@[simp] theorem State.kick_outbox (s : State) : s.kick.link.outbox = s.link.outbox := by
  unfold State.kick; repeat' split
  all_goals rfl

/-- At the close of an event its notices join the outbox while it has room. -/
theorem State.close_outbox (hm : s.control.mode ≠ .start) (h : s.link.outbox.length + s.emitted.length ≤ 32) :
    s.close.link.outbox = s.link.outbox ++ (s.emitted.filter fun d => s.sends d.event.kind).map s.noticeOf := by
  simp only [State.close, State.kick_outbox, State.flush, hm, if_false]
  refine Link.places_outbox _ _ ?_
  have := List.length_filter_le (fun d : Draft => s.sends d.event.kind) s.emitted
  simp only [List.length_map]; omega

@[simp] theorem State.noticeOf_event (s : State) (d : Draft) : (s.noticeOf d).event = d.event := rfl
@[simp] theorem State.noticeOf_object (s : State) (d : Draft) : (s.noticeOf d).object = d.object := rfl

/-- What an event announces, read off the notices it drafted. -/
theorem State.announces_close (hm : t.control.mode ≠ .start) (ho : t.link.outbox = s.link.outbox)
    (hk : ∀ k, t.sends k = s.sends k) :
    s.announces t.close (t.emitted.map fun d => (d.event, d.object)) := by
  intro h
  simp only [List.length_map] at h
  rw [State.close_outbox hm (by rw [ho]; exact h), List.map_append, ho]
  congr 1
  simp only [List.map_map, List.filter_map, hk]
  rfl

/-! ### The hold list -/

theorem State.hold?_signal {n : Nat} {h : Hold} (hh : s.hold? n = some h) : h.signal = n := by
  simpa using List.find?_some hh

@[simp] theorem State.hold?_putHolds_filter (n m : Nat) (s : State) :
    (s.putHolds (s.holds.filter fun h => h.signal != n)).hold? m = if m = n then none else s.hold? m := by
  simp only [State.hold?, State.putHolds, List.find?_filter]
  split
  · next e => subst e; simp
  · next e =>
    congr 1; funext h
    by_cases hm : h.signal = m <;> simp [hm, e]

theorem find?_replaceHold (h : Hold) (m : Nat) (l : List Hold) :
    (replaceHold h l).find? (fun k => k.signal == m) =
      if m = h.signal then (l.find? fun k => k.signal == m).map fun _ => h else l.find? fun k => k.signal == m := by
  induction l with
  | nil => simp [replaceHold]
  | cons k l ih =>
    simp only [replaceHold, List.map_cons, List.find?_cons] at ih ⊢
    by_cases e : k.signal = h.signal
    · by_cases em : m = h.signal
      · simp [e, em]
      · have e' : (h.signal == m) = false := beq_eq_false_iff_ne.2 fun x => em x.symm
        simp only [e, beq_self_eq_true, if_true, e', em, if_false] at ih ⊢
        exact ih
    · by_cases em : m = h.signal
      · have e' : (k.signal == h.signal) = false := beq_eq_false_iff_ne.2 e
        subst em; simp only [e', Bool.false_eq_true, if_false, if_true] at ih ⊢; exact ih
      · have e' : (k.signal == h.signal) = false := beq_eq_false_iff_ne.2 e
        simp only [e', Bool.false_eq_true, if_false, em] at ih ⊢
        rw [ih]

@[simp] theorem State.hold?_putHold (h : Hold) (m : Nat) (s : State) :
    (s.putHold h).hold? m = if m = h.signal then (s.hold? m).map fun _ => h else s.hold? m :=
  find?_replaceHold h m s.holds

end Sys2Proof.Machine
end

