-- ==== Sys2Proof/Laws/Validation.lean ====
section
/-!
SUPPORT. What a search for the first failure answers, said once (R199).
-/

namespace Sys2Proof

/-- Nothing fails exactly when every item passes its checks. -/
theorem Conf.firstFail_eq_none (c : Conf) (l : List (Nat × Nat)) :
    c.firstFail l = none ↔ ∀ p ∈ l, c.checkItem p.1 p.2 = none := by
  induction l with
  | nil => simp [firstFail]
  | cons p l ih => cases h : c.checkItem p.1 p.2 <;> simp [firstFail, h, ih]

/-- A failure is that of the first item that fails, all before it passing. -/
theorem Conf.firstFail_eq_some (c : Conf) (l : List (Nat × Nat)) (f : CheckFail) :
    c.firstFail l = some f ↔ ∃ before rest, l = before ++ (f.cls, f.index) :: rest ∧
      (∀ p ∈ before, c.checkItem p.1 p.2 = none) ∧ c.checkItem f.cls f.index = some f.check := by
  induction l with
  | nil => simp [firstFail]
  | cons p l ih =>
    obtain ⟨cls, i⟩ := p
    cases h : c.checkItem cls i with
    | none =>
      simp only [firstFail, h, ih]
      constructor
      · rintro ⟨before, rest, rfl, hb, hf⟩
        exact ⟨(cls, i) :: before, rest, rfl, by simpa [h] using hb, hf⟩
      · rintro ⟨_ | ⟨q, before⟩, rest, he, hb, hf⟩
        · simp only [List.nil_append, List.cons.injEq, Prod.mk.injEq] at he
          rw [he.1.1, he.1.2, hf] at h; cases h
        · simp only [List.cons_append, List.cons.injEq] at he
          exact ⟨before, rest, he.2, fun p hp => hb p (by simp [hp]), hf⟩
    | some k =>
      simp only [firstFail, h, Option.some.injEq]
      constructor
      · rintro rfl; exact ⟨[], l, rfl, by simp, h⟩
      · rintro ⟨_ | ⟨q, before⟩, rest, he, hb, hf⟩
        · simp only [List.nil_append, List.cons.injEq, Prod.mk.injEq] at he
          obtain ⟨⟨rfl, rfl⟩, -⟩ := he
          rw [hf] at h; cases h; rfl
        · simp only [List.cons_append, List.cons.injEq] at he
          have := hb q (by simp)
          rw [← he.1, h] at this; cases this

end Sys2Proof
end

