-- ==== Sys2Proof/Tests/Slice0.lean ====
section
/-!
SUPPORT. Tests. Expected values come from the manual: its rules, its tables and its worked sequences, named in each
test. Then, for every obligation with hypotheses, a state and operands that meet them together.
-/

namespace Sys2Proof.Tests

open Sys2Proof Sys2Proof.Machine

set_option maxRecDepth 20000

/-! ### Well-formedness refuses -/

theorem test_wellFormed_refuses_track :
    (Instr.trackRelayDrop 0 0).wellFormed = false ∧ (Instr.trackRelayPickUp 0 17).wellFormed = false := by decide
theorem test_wellFormed_refuses_lever :
    (Instr.catchLift 0 0).wellFormed = false ∧ (Instr.detectorOpen 0 25 .normal).wellFormed = false := by decide
theorem test_wellFormed_refuses_section :
    (Instr.blockLineChange 0 0 .none).wellFormed = false ∧ (Instr.stabilityTimerExpiry 0 7).wellFormed = false := by decide
theorem test_wellFormed_refuses_line :
    (Instr.plungerPress 0 0).wellFormed = false ∧ (Instr.bellInputOn 0 4 .manual).wellFormed = false := by decide
theorem test_wellFormed_refuses_record :
    (Instr.headGraceExpiry 0 0).wellFormed = false ∧ (Instr.headGraceExpiry 0 49).wellFormed = false := by decide
theorem test_wellFormed_refuses_indication :
    (Instr.pulseTimerExpiry 0 0).wellFormed = false ∧ (Instr.pulseTimerExpiry 0 33).wellFormed = false := by decide
theorem test_wellFormed_refuses_request_kind :
    (Instr.unknownRequest 0 0 0x01).wellFormed = false ∧ (Instr.unknownRequest 0 0 0x26).wellFormed = true := by decide
theorem test_wellFormed_refuses_long_body :
    (Instr.writeConfig 0 0 (List.replicate 241 0)).wellFormed = false ∧
      (Instr.writeConfig 0 0 (List.replicate 240 0)).wellFormed = true := by decide
theorem test_wellFormed_refuses_counter :
    (Instr.lossOfPower 0 (some ⟨.mark 17, true⟩)).wellFormed = false ∧
      (Instr.lossOfPower 0 (some ⟨.release 24, true⟩)).wellFormed = true := by decide

/-- The table gives no row bits, so no word spells a command. -/
theorem test_decode_no_word : decodeTableWord 8 1 = none ∧ (State.reset.withFetchWord 16 3).pending = [] := by decide

/-! ### The parts the tests are built from -/

/-- A small configuration that passes validation. -/
def conf : Conf where
  leverKinds := Tab.build 24 fun n => if n = 5 then .points else if n = 1 ∨ n = 2 ∨ n = 3 ∨ n = 14 then .signal else .spare
  entries := Tab.build 96 fun i =>
    if i = entryIndex 1 .a .toReverse then [.lr 5, .tc 3]
    else if i = entryIndex 5 .a .toReverse ∨ i = entryIndex 5 .a .toNormal then [.ln 1]
    else if i = entryIndex 14 .a .toReverse ∨ i = entryIndex 14 .b .toReverse then [.lcr 4]
    else if i = entryIndex 3 .a .toReverse ∨ i = entryIndex 3 .b .toReverse then [.lcr 5]
    else []
  holdDefs := (Tab.rep 24 {}).put 1 { present := true, approach := some 3, holding := [1, 2], held := [5] }
  tracks := Tab.build 16 fun t =>
    if t = 1 then { kind := .running, flicker := .limit 1, neighbours := [2] }
    else if t = 2 then { kind := .running, flicker := .each, neighbours := [1, 4] }
    else if t = 3 then { kind := .siding, flicker := .off }
    else if t = 4 then { kind := .running, neighbours := [2, 9] }
    else if t = 9 then { kind := .running, neighbours := [4] }
    else {}
  sections := Tab.build 6 fun x =>
    if x = 1 then { role := .accepting, line := 1, pair := some 4, home := 1, clearing := 2, entry := 1 }
    else if x = 2 then { role := .accepting, line := 2, pair := some 5, home := 2, clearing := 4, entry := 9 }
    else if x = 4 then { role := .offering, line := 2, pair := some 1, starting := 14, exit := 9, berth := some 4 }
    else if x = 5 then { role := .offering, line := 1, pair := some 2, starting := 3, exit := 1 }
    else {}
  codes := Tab.build 32 fun e =>
    if e = 1 then ⟨true, [1], .callAttention, 0⟩
    else if e = 2 then ⟨true, [3, 1], .offer, 1⟩
    else if e = 3 then ⟨true, [2, 1], .outOfSection, 0⟩
    else if e = 4 then ⟨true, [5, 5, 5], .switchOutNotice, 0⟩
    else if e = 5 then ⟨true, [5, 5], .switchInNotice, 0⟩
    else if e = 6 then ⟨true, [2], .entering, 0⟩
    else if e = 7 then ⟨true, [3, 5], .cancel, 0⟩
    else if e = 8 then ⟨true, [6], .obstruction, 0⟩
    else {}
  switchOut := { may := true }

/-- The part in RUNNING at 5,000 ms, every track clear, every lever normal, every section of a pair blocked. -/
def part : State :=
  { State.reset with
    now := 5000
    inputs := {
      levers := Tab.rep 24 { normalMade := true }
      relays := Tab.rep 16 true
      blockLines := Tab.rep 6 .negative
      switches := Tab.rep 6 { lb := true }
      key := true }
    tracks := Tab.rep 16 { filter := .clear }
    levers := Tab.rep 24 { phase := .normal, fresh := true }
    sections := Tab.rep 6 { acc := { state := .lb, switch := .lb, assumed := false }, off := { repeater := .lb } }
    control := { mode := .running, interval := none, base := 2000, clock := { nextAt := 5000 } }
    store := { inForce := conf, checkGood := true, working := conf } }

/-- The state that a command leaves. -/
def after (s : State) (c : Instr) : State :=
  match exec c s with
  | .next u => u
  | _ => s

/-- The part in another mode. -/
def inMode (m : Mode) (s : State) : State := s.putControl { s.control with mode := m }
/-- The part with its terminals changed for one lever. -/
def withLeverInputs (n : Nat) (i : LeverInputs) (s : State) : State :=
  s.putInputs { s.inputs with levers := s.inputs.levers.put n i }
/-- The part with one track relay dropped. -/
def relayDown (t : Nat) (s : State) : State := s.putInputs { s.inputs with relays := s.inputs.relays.put t false }
/-- The part with the bell input of a line's recognizer on. -/
def inputOn (l : Nat) (s : State) : State := s.putInputs { s.inputs with receive := s.inputs.receive.put l true }
/-- The part with a command in front. -/
def waiting (c : Instr) (s : State) : State := { s with pending := [c] }
/-- The part with the box switched out and the relay on. -/
def relaying (s : State) : State :=
  { s with
    set := .b
    control := { s.control with box := .switchedOut, relayOn := true }
    sections := (s.sections.put 1 { s.sec 1 with acc := { state := .through } }).put 2
      { s.sec 2 with acc := { state := .through } } }

theorem test_conf_is_valid : conf.validate = none := by decide
theorem test_default_conf_is_valid : ({} : Conf).validate = none := by decide

/-! ### Values worked in the manual -/

/-- 5.10.1 and 5.10.4: the beat reference after a stroke within a group. -/
theorem test_beat_follows :
    nextBeat 250 240 = 248 ∧ nextBeat 248 240 = 246 ∧ nextBeat 250 400 = 288 ∧ nextBeat 86 50 = 80 := by decide
/-- 5.10.1 and 5.10.2: the end gap. -/
theorem test_end_gap : endGapOf 248 = 1000 ∧ endGapOf 288 = 1152 ∧ endGapOf 800 = 3000 := by decide
/-- 5.10.8: the strokes of 3-1 at a send beat of 240. -/
theorem test_stroke_schedule : strokeStarts 240 0 [3, 1] = [0, 240, 480, 1200] := by decide
/-- The CRC of R184 is CRC-16 with polynomial 1021h from FFFFh; its known check over "123456789" is 29B1h. -/
theorem test_crc_check_value : crc [0x31, 0x32, 0x33, 0x34, 0x35, 0x36, 0x37, 0x38, 0x39] = 0x29B1#16 := by decide
/-- R183: length, kind, tag and body read back. -/
theorem test_request_parses : Request.parse 0x0A [3, 5] = .readConfig 3 5 ∧ Request.parse 0x01 [7] = .malformed 0x01 := by
  decide
/-- 12.7: a delay of 3,050 ms is no whole step of 100 ms. -/
theorem test_delay_step :
    writeBody {} (3 :: 5 :: bTrackConf { kind := .running, delay := 3050 }) = none ∧
      (writeBody {} (3 :: 5 :: bTrackConf { kind := .running, delay := 3000 })).isSome = true := by decide
/-- 12.7's configuration: T5 names T4 and T9, and T9 does not name T5. -/
def disagreeing : Conf :=
  let ts := conf.tracks.put 4 { kind := .running, neighbours := [2, 5, 9] }
  { conf with tracks := ts.put 5 { kind := .running, neighbours := [4, 9] } }

/-- 12.7: the failure is item class 3, index 5, check 2. -/
theorem test_validation_names_the_check : disagreeing.validate = some ⟨3, 5, 2⟩ := by decide

/-- R40, R71: entry 53, lever 14 set A to-reverse, lets S4's starting signal go without LCR 4; Table 12.2, check 6. -/
theorem test_validation_starting_signal :
    ({ conf with entries := conf.entries.put 53 [.ln 1] } : Conf).validate = some ⟨1, 53, 6⟩ ∧
      ({ conf with entries := conf.entries.put 55 [] } : Conf).validate = some ⟨1, 55, 6⟩ := by decide
/-- R85: the notice *start* names the state, the switch position and then the flags; here TOL, LC, assumed. -/
theorem test_start_notice_order :
    ((part.putAcc 1 { switch := .lc }).noticeOf ⟨.secStart, 1, bFlag false⟩).fields = [0, 2, 1, 1, 0, 0, 0, 0, 0] := by decide
/-- R178, R192: the notice *raised* stands before *dropped*. -/
theorem test_raise_before_drop :
    (State.raise .trackFailed 5 (part.putPanel { part.panel with
      alerts := (Tab.numbers 16).map fun t => ⟨.unexpectedOccupation, t, 7, ⟨0, 0, true⟩, 1, true⟩ })).emitted.map
        (fun d => (d.event, d.object)) = [(.alertRaised, 5), (.alertDropped, 1)] := by decide
/-- R196: the first notice after the start interval is *started*, here in HELD with configuration invalid, after a
power-on, the box OPEN and the clock unset. -/
theorem test_started_comes_first :
    (after State.reset (.startIntervalEnd 2000)).link.outbox.head?.map (fun n => (n.event, n.fields)) =
      some (.modeStarted, (Mode.held .invalid).bytes ++ b1 ResetCause.powerOn.ord ++ b1 BoxState.opened.ord ++ bFlag true) := by
  decide

/-! ### One step of a command -/

theorem test_catchLift_releases :
    (after part (.catchLift 6000 5)).lever 5 =
      { phase := .normalFree, solenoid := true, grant := some ⟨.toReverse, .a, [1]⟩, fresh := true } := by decide
/-- R30: the first unsatisfied term, LR 5 of signal 1, is term 1. -/
theorem test_catchLift_held : ((after part (.catchLift 6000 1)).lever 1).phase = .normalCatch := by decide
theorem test_catchLower_seats :
    (after (withLeverInputs 5 ⟨true, false, true⟩ (part.putLever 5 { phase := .normalCatch })) (.catchLower 6000 5)).lever 5 =
      { phase := .normal, fresh := true } := by decide
/-- R25: a normal lever whose normal detector opens is forced. -/
theorem test_detectorOpen_forced :
    ((after part (.detectorOpen 6000 5 .normal)).lever 5).phase = .fault ∧
      ((after part (.detectorOpen 6000 5 .normal)).store.counter (.forced 5)).value = 1 := by decide
/-- R26. -/
theorem test_detectorMake_both : ((after part (.detectorMake 6000 5 .reverse)).lever 5).phase = .fault := by decide
theorem test_travelTimerExpiry :
    ((after (part.putLever 5 { phase := .travel, timer := .running 6000 }) (.travelTimerExpiry 6000 5)).lever 5).timer =
      .expired := by decide
theorem test_trackRelayDrop : ((after part (.trackRelayDrop 6000 4)).track 4).filter = .occupied := by decide
/-- R5: T4 has the default delay of 2,000 ms. -/
theorem test_trackRelayPickUp :
    (after (relayDown 4 (part.putTrack 4 {})) (.trackRelayPickUp 6000 4)).track 4 =
      { filter := .picking, timer := some 8000 } := by decide
theorem test_pickUpTimerExpiry :
    (after (part.putTrack 4 { filter := .picking, timer := some 6000, flickers := 2 }) (.pickUpTimerExpiry 6000 4)).track 4 =
      { filter := .clear } := by decide
/-- R8: T1 has a limit of 2 flickers, and fails at the second. -/
theorem test_flicker_limit :
    ((after (part.putTrack 1 { filter := .picking, timer := some 7000, flickers := 1 }) (.trackRelayDrop 6000 1)).track 1) =
      { filter := .occupied, flickers := 2, failed := true } := by decide
theorem test_headGraceExpiry :
    (after (part.putRecord 1 { trail := [4], grace := some 6000 }) (.headGraceExpiry 6000 1)).record 1 =
      { trail := [4], lost := true } := by decide
/-- R178, R179: LEVER_FORCED has priority 15, and sounds continuously. -/
theorem test_forced_movement_sounds :
    (after part (.detectorOpen 6000 5 .normal)).panel.sounder = ⟨.continuous, true, none⟩ := by decide
theorem test_timeReleaseStart :
    ((after (part.putHolds [{ signal := 1, stages := [.waiting, .waiting], state := .holding }])
      (.timeReleaseStart 6000 7 1)).hold? 1).bind (·.timer) = some 126000 := by decide
theorem test_timeReleaseTimerExpiry :
    ((after (part.putHolds [{
        signal := 1
        stages := [.waiting, .waiting]
        state := .timing
        prior := some .holding
        timer := some 6000 }]) (.timeReleaseTimerExpiry 6000 1)).hold? 1).bind (·.timer) = some 36000 := by decide
/-- R58: the approach track T3 is effectively clear, so the lapse releases the hold at once. -/
theorem test_readyWindowLapse :
    (after (part.putHolds [{
        signal := 1
        stages := [.waiting, .waiting]
        state := .ready
        prior := some .holding
        timer := some 6000 }]) (.readyWindowLapse 6000 1)).holds = [] := by decide
theorem test_timeReleaseConfirm :
    ((after (part.putHolds [{
        signal := 1
        stages := [.waiting, .waiting]
        state := .ready
        prior := some .irregular
        timer := some 9000 }]) (.timeReleaseConfirm 6000 7 1)).store.counter (.release 1)).value = 1 := by decide
theorem test_timeReleaseCancel :
    ((after (part.putHolds [{
        signal := 1
        stages := [.waiting, .waiting]
        state := .timing
        prior := some .irregular
        timer := some 9000 }]) (.timeReleaseCancel 6000 7 1)).hold? 1).map (·.state) = some .irregular := by decide
theorem test_instrumentSwitchMove :
    ((after part (.instrumentSwitchMove 6000 1 { lc := true })).sec 1).acc.state = .lc := by decide
theorem test_blockLineChange : ((after part (.blockLineChange 6000 4 .positive)).sec 4).off.timer = some 6100 := by decide
theorem test_stabilityTimerExpiry :
    ((after ((part.putOff 4 { repeater := .lb, timer := some 6000 }).putInputs
      { part.inputs with blockLines := Tab.rep 6 .positive }) (.stabilityTimerExpiry 6000 4)).sec 4).off =
      { repeater := .lc, release := .available } := by decide
theorem test_sectionRestore :
    ((after (part.putAcc 1 {}) (.sectionRestore 6000 7 1)).sec 1).acc.state = .lb := by decide
theorem test_bellInputOn : ((after part (.bellInputOn 6000 1 .receive)).bell 1).rx.detector = .testing 6000 := by decide
/-- 5.10.5: a pulse of 12 ms is no stroke. -/
theorem test_bellInputOff_short :
    ((after (inputOn 1 (part.putBell 1 { rx := { detector := .testing 5988 } })) (.bellInputOff 6000 1 .receive)).bell 1).rx =
      {} := by decide
/-- 5.10.1: the first stroke at 0; B is 250, E is 1,000, the timer expires at 1,000. -/
theorem test_strokeTestExpiry_first :
    (((after (inputOn 1 (part.putBell 1 { rx := { detector := .testing 6000 } })) (.strokeTestExpiry 6020 1 .receive)).bell
      1).rx.beat = 250) ∧
      (((after (inputOn 1 (part.putBell 1 { rx := { detector := .testing 6000 } })) (.strokeTestExpiry 6020 1 .receive)).bell
        1).rx.gapTimer = .running 7000) := by decide
/-- 5.10.1: groups 3-1 finish at 2,200 and match entry 2, OFFER, class 1. -/
theorem test_endGapExpiry_offer :
    (((after (part.putBell 1 { rx := {
        phase := .assembling
        beat := 246
        groups := [3, 1]
        strokes := 4
        first := some 5000
        last := some 6200
        endGap := 1000
        gapTimer := .running 7200 } }) (.endGapExpiry 7200 1 .receive)).bell 1).rx.lastCode.bind (·.entry)) =
      some (2, .offer, 1) := by decide
/-- 6.8: the strokes of 3-1 in Line 1's beat of 240, each a third of it wide. -/
theorem test_sendBell :
    ((after part (.sendBell 6000 7 1 2 none)).bell 1).send =
      some ⟨2, none, 6000, [6000, 6240, 6480, 7200], 80, 0, true⟩ := by decide
theorem test_sendStrokeStart :
    ((after (part.putBell 1 { send := some ⟨2, none, 5000, [5000, 5240], 80, 1, false⟩ }) (.sendStrokeStart 5240 1)).bell
      1).send = some ⟨2, none, 5000, [5000, 5240], 80, 1, true⟩ := by decide
theorem test_sendStrokeEnd_last :
    (((after (part.putBell 1 { send := some ⟨1, none, 5000, [5000], 80, 0, true⟩ }) (.sendStrokeEnd 5080 1)).bell
      1).outstanding.map (·.deadline)) = some 15080 := by decide
theorem test_plungerPress : ((after part (.plungerPress 6000 1)).bell 1).plungerTimer = some 6500 := by decide
theorem test_plungerRelease :
    ((after (part.putBell 1 { plunger := .spent }) (.plungerRelease 6000 1)).bell 1).plunger = .off := by decide
theorem test_plungerOutputTimerExpiry :
    ((after (part.putBell 1 { plunger := .on, plungerTimer := some 6000 }) (.plungerOutputTimerExpiry 6000 1)).bell
      1).plunger = .spent := by decide
theorem test_relayOutputOff :
    ((after ((relaying part).putBell 1 { relay := some ⟨5500, 6000⟩ }) (.relayOutputOff 6000 1)).bell 1).relay = none := by
  decide
theorem test_repetitionDeadlineExpiry :
    (after (part.putBell 1 { outstanding := some ⟨⟨.matched, some (1, .callAttention), [1]⟩, 5000, 6000⟩ })
      (.repetitionDeadlineExpiry 6000 1)).panel.alerts.map (·.kind) = [.noRepetition] := by decide
theorem test_owedReminderExpiry :
    (after (part.putBell 1 { owed := some ⟨⟨.matched, some (1, .callAttention), [1]⟩, 5000, 6000, false⟩ })
      (.owedReminderExpiry 6000 1)).panel.alerts.map (·.kind) = [.repeatOwed] := by decide
theorem test_pendingThroughCodeExpiry :
    (after ((relaying part).putControl { (relaying part).control with
      through := some ⟨⟨.unrecognized, none, [7]⟩, 1, 6000⟩ }) (.pendingThroughCodeExpiry 6000)).control.through = none := by
  decide
theorem test_closeRecord :
    (after (part.putRegister { part.register with
        records := part.register.records.put 1 { inbound := some { sec := 1 } }
        free := part.register.free.tail
        opened := [1] }) (.closeRecord 6000 7 1)).register.completed = [1] := by decide
theorem test_collectRecord :
    (after (part.putRegister { part.register with
        records := part.register.records.put 1 { reason := some .finished }
        free := part.register.free.tail
        completed := [1] }) (.collectRecord 6000 7 1)).register.free = Tab.numbers 48 := by decide
theorem test_switchOut_refused :
    (after part (.switchOut 6000 7)).link.slot = some ⟨0x97, 7, .conditions, b1 8 ++ bObject (.line 1)⟩ := by decide
theorem test_switchIn_refused_open : (after part (.switchIn 6000 7)).link.slot.map (·.result) = some .refusedState := by decide
theorem test_lampTest : (after part (.lampTest 6000 7)).panel.lampTest = some 11000 := by decide
/-- 10.7: a dropped raise leaves the list, and ACK_ALERTS silences the sounder. -/
theorem test_ackAlerts_silences :
    ((after (part.putPanel { part.panel with
        alerts := [⟨.noRepetition, 2, 9, ⟨0, 0, true⟩, 1, false⟩]
        sounder := ⟨.oneHz, true, some 6500⟩ }) (.ackAlerts 6000 7)).panel.sounder) = ⟨.silent, false, none⟩ := by decide
theorem test_clearAlerts :
    (after (part.putPanel { part.panel with alerts := [⟨.noRepetition, 2, 9, ⟨0, 0, true⟩, 1, true⟩] })
      (.clearAlerts 6000 7)).panel.alerts = [] := by decide
theorem test_flasherHalf :
    (after (part.putPanel { part.panel with flasher := some ⟨true, 6000⟩ }) (.flasherHalf 6000)).panel.flasher =
      some ⟨false, 6500⟩ := by decide
theorem test_pulseTimerExpiry :
    (after (part.putPanel { part.panel with pulses := part.panel.pulses.put 32 (some 6000) })
      (.pulseTimerExpiry 6000 32)).pulse 32 = none := by decide
theorem test_lampTestTimerExpiry :
    (after (part.putPanel { part.panel with lampTest := some 6000 }) (.lampTestTimerExpiry 6000)).panel.lampTest = none := by
  decide
/-- R179: a beep is 200 ms on and 4,800 ms off. -/
theorem test_sounderPatternTimer :
    (after (part.putPanel { part.panel with sounder := ⟨.beep, true, some 6000⟩ }) (.sounderPatternTimer 6000)).panel.sounder =
      ⟨.beep, false, some 10800⟩ := by decide
theorem test_clockSecond_wraps :
    (after (part.putControl { part.control with clock := ⟨65535, 86399, false, 6000⟩ }) (.clockSecond 6000)).control.clock =
      ⟨0, 0, false, 7000⟩ := by decide
theorem test_setClock : (after part (.setClock 6000 7 3 43200)).control.clock = ⟨3, 43200, false, 7000⟩ := by decide
/-- R197, R192: the withdrawn release stands before the cancelled time release. -/
theorem test_hold_order :
    (after ((part.putLever 14 { phase := .normalFree, solenoid := true, grant := some ⟨.toReverse, .a, []⟩, fresh := true }).putHolds
        [{ signal := 1, stages := [.waiting, .waiting], state := .timing, prior := some .holding, timer := some 9000 }])
      (.hold 6000 7)).link.outbox.map (fun n => (n.event, n.object)) =
      [(.modeHeld, 0), (.leverWithdrawn, 14), (.holdCancelled, 1)] := by decide
theorem test_hold_enters_held : (after part (.hold 6000 7)).control.mode = .held .hold := by decide
/-- 12.7: WRITE_CONFIG in RUNNING gets REFUSED_STATE. -/
theorem test_writeConfig_running :
    (after part (.writeConfig 6000 7 [8, 0, 5])).link.slot = some ⟨0xA2, 7, .refusedState, []⟩ := by decide
theorem test_resume_running : (after (inMode (.held .hold) part) (.resume 6000 7)).control.mode = .running := by decide
theorem test_restart_waits : (after part (.restart 6000 7)).control.after = some .restart := by decide
theorem test_restartReset :
    (after (part.putControl { part.control with after := some .restart }) (.restartReset 6000)).control.interval =
      some 8000 := by decide
theorem test_storeWriteCompleted :
    (after (part.putControl { part.control with writing := true }) (.storeWriteCompleted 6000)).control.mode = .start := by
  decide
/-- R196: a store never written leads to HELD with configuration invalid. -/
theorem test_startIntervalEnd_reset : (after State.reset (.startIntervalEnd 2000)).control.mode = .held .invalid := by decide
theorem test_resetLineLow :
    (after part (.resetLineLow 6000)).control.interval = none ∧ (after part (.resetLineLow 6000)).control.cause = .resetLine := by
  decide
/-- R199: a reset line that goes low in a store write leaves a bad check word. -/
theorem test_resetLineLow_cuts_the_write :
    (after (part.putControl { part.control with writing := true }) (.resetLineLow 6000)).store.checkGood = false := by decide
theorem test_lossOfPower : (after part (.lossOfPower 6000 none)).powered = false := by decide
theorem test_powerOn : (after { part with powered := false } (.powerOn 6000)).control.interval = some 8000 := by decide
theorem test_trackRestore :
    ((after (part.putTrack 4 { filter := .clear, failed := true, flickers := 3 }) (.trackRestore 6000 7 4)).track 4) =
      { filter := .clear } := by decide
theorem test_clearSticky :
    ((after (part.putLever 5 { phase := .normal, faultMark := true }) (.clearSticky 6000 7 5)).lever 5).faultMark = false := by
  decide
theorem test_status_ok : (after part (.status 6000 7)).link.slot.map (·.result) = some .ok := by decide
theorem test_unknownRequest : (after part (.unknownRequest 6000 7 0x3F)).link.slot = some ⟨0xFF, 7, .badRequest, []⟩ := by
  decide
theorem test_technicianKey : (after (after part (.technicianKeyChange 6000 false)) (.hold 6000 7)).link.slot.map (·.result) =
    some .notPermitted := by decide
theorem test_frameGapTimeout :
    (after (part.putLink { part.link with asm := ⟨.tag, [0, 1], 5000⟩ }) (.frameGapTimeout 5051)).link.abandoned = 1 := by
  decide
theorem test_frameSent :
    (after (part.putLink { part.link with slot := some ⟨0x81, 7, .ok, []⟩, tx := .reply }) (.frameSent 6000)).link.slot =
      none := by decide
theorem test_byteReceived_start : (after part (.byteReceived 6000 0x5A false)).link.asm = ⟨.length, [], 6000⟩ := by decide

/-! ### Hypotheses that are met

One theorem for each obligation that has hypotheses, named after it: states and operands that meet them together,
clause by clause. -/

theorem test_meets_StepRunsTheFrontCommand : (waiting (.clockSecond 1) part).pending = .clockSecond 1 :: [] ∧ part.pending = [] := by
  decide

theorem test_meets_StepKeepsLocksSafe : (∃ u, step (waiting (.catchLift 6000 5) part) = .next u) ∧
    (waiting (.catchLift 6000 5) part).LocksSafe := by
  refine ⟨⟨_, rfl⟩, ?_⟩; unfold State.LocksSafe; decide

/-- The part with record 1 open. -/
def withRecord (x : Record) (s : State) : State :=
  s.putRegister { s.register with
    records := s.register.records.put 1 x
    free := (Tab.numbers 48).tail
    opened := [1] }

theorem test_meets_StepKeepsTheRegister :
    (∃ u, step (waiting (.closeRecord 6000 7 1) (withRecord { inbound := some { sec := 1 }, trail := [1, 2] } part)) =
      .next u) ∧
    (withRecord { inbound := some { sec := 1 }, trail := [1, 2] } part).RegisterWhole ∧
    (withRecord { inbound := some { sec := 1 }, trail := [1, 2] } part).TrailsKept := by
  refine ⟨⟨_, rfl⟩, ?_, ?_⟩
  · unfold State.RegisterWhole; decide
  · unfold State.TrailsKept; decide

/-- A hold of signal 1 in a state, with its timer and prior state where the state has them. -/
def holdOf (state : HoldState) (timer : Option Time) : Hold :=
  { signal := 1
    stages := [.waiting, .waiting]
    state := state
    prior := if timer.isSome then some .holding else none
    timer := timer }

theorem test_meets_StepKeepsHolds :
    (∃ u, step (waiting (.timeReleaseTimerExpiry 6000 1) (part.putHolds [holdOf .timing (some 6000)])) = .next u) ∧
    (part.putHolds [holdOf .timing (some 6000)]).HoldsKept := by
  refine ⟨⟨_, rfl⟩, ?_⟩; unfold State.HoldsKept; decide

theorem test_meets_StepKeepsClearingPoints :
    (∃ u, step (waiting (.trackRelayDrop 6000 2) (part.putAcc 1 { state := .lc, switch := .lc })) = .next u) ∧
    (part.putAcc 1 { state := .lc, switch := .lc }).ClearingKept := by
  refine ⟨⟨_, rfl⟩, ?_⟩; unfold State.ClearingKept; decide

theorem test_meets_StepKeepsCounters :
    (∃ u, step (waiting (.detectorOpen 6000 5 .normal) part) = .next u) ∧ part.CountersAgree := by
  refine ⟨⟨_, rfl⟩, ?_⟩; unfold State.CountersAgree; decide

/-- A recognizer that has read some groups, its last stroke at 5,700. -/
def assembling (groups : List Nat) (gap : GapTimer) (detector : Detector) : Recognizer :=
  { detector := detector
    phase := .assembling
    beat := 240
    groups := groups
    strokes := groups.sum
    first := some 5000
    last := some 5700
    endGap := 1000
    gapTimer := gap }

/-- The lines are numbered 1 to 3. -/
theorem line_cases {l : Nat} (h : l ∈ Tab.numbers 3) : l = 1 ∨ l = 2 ∨ l = 3 := by
  simpa [Tab.numbers, List.range, List.range.loop] using h

theorem assembling_kept : (assembling [3, 1] (.running 6700) .off).Kept := by
  show _ ∧ _; decide
theorem idle_kept : ({} : Recognizer).Kept := by
  show _ ∧ _; decide

theorem test_meets_StepKeepsRecognizers :
    (∃ u, step (waiting (.endGapExpiry 6700 1 .receive)
      (part.putBell 1 { rx := assembling [3, 1] (.running 6700) .off })) = .next u) ∧
    (part.putBell 1 { rx := assembling [3, 1] (.running 6700) .off }).RecognizersKept := by
  refine ⟨⟨_, rfl⟩, by unfold BeatsFit; decide, by unfold BeatsFit; decide, fun l hl => ?_⟩
  rcases line_cases hl with rfl | rfl | rfl
  · exact ⟨assembling_kept, idle_kept⟩
  · exact ⟨idle_kept, idle_kept⟩
  · exact ⟨idle_kept, idle_kept⟩

theorem idle_recognizers {s : State} (hb : s.bells = Tab.rep 3 {}) (hf : BeatsFit s.store.inForce)
    (hw : BeatsFit s.store.working) : s.RecognizersKept := by
  refine ⟨hf, hw, fun l hl => ?_⟩
  rcases line_cases hl with rfl | rfl | rfl <;> simp only [State.bell, hb] <;> exact ⟨idle_kept, idle_kept⟩

theorem test_meets_StepKeepsBox :
    ((∃ u, step (waiting (.strokeTestExpiry 6000 1 .receive) (relaying part)) = .next u) ∧ (relaying part).BoxKept ∧
      (relaying part).RecognizersKept ∧ (relaying part).BellsQuiet ∧ (relaying part).LinkKept) ∧
    (State.reset.live = false ∧ State.reset.BoxKept ∧ State.reset.RecognizersKept ∧ State.reset.BellsQuiet ∧
      State.reset.LinkKept) := by
  refine ⟨⟨⟨_, rfl⟩, ?_, idle_recognizers rfl ?_ ?_, ?_, ?_⟩, by decide, ?_, idle_recognizers rfl ?_ ?_, ?_, ?_⟩
  · unfold State.BoxKept; decide
  · unfold BeatsFit; decide
  · unfold BeatsFit; decide
  · intro h; exact absurd h (by decide)
  · unfold State.LinkKept; decide
  · unfold State.BoxKept; decide
  · unfold BeatsFit; decide
  · unfold BeatsFit; decide
  · intro _ l hl ear; rcases line_cases hl with rfl | rfl | rfl <;> cases ear <;> exact ⟨rfl, nofun⟩
  · unfold State.LinkKept; decide

/-- The part with one alert listed. -/
def withAlert (s : State) : State := s.putPanel { s.panel with alerts := [⟨.noRepetition, 2, 9, ⟨0, 0, true⟩, 1, true⟩] }

/-- A part with no alert is silent. -/
theorem silent_kept {s : State} (ha : s.panel.alerts = []) (hs : s.panel.sounder = {}) : s.AlertsKept ∧ s.SounderKept := by
  refine ⟨by simp [State.AlertsKept, ha], ?_⟩
  unfold State.SounderKept; rw [hs]
  refine ⟨.inr fun p h => ?_, rfl, rfl⟩
  obtain ⟨-, ⟨a, hm, -⟩, -⟩ := h
  rw [ha] at hm; cases hm

/-- The part with an alert list, and the sounder in the on half of its 1 Hz pattern. -/
def ringing (l : List Alert) : State :=
  part.putPanel { part.panel with alerts := l, sounder := ⟨.oneHz, true, some 6500⟩ }

/-- Entries of priority 9 sound at 1 Hz over a threshold of 6. -/
theorem ringing_kept {l : List Alert} (hn : l ≠ []) (hl : ∀ a ∈ l, a.acked = false ∧ a.priority = 9) :
    (ringing l).SounderKept := by
  obtain ⟨a, rest, rfl⟩ := List.exists_cons_of_ne_nil hn
  have h : part.control.mode ≠ .start ∧ (if part.control.mode = .held .invalid then 6 else part.conf.threshold) ≤ 9 := by
    decide
  exact ⟨⟨h.1, 9, ⟨h.2, ⟨a, List.mem_cons_self, hl a List.mem_cons_self⟩, fun b hb _ => ((hl b hb).2).le⟩,
    by decide⟩, rfl⟩

/-- A full list of unacknowledged alerts of priority 9. -/
def sixteen : List Alert := (Tab.numbers 16).map fun t => ⟨.noRepetition, t, 9, ⟨0, 0, true⟩, 1, false⟩

theorem sixteen_rings : (ringing sixteen).SounderKept := ringing_kept (by decide) (by decide)

theorem test_meets_StepKeepsAlerts :
    ((∃ u, step (waiting (.detectorOpen 6000 5 .normal) (withAlert part)) = .next u) ∧ (withAlert part).AlertsKept) ∧
    (∃ u, step (waiting (.ackAlerts 6000 7) (ringing sixteen)) = .next u) ∧
    (waiting (.ackAlerts 6000 7) (ringing sixteen)).SounderKept := by
  refine ⟨⟨⟨_, rfl⟩, ?_⟩, ⟨_, rfl⟩, sixteen_rings⟩; unfold State.AlertsKept; decide

/-- The part with a reply being sent. -/
def replying (s : State) : State := s.putLink { s.link with slot := some ⟨0x81, 7, .ok, []⟩, tx := .reply }

theorem test_meets_StepKeepsLink :
    (∃ u, step (waiting (.frameSent 6000) (replying part)) = .next u) ∧ (replying part).LinkKept := by
  refine ⟨⟨_, rfl⟩, ?_⟩; unfold State.LinkKept; decide

/-- The part with the tracks that are not fitted OCCUPIED. -/
def railed : State := { part with tracks := Tab.build 16 fun t => if conf.fitted t then { filter := .clear } else {} }

theorem test_meets_StepKeepsTracks :
    (∃ u, step (waiting (.trackRelayDrop 6000 1) railed) = .next u) ∧ railed.TracksKept := by
  refine ⟨⟨_, rfl⟩, ?_⟩; unfold State.TracksKept; decide

theorem test_meets_PowerOnStartsEveryUnit :
    State.powered { part with powered := false } = false ∧ (CounterName.mark 16).wellFormed = true := by decide

theorem test_meets_LossOfPowerSparesTheStore :
    (part.powered = true ∧ part.control.writing = false) ∧
    ((part.putControl { part.control with writing := true }).powered = true ∧
      (part.putControl { part.control with writing := true }).control.writing = true ∧ itemExists 3 5 = true) ∧
    part.CountersAgree ∧ (CounterName.release 24).wellFormed = true := by
  refine ⟨by decide, by decide, ?_, by decide⟩; unfold State.CountersAgree; decide

/-- The part with what follows a reply. -/
def toFollow (a : AfterReply) (s : State) : State := s.putControl { s.control with after := some a }

theorem test_meets_WarmRestartsKeepWhatTheyKeep :
    (part.between ∧ part.inputs.resetLow = false ∧ part.control.writing = false) ∧
    ((State.putInputs { part.inputs with resetLow := true } (inMode .start part)).between ∧
      (State.putInputs { part.inputs with resetLow := true } (inMode .start part)).inputs.resetLow = true ∧
      (inMode .start part).control.mode = .start ∧ (inMode .start part).control.interval = none) ∧
    ((toFollow .restart part).between ∧ (toFollow .restart part).control.after = some .restart ∧
      (toFollow .restart part).link.slot = none) ∧
    ((toFollow .storeWrite part).between ∧ (toFollow .storeWrite part).control.after = some .storeWrite) ∧
    (part.putControl { part.control with writing := true }).between ∧
    (part.putControl { part.control with writing := true }).inputs.resetLow = false ∧ itemExists 4 6 = true ∧
    (part.putControl { part.control with writing := true }).control.writing = true := by
  unfold State.between; decide

/-- The part at the end of its start interval. -/
def starting : State :=
  { part with
    tracks := Tab.rep 16 {}
    levers := ((Tab.rep 24 { phase := .normal }).put 2 {}).put 3 { phase := .fault }
    control := { part.control with mode := .start, interval := some 6000 } }

theorem starting_locksSafe : starting.LocksSafe := by unfold State.LocksSafe; decide
theorem reset_locksSafe : State.reset.LocksSafe := by unfold State.LocksSafe; decide
theorem part_locksSafe : part.LocksSafe := by unfold State.LocksSafe; decide

/-- The part switched out at the end of its start interval, with its sections and its switch-out record as given. -/
def resuming (sections : Tab 6 Sec) (c : SwitchOutConf) : State :=
  { starting with
    set := .b
    sections := sections
    control := { starting.control with box := .switchedOut }
    store := { starting.store with inForce := { conf with switchOut := c } } }

theorem test_meets_StartIntervalEnds :
    (starting.between ∧ starting.control.mode = .start ∧ starting.control.interval = some 6000 ∧ 6000 ≤ max starting.now 6000 ∧
      starting.store.checkGood = true ∧ starting.control.box = .opened ∧ starting.holds = [] ∧
      (∀ t ∈ Tab.numbers 16, (starting.track t).filter = .occupied) ∧ starting.conf.fitted 9 = true ∧
      (starting.lever 1).phase = .normal ∧ (starting.lever 2).phase = .travel ∧ (starting.lever 3).phase = .fault ∧
      (starting.conf.sec 1).role = .accepting ∧ (starting.sec 1).acc.state ≠ .through ∧
      (starting.conf.sec 4).role = .offering) ∧ starting.LocksSafe ∧
    ((starting.conf.holdDef 1).map (·.holding) = some [1, 2] ∧ starting.standing 1 = .normal ∧
      ({ starting with levers := starting.levers.put 1 { phase := .reverse } } : State).standing 1 = .reverse) ∧
    ((resuming (relaying part).sections conf.switchOut).between ∧
      (resuming (relaying part).sections conf.switchOut).control.mode = .start ∧
      (resuming (relaying part).sections conf.switchOut).control.interval = some 6000 ∧
      (resuming (relaying part).sections conf.switchOut).store.checkGood = true ∧
      (resuming (relaying part).sections conf.switchOut).control.box = .switchedOut ∧
      (resuming (relaying part).sections conf.switchOut).control.relayOn = false ∧
      (resuming (relaying part).sections conf.switchOut).conf.switchOut.may = true ∧
      (resuming (relaying part).sections conf.switchOut).throughSections =
        (resuming (relaying part).sections conf.switchOut).pairAccepting ∧
      1 ∈ (resuming (relaying part).sections conf.switchOut).throughSections) ∧
    (resuming (relaying part).sections {}).conf.switchOut.may = false ∧
    (resuming part.sections conf.switchOut).throughSections ≠ (resuming part.sections conf.switchOut).pairAccepting ∧
    (State.reset.between ∧ State.reset.control.mode = .start ∧ State.reset.control.interval = some 2000 ∧
      2000 ≤ max State.reset.now 2000 ∧ State.reset.store.checkGood = false ∧ State.reset.LocksSafe) := by
  unfold State.between
  exact ⟨by decide, starting_locksSafe, by decide, by decide, by decide, by decide, by decide, by decide, by decide, by decide,
    by decide, reset_locksSafe⟩

theorem test_meets_ClockCountsAndIsSet :
    (part.between ∧ part.control.clock.nextAt ≤ max part.now 5000 ∧ part.control.clock.second ≤ 86399 ∧
      part.control.clock.day ≤ 65535) ∧
    part.ready ∧ (86399 : BitVec 32).toNat ≤ 86399 ∧ 86399 < (86400 : BitVec 32).toNat := by
  unfold State.ready State.started State.between; decide

/-- The part in HELD, entered by HOLD, with the written flag as given and a working copy. -/
def held (written : Bool) (c : Conf) : State :=
  { inMode (.held .hold) part with store := { part.store with written := written, working := c } }

/-- The part with lever 14 released and a hold of signal 1 in TIMING. -/
def releasedAndTiming : State :=
  (part.putLever 14 { phase := .normalFree, solenoid := true, grant := some ⟨.toReverse, .a, []⟩, fresh := true }).putHolds
    [holdOf .timing (some 9000)]

theorem test_meets_ModeRequests :
    (releasedAndTiming.ready ∧ releasedAndTiming.inputs.key = true ∧ releasedAndTiming.control.mode = .running ∧
      releasedAndTiming.LocksSafe ∧ isLever 14 = true ∧ (releasedAndTiming.lever 14).phase.isFree = true ∧
      releasedAndTiming.othersSeated 14 ∧ releasedAndTiming.holds = [holdOf .timing (some 9000)] ∧
      (holdOf .timing (some 9000)).releasing = true ∧ (holdOf .timing (some 9000)).signal ≠ 14) ∧
    (part.LocksSafe ∧ part.ready ∧ part.inputs.key = true ∧ part.control.mode = .running) ∧
    ((held false conf).ready ∧ (held false conf).control.mode ≠ .running ∧ (held false conf).control.mode = .held .hold ∧
      (held false conf).store.written = false ∧ (held false conf).store.working.validate = none) ∧
    ((held true conf).ready ∧ (held true conf).store.written = true ∧ (held true conf).store.working.validate = none) ∧
    ((held true { conf with sections := conf.sections.put 1 {} }).ready ∧
      (({ conf with sections := conf.sections.put 1 {} } : Conf).validate).isSome = true) ∧
    (inMode (.held .invalid) part).control.mode = .held .invalid ∧ (inMode (.held .invalid) part).store.written = false := by
  unfold State.ready State.started State.between State.othersSeated State.unraised
  exact ⟨⟨by decide, by decide, by decide, by unfold State.LocksSafe; decide, by decide⟩, ⟨part_locksSafe, by decide⟩,
    by decide⟩

theorem test_meets_WriteConfigWritesTheWorkingCopy :
    (part.ready ∧ part.inputs.key = true ∧ part.control.mode = .running) ∧ (held false conf).ready ∧
    (held false conf).control.mode = .held .hold ∧ (writeBody (held false conf).store.working [8, 0, 15]).isSome = true ∧
    writeBody (held false conf).store.working [8, 0, 16] = none := by
  unfold State.ready State.started State.between; decide

theorem test_meets_DropInClearBeginsAnOccupation :
    part.working ∧ isTrack 9 = true ∧ part.conf.fitted 9 = true ∧ part.relayPicked 9 = true ∧ (part.track 9).filter = .clear ∧
    (part.track 9).marked = false ∧ ((part.putTrack 3 { filter := .clear, failed := true }).track 3).marked = true ∧
    (part.conf.track 3).kind = .siding := by
  unfold State.working State.between; decide

/-- The part with a track picking up, with so many flickers. -/
def picking (t k : Nat) : State := part.putTrack t { filter := .picking, timer := some 6000, flickers := k }

theorem test_meets_FlickersAreCountedByMode :
    ((picking 1 0).working ∧ (picking 1 0).conf.fitted 1 = true ∧ (picking 1 0).relayPicked 1 = true ∧
      ((picking 1 0).track 1).filter = .picking) ∧
    ((picking 3 0).conf.track 3).flicker = .off ∧ ((picking 2 0).conf.track 2).flicker = .each ∧
    (((picking 1 0).conf.track 1).flicker = .limit 1 ∧ ((picking 1 0).track 1).flickers + 1 < 2 ^ 1) ∧
    (((picking 1 1).conf.track 1).flicker = .limit 1 ∧ ((picking 1 1).track 1).flickers + 1 = 2 ^ 1 ∧
      (picking 1 1).panel.alerts.length < 16) ∧
    (((picking 1 2).conf.track 1).flicker = .limit 1 ∧ 2 ^ 1 ≤ ((picking 1 2).track 1).flickers) := by
  unfold State.working State.between; decide

theorem test_meets_PickUpTakesTheDelay :
    ((relayDown 9 (part.putTrack 9 {})).working ∧ (relayDown 9 (part.putTrack 9 {})).relayPicked 9 = false ∧
      ((relayDown 9 (part.putTrack 9 {})).track 9).filter = .occupied ∧ part.conf.fitted 9 = true) ∧
    ((picking 1 1).working ∧ ((picking 1 1).track 1).filter = .picking ∧ ((picking 1 1).track 1).timer = some 6000 ∧
      6000 ≤ max (picking 1 1).now 6000 ∧ ((picking 1 1).track 1).marked = false) ∧
    ((part.putTrack 9 { filter := .picking, timer := some 6000, suspect := true }).track 9).marked = true ∧
    ((inMode .start part).between ∧ (inMode (.held .invalid) part).between ∧ part.between ∧ part.conf.fitted 16 = false ∧
      part.relayPicked 16 = true ∧ (relayDown 16 part).relayPicked 16 = false) := by
  unfold State.working State.between; decide

theorem test_meets_TechnicianClearsMarks :
    (part.ready ∧ part.inputs.key = true ∧ isTrack (16 : Byte).toNat = true ∧ (part.track 16).filter = .clear ∧
      ((part.putTrack 16 {}).track 16).filter ≠ .clear) ∧
    isLever (24 : Byte).toNat = true ∧ (part.lever 24).phase ≠ .fault ∧
    ((part.putLever 24 { phase := .fault }).lever 24).phase = .fault := by
  unfold State.ready State.started State.between; decide

/-- The part with an open record that stands on T4 and whose grace ends at 6,000. -/
def graced : State := withRecord { inbound := some { sec := 1 }, trail := [4], grace := some 6000 } part

/-- The same with the tracks that are not fitted OCCUPIED. -/
def gracedRailed : State := withRecord { inbound := some { sec := 1 }, trail := [4], grace := some 6000 } railed

theorem test_meets_LostRecordMarksTheNeighbours :
    (graced.between ∧ isRecord 1 = true ∧ (graced.record 1).head = some 4 ∧ (graced.record 1).grace = some 6000 ∧
      6000 ≤ max graced.now 6000 ∧ graced.panel.alerts.length ≤ 9) ∧
    (gracedRailed.between ∧ (gracedRailed.record 1).head = some 4 ∧ (gracedRailed.record 1).grace = some 6000 ∧
      gracedRailed.control.mode ≠ .start ∧ gracedRailed.TracksKept ∧
      (∀ x ∈ Tab.numbers 6, (gracedRailed.conf.sec x).role = .accepting → (gracedRailed.sec x).acc.state ≠ .lc) ∧
      (gracedRailed.conf.track 4).neighbours.filter (fun t => gracedRailed.clear t) = [2, 9] ∧ [2, 9].Nodup ∧
      gracedRailed.holds = [] ∧ gracedRailed.sends .record = true ∧ gracedRailed.link.outbox.length + 2 + 2 + 1 ≤ 32) ∧
    gracedRailed.AlertsKept ∧ gracedRailed.SounderKept := by
  unfold State.between State.TracksKept
  exact ⟨by decide, by decide, silent_kept rfl rfl⟩

/-- R159: T4's neighbours are T2 and T9; the marks stand before the notice *lost*, which names head, neighbours, trail. -/
theorem test_lost_record_notices :
    (after gracedRailed (.headGraceExpiry 6000 1)).link.outbox.map (fun n => (n.event, n.object)) =
      [(.alertRaised, 4), (.trackSuspect, 2), (.trackSuspect, 9), (.recLost, 1)] := by decide

/-- The least number that has a property, when no lower one of a short list has it. -/
theorem least_one {p : Nat → Prop} (h1 : p 1) (h0 : ¬ p 0) : Least p 1 :=
  ⟨h1, fun m hm => by rwa [show m = 0 by omega]⟩

/-- Condition `j` of R27 holds for a lever. -/
def releaseHolds (s : State) (n : Nat) (dir : Direction) : Nat → Bool
  | 0 => true
  | 1 => s.control.mode = .running
  | 2 => (s.conf.entry n s.set dir).all s.termOk && s.conf.leverKind n ≠ .spare
  | 3 => s.holds.all fun h => !(s.heldOf h).contains n
  | 4 => (Tab.numbers 24).all fun m => m == n || (s.lever m).grant.isNone
  | _ => false

theorem not_refusesRelease {s : State} {n j : Nat} {dir : Direction} (h : releaseHolds s n dir j = true) (l : List Byte) :
    ¬ s.refusesRelease n dir j l := by
  intro hr
  match j, h, hr with
  | 1, h, hr => exact hr.2 (of_decide_eq_true h)
  | 2, h, hr =>
    simp only [releaseHolds, Bool.and_eq_true, List.all_eq_true, decide_eq_true_eq] at h
    rcases hr with ⟨i, t, ht, hn, -⟩ | ⟨-, hk, -⟩
    · refine hn ?_
      have := h.1 t (List.mem_of_getElem? ht)
      cases t <;> simpa [State.fulfils, State.termOk] using this
    · exact h.2 hk
  | 3, h, hr =>
    simp only [releaseHolds, List.all_eq_true] at h
    obtain ⟨_, -, ⟨x, hx, -, hn⟩, -⟩ := hr
    simpa [hn] using h x hx
  | 4, h, hr =>
    simp only [releaseHolds, List.all_eq_true] at h
    obtain ⟨m, -, ⟨hl, hne, -, g, hg, -⟩, -⟩ := hr
    have := h m (by simpa [isLever, Tab.mem_numbers] using hl)
    simp [hg, hne] at this

/-- The part with lever 2 in travel under a release whose entry named lever 5. -/
def holdingFive : State := part.putLever 2 { phase := .travel, solenoid := true, grant := some ⟨.toReverse, .a, [5]⟩ }

/-- Lever 5 may be held on any of the five conditions, and lever 4 for being SPARE. -/
theorem refusesRelease_each :
    ((held false conf).started ∧ (held false conf).HoldsKept ∧ (held false conf).refusesRelease 5 .toReverse 1 []) ∧
    (part.refusesRelease 1 .toReverse 2 (b1 1 ++ b1 1 ++ bTerm (.lr 5)) ∧
      ∀ j < 2, ∀ l, ¬ part.refusesRelease 1 .toReverse j l) ∧
    (part.refusesRelease 4 .toReverse 2 (b1 0 ++ b1 0) ∧ ∀ j < 2, ∀ l, ¬ part.refusesRelease 4 .toReverse j l) ∧
    ((part.putHolds [holdOf .active none]).HoldsKept ∧
      (part.putHolds [holdOf .active none]).refusesRelease 5 .toReverse 3 (b1 1) ∧
      ∀ j < 3, ∀ l, ¬ (part.putHolds [holdOf .active none]).refusesRelease 5 .toReverse j l) ∧
    (holdingFive.refusesRelease 5 .toReverse 4 (b1 2) ∧ ∀ j < 4, ∀ l, ¬ holdingFive.refusesRelease 5 .toReverse j l) ∧
    ((part.putLever 5 { phase := .normal }).refusesRelease 5 .toReverse 5 [] ∧
      ∀ j < 5, ∀ l, ¬ (part.putLever 5 { phase := .normal }).refusesRelease 5 .toReverse j l) := by
  refine ⟨⟨?_, ?_, rfl, by decide⟩, ⟨.inl ⟨0, _, rfl, ?_, nofun, rfl⟩, fun j hj => not_refusesRelease ?_⟩,
    ⟨.inr ⟨nofun, rfl, rfl⟩, fun j hj => not_refusesRelease ?_⟩,
    ⟨?_, ⟨1, rfl, least_one ⟨_, List.mem_singleton.mpr rfl, rfl, by decide⟩ ?_⟩, fun j hj => not_refusesRelease ?_⟩,
    ⟨⟨2, rfl, ⟨rfl, by decide, .inr rfl, _, rfl, by decide⟩, ?_⟩, fun j hj => not_refusesRelease ?_⟩,
    ⟨⟨rfl, rfl⟩, fun j hj => not_refusesRelease ?_⟩⟩
  · unfold State.started State.between; decide
  · unfold State.HoldsKept; decide
  · show ¬ (_ = _); decide
  · revert j; decide
  · revert j; decide
  · unfold State.HoldsKept; decide
  · rintro ⟨x, hx, hs, -⟩; obtain rfl := List.mem_singleton.mp hx; exact absurd hs (by decide)
  · revert j; decide
  · intro m hm
    rcases (show m = 0 ∨ m = 1 by omega) with rfl | rfl
    · exact fun h => absurd h.1 (by decide)
    · exact fun h => h.2.2.1.elim (fun h => absurd h (by decide)) fun h => absurd h (by decide)
  · revert j; decide
  · revert j; decide

theorem test_meets_CatchLiftReleasesOrHolds :
    (part.running ∧ isLever 5 = true ∧ (part.leverInputs 5).catchLifted = false ∧ (part.lever 5).phase = .normal ∧
      part.satisfied (part.conf.entry 5 part.set .toReverse) = true ∧ part.conf.leverKind 5 ≠ .spare ∧
      5 ∉ namedBy (part.conf.entry 5 part.set .toReverse) ∧ part.holdNaming 5 = none ∧ part.holder 5 = none ∧
      (part.lever 5).fresh = true ∧ part.othersSeated 5) ∧
    (part.started ∧ part.HoldsKept ∧ isLever 1 = true ∧ (part.leverInputs 1).catchLifted = false ∧
      (part.lever 1).phase = .normal ∧ part.sends .lever = true ∧ part.link.outbox.length < 32) ∧
    part.refusesRelease 1 .toReverse 2 (b1 1 ++ b1 1 ++ bTerm (.lr 5)) ∧
    (∀ j < 2, ∀ l, ¬ part.refusesRelease 1 .toReverse j l) ∧
    ((part.putLever 1 {}).started ∧ ((part.putLever 1 {}).leverInputs 1).catchLifted = false ∧
      ((part.putLever 1 {}).lever 1).phase = .travel) := by
  refine ⟨?_, ?_, refusesRelease_each.2.1.1, refusesRelease_each.2.1.2, ?_⟩
  · unfold State.running State.between State.othersSeated State.unraised; decide
  · unfold State.started State.between State.HoldsKept; decide
  · unfold State.started State.between; decide

/-- The part with the catch of lever 5 up in a state. -/
def raised (p : LeverPhase) : State :=
  withLeverInputs 5 ⟨true, false, true⟩ (part.putLever 5 { phase := p, solenoid := p.isFree, grant := some ⟨.toReverse, .a, [1]⟩ })

theorem test_meets_CatchLowerSeatsOrGivesUp :
    ((raised .normalCatch).started ∧ ((raised .normalCatch).leverInputs 5).catchLifted = true ∧
      ((raised .normalCatch).lever 5).phase.isCatch = true) ∧
    (raised .normalFree).started ∧ ((raised .normalFree).leverInputs 5).catchLifted = true ∧
    ((raised .normalFree).lever 5).phase.isFree = true := by
  unfold State.started State.between; decide

theorem test_meets_DetectorOpenBeginsTravel :
    ((raised .normalFree).started ∧ isLever 5 = true ∧
      (raised .normalFree).leverInputs 5 ≠ ((raised .normalFree).leverInputs 5).setSide .normal false ∧
      ((raised .normalFree).lever 5).phase.isFree = true) ∧
    (raised .travel).started ∧ (raised .travel).leverInputs 5 ≠ ((raised .travel).leverInputs 5).setSide .normal false ∧
    ((raised .travel).lever 5).phase = .travel ∧ ((raised .travel).leverInputs 5).catchLifted = true := by
  unfold State.started State.between; decide

theorem test_meets_DetectorsFaultTheLever :
    ((inMode .start part).between ∧ (inMode .start part).control.mode = .start ∧
      LeverChange 6000 24 ((inMode .start part).leverInputs 24) (.detectorMake 6000 24 .reverse) ⟨true, true, false⟩ ∧
      (inMode .start part).leverInputs 24 ≠ ⟨true, true, false⟩) ∧
    (part.started ∧ isLever 5 = true ∧ part.AlertsKept ∧
      part.leverInputs 5 ≠ (part.leverInputs 5).setSide .normal false ∧ (part.lever 5).phase = .normal) ∧
    (part.lever 5).phase ≠ .fault ∧ part.leverInputs 5 ≠ (part.leverInputs 5).setSide .reverse true ∧
    ((part.leverInputs 5).setSide .reverse true).normalMade = true ∧
    ((part.leverInputs 5).setSide .reverse true).reverseMade = true := by
  unfold State.started State.between State.AlertsKept
  exact ⟨⟨by decide, by decide, .inr (.inr (.inl ⟨.reverse, rfl, by decide⟩)), by decide⟩, by decide⟩

/-- The part with one lever moving from NORMAL, its terminals as given. -/
def movingLever (n : Nat) (i : LeverInputs) (p : LeverPhase) : State :=
  withLeverInputs n i (part.putLever n { phase := p, origin := .normal, timer := .running 6000 })

/-- The part with lever 1 moving, both its detectors open and its catch down. -/
def moving (p : LeverPhase) : State := movingLever 1 {} p

theorem test_meets_TravelEndsAtAPosition :
    ((moving .travel).started ∧ isLever 1 = true ∧ (moving .travel).seats 6000 1 .reverse (.detectorMake 6000 1 .reverse) ∧
      ((moving .travel).lever 1).phase = .travel ∧ ((moving .travel).lever 1).origin = .normal ∧
      (moving .travel).invalid = false ∧ ((moving .travel).conf.holdDef 1).isSome = true ∧
      (moving .travel).hold? 1 = none ∧ (moving .travel).unraised 2) ∧
    (movingLever 14 ⟨false, true, true⟩ .travel).seats 6000 14 .reverse (.catchLower 6000 14) ∧
    (((movingLever 14 {} .travel).conf.sec 4).role = .offering ∧ ((movingLever 14 {} .travel).conf.sec 4).starting = 14) ∧
    (movingLever 1 ⟨true, true, false⟩ .fault).started ∧
    (movingLever 1 ⟨true, true, false⟩ .fault).seats 6000 1 .normal (.detectorOpen 6000 1 .reverse) ∧
    ((movingLever 1 ⟨true, true, false⟩ .fault).lever 1).phase = .fault := by
  unfold State.started State.between State.unraised
  exact ⟨⟨by decide, by decide, ⟨by decide, .inr (.inl ⟨_, rfl, by decide⟩)⟩, by decide⟩,
    ⟨by decide, .inl ⟨rfl, by decide⟩⟩, by decide, by decide, ⟨by decide, .inr (.inr ⟨_, rfl, by decide⟩)⟩, by decide⟩

/-- The approach track T3 is effectively clear, and no stage has moved. -/
theorem holdOf_releasable (p : HoldState) (e : Option Time) : (part.putHolds [holdOf p e]).releasable (holdOf p e) :=
  .inr ⟨by simp [holdOf], fun t h => by
    obtain rfl : 3 = t := Option.some.inj h
    exact show part.clear 3 = true by decide⟩

theorem test_meets_TravelAndReleaseTimersExpire :
    ((moving .travel).started ∧ ((moving .travel).lever 1).timer = .running 6000 ∧ 6000 ≤ max (moving .travel).now 6000) ∧
    ((part.putLever 1 { phase := .travel, timer := .expired }).lever 1).timer = .expired ∧
    ((part.putHolds [holdOf .timing (some 6000)]).started ∧
      (part.putHolds [holdOf .timing (some 6000)]).hold? 1 = some (holdOf .timing (some 6000)) ∧
      (holdOf .timing (some 6000)).timer = some 6000 ∧ (holdOf .timing (some 6000)).state = .timing) ∧
    ((part.putHolds [holdOf .ready (some 6000)]).hold? 1 = some (holdOf .ready (some 6000)) ∧
      (holdOf .ready (some 6000)).state = .ready ∧ (holdOf .ready (some 6000)).prior = some .holding ∧
      (part.putHolds [holdOf .ready (some 6000)]).standing 1 = .normal) ∧
    (part.putHolds [holdOf .ready (some 6000)]).releasable (holdOf .ready (some 6000)) := by
  unfold State.started State.between
  exact ⟨by decide, by decide, by decide, by decide, holdOf_releasable ..⟩

/-- The part with signal 1 released over lever 5 at reverse, under an entry that asks for T3 clear. -/
def released : State :=
  ((part.putLever 1 { phase := .normalFree, solenoid := true, grant := some ⟨.toReverse, .a, [5]⟩, fresh := true }).putLever 5
    { phase := .reverse, fresh := true })

/-- The same with signal 14 waiting for its line clear release. -/
def releasedWithWaiter : State := released.putLever 14 { phase := .normalCatch, fresh := true }

/-- No entry of the test configuration holds an LNC term or names its own lever. -/
theorem conf_plain (n : Nat) (hn : n ∈ Tab.numbers 24) (set : EntrySet) (dir : Direction) :
    n ∉ namedBy (conf.entry n set dir) ∧ ∀ t ∈ conf.entry n set dir, ∀ a b, t ≠ .lnc a b := by
  have all : ∀ n ∈ Tab.numbers 24, ∀ set ∈ [EntrySet.a, .b], ∀ dir ∈ [Direction.toReverse, .toNormal],
      n ∉ namedBy (conf.entry n set dir) ∧ (conf.entry n set dir).all (fun t => match t with
        | .lnc _ _ => false
        | _ => true) = true := by decide
  have h := all n hn set (by cases set <;> simp) dir (by cases dir <;> simp)
  exact ⟨h.1, fun t ht a b e => by subst e; simpa using List.all_eq_true.1 h.2 _ ht⟩

theorem released_examined : released.PlainLocking ∧ released.Examined ∧ releasedWithWaiter.PlainLocking ∧
    releasedWithWaiter.Examined := by
  have f : ∀ n ∈ Tab.numbers 24, ((released.lever n).phase.isFree = true → n = 1) ∧
      (released.lever n).phase.isCatch = false ∧ ((releasedWithWaiter.lever n).phase.isFree = true → n = 1) ∧
      ((releasedWithWaiter.lever n).phase.isCatch = true → n = 14) := by decide
  have r : ∀ k ≤ 4, releaseHolds released 1 .toReverse k = true ∧ releaseHolds releasedWithWaiter 1 .toReverse k = true := by
    decide
  refine ⟨fun n hn => ⟨conf_plain n hn, fun h => ?_⟩, fun n hn => ⟨fun h => ?_, fun h k hk l => ?_⟩,
    fun n hn => ⟨conf_plain n hn, fun h => ?_⟩, fun n hn => ⟨fun h => ?_, fun h k hk l => ?_⟩⟩
  · obtain rfl := (f n hn).1 h; decide
  · rw [(f n hn).2.1] at h; cases h
  · obtain rfl := (f n hn).1 h; exact not_refusesRelease (r k hk).1 l
  · obtain rfl := (f n hn).2.2.1 h; decide
  · obtain rfl := (f n hn).2.2.2 h
    exact ⟨2, _, .inl ⟨0, .lcr 4, by decide, (show ¬ (_ = _) by decide), nofun, rfl⟩⟩
  · obtain rfl := (f n hn).2.2.1 h; exact not_refusesRelease (r k hk).2 l

theorem released_meets :
    (releasedWithWaiter.started ∧ releasedWithWaiter.LocksSafe ∧
      releasedWithWaiter.examiningEvent 6000 (.trackRelayDrop 6000 3) ∧ releasedWithWaiter.ready ∧
      releasedWithWaiter.examiningEvent 6000 (.hold 6000 7) ∧ ¬ MovesLever 6000 1 (.trackRelayDrop 6000 3) ∧
      (releasedWithWaiter.lever 14).phase.isCatch = true ∧ (releasedWithWaiter.lever 1).phase.isFree = true) ∧
    (released.working ∧ isTrack 3 = true ∧ released.conf.fitted 3 = true ∧ released.relayPicked 3 = true ∧
      released.clear 3 = true ∧ isLever 1 = true ∧ (released.lever 1).phase.isFree = true ∧ released.othersSeated 1 ∧
      released.LocksSafe ∧ Term.tc 3 ∈ released.conf.entry 1 released.set (released.lever 1).phase.direction ∧
      released.holds = [] ∧ released.sends .lever = true ∧ released.link.outbox.length + 29 ≤ 32) := by
  have hr : releasedWithWaiter.ready := by unfold State.ready State.started State.between; decide
  refine ⟨⟨hr.1, by unfold State.LocksSafe; decide, .inl ⟨3, .inl rfl⟩, hr, .inr ⟨hr, 7, .inr (.inr (.inl rfl))⟩, ?_,
    by decide, by decide⟩, ?_⟩
  · rintro (h | h | ⟨_, h | h⟩) <;> cases h
  · unfold State.working State.between State.othersSeated State.unraised State.LocksSafe; decide

/-- R30, R32: T3 is term 2 of the entry; signal 1 is withdrawn, and the examination follows the occupation. -/
theorem test_track_withdraws_release :
    ((after released (.trackRelayDrop 6000 3)).lever 1) = { phase := .normalCatch, fresh := true } ∧
      (after released (.trackRelayDrop 6000 3)).link.outbox.map (fun n => (n.event, n.object)) =
        [(.trackOccupied, 3), (.leverWithdrawn, 1)] := by decide

theorem test_meets_ExaminationSettlesRaisedCatches :
    (released.PlainLocking ∧ released.Examined ∧ releasedWithWaiter.PlainLocking ∧ releasedWithWaiter.Examined) ∧
    (∀ n ∈ Tab.numbers 24, ∀ dir, n ∉ namedBy ((raised .normalFree).conf.entry n (raised .normalFree).set dir) ∧
      ∀ t ∈ (raised .normalFree).conf.entry n (raised .normalFree).set dir, ∀ a b, t ≠ .lnc a b) ∧
    (∀ n ∈ Tab.numbers 24, ((raised .normalFree).lever n).phase.isFree = true →
      ∃ g, ((raised .normalFree).lever n).grant = some g ∧ g.named =
        namedBy ((raised .normalFree).conf.entry n (raised .normalFree).set ((raised .normalFree).lever n).phase.direction)) := by
  refine ⟨released_examined, fun n hn d => conf_plain n hn .a d, fun n hn hf => ?_⟩
  have g : ∀ n ∈ Tab.numbers 24, ((raised .normalFree).lever n).phase.isFree = true → n = 5 := by decide
  obtain rfl := g n hn hf
  exact ⟨⟨.toReverse, .a, [1]⟩, by decide, by decide⟩

theorem test_meets_TimeReleaseRequests :
    (part.ready ∧ isLever (24 : Byte).toNat = true ∧ part.conf.holdDef 24 = none) ∧
    ((part.conf.holdDef 1).isSome = true ∧ part.hold? 1 = none) ∧
    ((part.putHolds [holdOf .holding none]).ready ∧
      (part.putHolds [holdOf .holding none]).hold? 1 = some (holdOf .holding none) ∧
      (part.putHolds [holdOf .holding none]).control.mode = .running ∧
      (part.putHolds [holdOf .holding none]).standing 1 = .normal ∧ (holdOf .holding none).releasing = false) ∧
    (part.putHolds [holdOf .active none]).hold? 1 = some (holdOf .active none) ∧
    ((part.putHolds [holdOf .ready (some 6000)]).ready ∧
      (part.putHolds [holdOf .ready (some 6000)]).hold? 1 = some (holdOf .ready (some 6000)) ∧
      (holdOf .ready (some 6000)).state = .ready ∧ (holdOf .ready (some 6000)).releasing = true ∧
      (holdOf .ready (some 6000)).prior = some .holding ∧
      ∀ m ∈ Tab.numbers 24, (part.putHolds [holdOf .ready (some 6000)]).unraised m) ∧
    (part.putHolds [holdOf .ready (some 6000)]).releasable (holdOf .ready (some 6000)) ∧
    ((part.putLever 1 { phase := .reverse }).putHolds [holdOf .ready (some 6000)]).standing 1 ≠ .normal := by
  unfold State.ready State.started State.between State.unraised
  exact ⟨by decide, by decide, by decide, by decide, by decide, holdOf_releasable .., by decide⟩

/-- The part with a hold of signal 1 whose holding tracks T1 and T2 have reached these stages. -/
def followed (stages : List HoldStage) (state : HoldState) (reversal : Bool) : State :=
  part.putHolds [{ signal := 1, stages := stages, state := state, reversal := reversal }]

theorem test_meets_StagesFollowTheTrain :
    ((followed [.waiting, .waiting] .holding true).working ∧ (followed [.waiting, .waiting] .holding true).HoldsKept ∧
      isTrack 1 = true ∧ part.conf.fitted 1 = true ∧ part.relayPicked 1 = true ∧ part.clear 1 = true ∧
      (followed [.waiting, .waiting] .holding true).hold? 1 = some ⟨1, [.waiting, .waiting], .holding, none, true, false, none⟩ ∧
      (followed [.waiting, .waiting] .holding true).unraised 1 ∧
      ((followed [.waiting, .waiting] .holding true).holdingOf ⟨1, [.waiting, .waiting], .holding, none, true, false, none⟩) =
        [1, 2]) ∧
    ((followed [.cleared, .waiting] .holding false).HoldsKept ∧ (followed [.occupied, .waiting] .holding true).HoldsKept ∧
      part.conf.fitted 2 = true ∧ part.relayPicked 2 = true ∧ part.clear 2 = true) ∧
    ((part.putHolds [holdOf .timing (some 9000)]).HoldsKept ∧ (holdOf .timing (some 9000)).releasing = true ∧
      part.approachOf (holdOf .timing (some 9000)) = some 3 ∧ part.conf.fitted 3 = true ∧ part.relayPicked 3 = true ∧
      part.clear 3 = true) ∧
    ((followed [.cleared, .occupied] .holding false).putTrack 2 { filter := .picking, timer := some 6000 }).becomesClearBy 6000 2
      (.pickUpTimerExpiry 6000 2) ∧
    ((followed [.occupied, .waiting] .holding false).putTrack 1 { filter := .clear, failed := true }).becomesClearBy 6000 1
      (.trackRestore 6000 7 1) ∧
    ((followed [.occupied, .waiting] .holding false).clear 2 = true ∧
      ((followed [.occupied, .occupied] .holding false).putTrack 2 {}).clear 2 = false ∧
      (followed [.cleared, .occupied] .irregular false).HoldsKept) ∧
    ((part.putHolds [holdOf .holding none]).putTrack 3 { filter := .picking, timer := some 6000 }).becomesClearBy 6000 3
      (.pickUpTimerExpiry 6000 3) := by
  unfold State.becomesClearBy State.ready State.started State.working State.between State.HoldsKept State.unraised
  exact ⟨by decide, by decide, by decide,
    ⟨by decide, by decide, by decide, .inl ⟨rfl, by decide, by decide, _, rfl, by decide⟩⟩,
    ⟨by decide, by decide, by decide, .inr ⟨by decide, by decide, by decide, by decide, _, _, rfl, by decide⟩⟩,
    by decide, ⟨by decide, by decide, by decide, .inl ⟨rfl, by decide, by decide, _, rfl, by decide⟩⟩⟩

/-- The part with lever 1 moving, and a hold of signal 1. -/
def movingUnder (i : LeverInputs) (origin : Origin) (h : Hold) : State :=
  (withLeverInputs 1 i (part.putLever 1 { phase := .travel, origin := origin, timer := .running 6000 })).putHolds [h]

theorem test_meets_SignalsBindAndReactivateHolds :
    ((movingUnder {} .reverse (holdOf .active none)).started ∧ (movingUnder {} .reverse (holdOf .active none)).HoldsKept ∧
      (movingUnder {} .reverse (holdOf .active none)).seats 6000 1 .normal (.detectorMake 6000 1 .normal) ∧
      (movingUnder {} .reverse (holdOf .active none)).hold? 1 = some (holdOf .active none) ∧
      (holdOf .active none).irregular = false ∧ ((movingUnder {} .reverse (holdOf .active none)).lever 1).origin = .reverse) ∧
    (part.putHolds [holdOf .active none]).releasable (holdOf .active none) ∧
    ¬ ((part.putTrack 3 {}).putHolds [holdOf .active none]).releasable (holdOf .active none) ∧
    (movingUnder {} .reverse { holdOf .active none with irregular := true }).HoldsKept ∧
    ((holdOf .holding none).testable = true ∧ (holdOf .irregular none).testable = false) ∧
    ((movingUnder {} .normal (holdOf .ready (some 9000))).HoldsKept ∧
      (movingUnder {} .normal (holdOf .ready (some 9000))).seats 6000 1 .reverse (.detectorMake 6000 1 .reverse) ∧
      (holdOf .ready (some 9000)).releasing = true) := by
  unfold State.started State.between State.HoldsKept
  refine ⟨⟨by decide, by decide, ⟨by decide, .inr (.inl ⟨_, rfl, by decide⟩)⟩, by decide⟩, holdOf_releasable .., ?_,
    by decide, by decide, by decide, ⟨by decide, .inr (.inl ⟨_, rfl, by decide⟩)⟩, by decide⟩
  rintro (h | ⟨-, h⟩)
  · exact absurd h (by decide)
  · exact absurd (h 3 (by decide)) (by decide)

/-- The part with section 1 in a state. -/
def section1 (a : AccState) : State := part.putAcc 1 { state := a, switch := .tol, assumed := a = .tol, proof := true }

/-- The part with an offer on section 1, repeated. -/
def offered : State := withRecord { inbound := some { sec := 1, item := true } } part

theorem test_meets_InstrumentSwitchMovesOrDisagrees :
    (part.working ∧ isSection 1 = true ∧ (part.conf.sec 1).role = .accepting ∧ part.contacts 1 ≠ { lc := true } ∧
      Contacts.position { lc := true } = some .lc ∧ (part.sec 1).acc.state = .lb ∧ (part.sec 1).acc.switch ≠ .lc ∧
      part.control.mode = .running ∧ part.control.box = .opened ∧ part.standing (part.conf.sec 1).home = .normal ∧
      part.clear (part.conf.sec 1).clearing = true ∧ part.clear (part.conf.sec 1).entry = true) ∧
    Oldest (fun q => ∃ k, (offered.record q).inbound = some k ∧ k.stage = .offered ∧ k.item = true)
      (offered.inboundList 1) 1 ∧ part.inboundList 1 = [] ∧
    ((section1 .lc).working ∧ (State.putInputs { part.inputs with switches := Tab.rep 6 {} } (section1 .lc)).contacts 1 ≠
        { lb := true } ∧ Contacts.position { lb := true } = some .lb ∧ ((section1 .lc).sec 1).acc.switch ≠ .lb ∧
      ((section1 .lc).sec 1).acc.state = .lc ∧ ((section1 .lc).sec 1).acc.entering = false) ∧
    (((section1 .tol).sec 1).acc.state = .tol ∧ ((section1 .tol).sec 1).acc.proof = true ∧
      (section1 .tol).holdingRecord 1 = none) ∧
    (part.contacts 1 ≠ { tol := true } ∧ Contacts.position { tol := true } = some .tol ∧ (part.sec 1).acc.switch ≠ .tol) ∧
    ((part.putTrack 2 {}).working ∧ (part.putTrack 2 {}).clear ((part.putTrack 2 {}).conf.sec 1).clearing = false ∧
      ((part.putTrack 2 {}).sec 1).acc.state = .lb) ∧
    ((inMode .start part).between ∧ (inMode (.held .invalid) part).between ∧ (relaying part).between ∧
      ((relaying part).conf.sec 1).role = .accepting ∧ ((relaying part).sec 1).acc.state = .through ∧
      (relaying part).contacts 1 ≠ { lc := true } ∧ part.between ∧ part.contacts 1 ≠ {} ∧
      Contacts.position {} = none ∧ part.contacts 6 ≠ { lb := true, lc := true } ∧
      Contacts.position { lb := true, lc := true } = none) ∧
    ((section1 .lc).working ∧ (section1 .lc).contacts 1 ≠ { lc := true } ∧ ((section1 .lc).sec 1).acc.switch ≠ .lc ∧
      ((section1 .lc).sec 1).acc.state = .lc) := by
  unfold State.working State.between
  exact ⟨by decide, ⟨[], [], by decide, ⟨_, rfl, rfl, rfl⟩, nofun⟩, by decide⟩

/-- R74, R192: the accepted train stands before the section's change of state. -/
theorem test_line_clear_order :
    (after offered (.instrumentSwitchMove 6000 1 { lc := true })).link.outbox.map (fun n => (n.event, n.object)) =
      [(.recAccepted, 1), (.secStateChanged, 1)] := by decide

theorem test_meets_FouledClearingPointFallsToTol :
    (section1 .lc).working ∧ isSection 1 = true ∧ isTrack 2 = true ∧ ((section1 .lc).conf.sec 1).role = .accepting ∧
    ((section1 .lc).conf.sec 1).clearing = 2 ∧ ((section1 .lc).sec 1).acc.state = .lc ∧ (section1 .lc).conf.fitted 2 = true ∧
    (section1 .lc).relayPicked 2 = true ∧ (section1 .lc).clear 2 = true ∧ (section1 .lc).panel.alerts.length ≤ 9 ∧
    (section1 .lc).holds = [] ∧ (section1 .lc).sends .sec = true ∧ (section1 .lc).link.outbox.length + 23 ≤ 32 := by
  unfold State.working State.between; decide

/-- Condition `j` of SECTION_RESTORE holds for a section. -/
def restoreHolds (s : State) (x : Nat) : Nat → Bool
  | 0 => true
  | 1 => (s.sec x).acc.state = .tol && (s.sec x).acc.assumed
  | 2 => s.clear (s.conf.sec x).clearing
  | 3 => s.clear (s.conf.sec x).entry
  | _ => false

theorem not_refusesRestore {s : State} {x j : Nat} (h : restoreHolds s x j = true) (o : CondObject) :
    ¬ s.refusesRestore x j o := by
  intro hr
  match j, h, hr with
  | 1, h, hr => simp [restoreHolds] at h; exact hr.2.elim (absurd h.1) (by simp [h.2])
  | 2, h, hr => exact absurd (hr.2.symm.trans h) (by decide)
  | 3, h, hr => exact absurd (hr.2.symm.trans h) (by decide)

/-- Section 1 assumed in TOL with a train that has entered it. -/
def entered : State := withRecord { inbound := some { sec := 1, stage := .entering } } (section1 .tol)

theorem refusesRestore_each :
    (part.refusesRestore 1 1 (.sec 1) ∧ ∀ j < 1, ∀ o, ¬ part.refusesRestore 1 j o) ∧
    (((section1 .tol).putTrack 2 {}).refusesRestore 1 2 (.track 2) ∧
      ∀ j < 2, ∀ o, ¬ ((section1 .tol).putTrack 2 {}).refusesRestore 1 j o) ∧
    (((section1 .tol).putTrack 1 {}).refusesRestore 1 3 (.track 1) ∧
      ∀ j < 3, ∀ o, ¬ ((section1 .tol).putTrack 1 {}).refusesRestore 1 j o) ∧
    (entered.refusesRestore 1 4 (.record 1) ∧ ∀ j < 4, ∀ o, ¬ entered.refusesRestore 1 j o) := by
  refine ⟨⟨⟨rfl, .inl (by decide)⟩, fun j hj => not_refusesRestore ?_⟩, ⟨⟨rfl, by decide⟩, fun j hj => not_refusesRestore ?_⟩,
    ⟨⟨rfl, by decide⟩, fun j hj => not_refusesRestore ?_⟩,
    ⟨⟨1, rfl, [], [], by decide, by decide, nofun⟩, fun j hj => not_refusesRestore ?_⟩⟩ <;> (revert j; decide)

theorem test_meets_SectionRestoreReturnsToBlocked :
    ((section1 .tol).ready ∧ isSection (1 : Byte).toNat = true ∧ (section1 .tol).control.mode ≠ .held .invalid ∧
      ((section1 .tol).conf.sec 1).role = .accepting ∧ ((section1 .tol).sec 1).acc.state = .tol ∧
      ((section1 .tol).sec 1).acc.assumed = true ∧ (section1 .tol).clear ((section1 .tol).conf.sec 1).clearing = true ∧
      (section1 .tol).clear ((section1 .tol).conf.sec 1).entry = true) ∧
    (∀ r, ¬ (section1 .tol).refusesRestore 1 4 (.record r)) ∧
    ((part.conf.sec 6).role ≠ .accepting ∧ (inMode (.held .invalid) part).ready) ∧
    (part.refusesRestore 1 1 (.sec 1) ∧ ∀ j < 1, ∀ o, ¬ part.refusesRestore 1 j o) := by
  refine ⟨?_, ?_, ?_, refusesRestore_each.1⟩
  · unfold State.ready State.started State.between; decide
  · rintro r ⟨q, -, older, younger, h, -⟩
    rw [show (section1 .tol).inboundList 1 = [] by decide] at h
    cases older <;> cases h
  · unfold State.ready State.started State.between; decide

/-- The part with the line of section 4 at LINE_CLEAR for its 100 ms, and record 1 going out by it at a stage. -/
def answered (stage : HalfStage) (item : Bool) : State :=
  State.putInputs { part.inputs with blockLines := part.inputs.blockLines.put 4 .positive }
    ((withRecord { outbound := some { sec := 4, stage := stage, item := item } } part).putOff 4
      { repeater := .lb, timer := some 6000 })

/-- The part with the line of section 4 at LINE_BLOCKED for its 100 ms, and an available release. -/
def answeredBlocked (repeater : LineState) : State :=
  part.putOff 4 { repeater := repeater, release := .available, timer := some 6000 }

theorem test_meets_RepeaterFollowsTheLine :
    (part.working ∧ isSection 4 = true ∧ (part.conf.sec 4).role = .offering ∧ part.blockLine 4 ≠ .positive) ∧
    ((answered .offered true).working ∧ ((answered .offered true).sec 4).off.timer = some 6000 ∧
      6000 ≤ max (answered .offered true).now 6000 ∧ (answered .offered true).rawReading 4 = .lc ∧
      ((answered .offered true).sec 4).off.repeater ≠ .lc) ∧
    Oldest (fun q => ∃ k, ((answered .offered true).record q).outbound = some k ∧ k.stage = .offered ∧ k.item = true)
      ((answered .offered true).outboundList 4) 1 ∧
    ((answered .offered false).working ∧ ((answered .offered false).outboundList 4) = [1] ∧
      ((answered .offered false).record 1).outbound = some { sec := 4 }) ∧
    ((answeredBlocked .lc).working ∧ (answeredBlocked .lc).rawReading 4 = .lb ∧
      ((answeredBlocked .lc).sec 4).off.repeater = .lc ∧ ((answeredBlocked .lc).sec 4).off.release = .available ∧
      ((answeredBlocked .lc).sec 4).off.timer = some 6000 ∧
      (answeredBlocked .lb).rawReading 4 = ((answeredBlocked .lb).sec 4).off.repeater) ∧
    (((relaying part).conf.sec 1).role = .accepting ∧ ((relaying part).sec 1).acc.state = .through ∧
      ((relaying part).conf.sec 1).pair = some 4) := by
  unfold State.working State.between
  exact ⟨by decide, by decide, ⟨[], [], by decide, ⟨_, rfl, rfl, rfl⟩, nofun⟩, by decide⟩

/-- R73, R192: the record, the release and the repeater, in the order in which R73 lists them. -/
theorem test_repeater_order :
    (after (answered .offered true) (.stabilityTimerExpiry 6000 4)).link.outbox.map (fun n => (n.event, n.object)) =
      [(.recAccepted, 1), (.secReleaseAvailable, 4), (.secRepeater, 4)] := by decide

/-- The part with a recognizer on the receive input of line 1, its input on or off. -/
def hearing (on : Bool) (r : Recognizer) : State :=
  State.putInputs { part.inputs with receive := part.inputs.receive.put 1 on } (part.putBell 1 { rx := r })

/-- A stroke on the receive input of line 1 whose relay output is on. -/
def relayed : State := (hearing true {}).putBell 1 { rx := { detector := .stroke 5900 }, relay := some ⟨5920, 6420⟩ }

theorem test_meets_StrokeDetectorTestsPulses :
    ((hearing false {}).working ∧ isLine 1 = true ∧ (hearing false {}).earOn 1 .receive = false ∧
      ((hearing false {}).recognizer 1 .receive).detector = .off) ∧
    ((hearing true { detector := .testing 5990 }).earOn 1 .receive = true ∧
      ((hearing true { detector := .testing 5990 }).recognizer 1 .receive).detector = .testing 5990 ∧
      max (hearing true { detector := .testing 5990 }).now 6009 < 5990 + 20 ∧
      ((hearing true { detector := .testing 5990 }).recognizer 1 .receive).gapTimer ≠ .waiting) ∧
    ((hearing true (assembling [1] .waiting (.testing 5990))).working ∧
      (hearing true (assembling [1] .waiting (.testing 5990))).earOn 1 .receive = true ∧
      ((hearing true (assembling [1] .waiting (.testing 5990))).recognizer 1 .receive).detector = .testing 5990 ∧
      max (hearing true (assembling [1] .waiting (.testing 5990))).now 6009 < 5990 + 20 ∧
      ((hearing true (assembling [1] .waiting (.testing 5990))).recognizer 1 .receive).gapTimer = .waiting ∧
      ((hearing true (assembling [1] .waiting (.testing 5990))).recognizer 1 .receive).phase ≠ .idle) ∧
    (hearing true { detector := .stroke 5900 }).earOn 1 .receive = true ∧
    ((hearing true { detector := .stroke 5900 }).recognizer 1 .receive).detector = .stroke 5900 ∧
    ((hearing true { detector := .stroke 5900 }).bell 1).relay = none ∧
    (relayed.working ∧ (relayed.bell 1).relay = some ⟨5920, 6420⟩ ∧ relayed.earOn 1 .receive = true ∧
      (relayed.recognizer 1 .receive).detector = .stroke 5900) := by
  unfold State.working State.between; decide

/-- A code past its limit, with the end-gap timer and the detector as given. -/
def swallowing (gap : GapTimer) (d : Detector) : Recognizer :=
  { assembling [9, 9, 6] gap d with phase := .swallowing, strokes := 25, reason := some .tooManyStrokes }

theorem test_meets_StrokesFormGroups :
    ((relaying (part.putBell 1 { man := { detector := .testing 5980 } })).working ∧
      (relaying (part.putBell 1 { man := { detector := .testing 5980 } })).inRelay 1 = true ∧
      ((relaying (part.putBell 1 { man := { detector := .testing 5980 } })).recognizer 1 .manual).detector = .testing 5980) ∧
    ((relaying (hearing true (swallowing (.running 6700) (.testing 6120)))).working ∧
      (relaying (hearing true (swallowing (.running 6700) (.testing 6120)))).inRelay 1 = true ∧
      ((relaying (hearing true (swallowing (.running 6700) (.testing 6120)))).recognizer 1 .receive).phase = .swallowing) ∧
    ((hearing true { detector := .testing 5980 }).working ∧ (hearing true { detector := .testing 5980 }).inRelay 1 = false ∧
      ((hearing true { detector := .testing 5980 }).recognizer 1 .receive).detector = .testing 5980 ∧
      5980 + 20 ≤ max (hearing true { detector := .testing 5980 }).now 6000 ∧
      ((hearing true { detector := .testing 5980 }).recognizer 1 .receive).phase = .idle) ∧
    (((hearing true (assembling [2] (.running 6700) (.testing 6120))).recognizer 1 .receive).phase = .assembling ∧
      ((hearing true (assembling [2] (.running 6700) (.testing 6120))).recognizer 1 .receive).last = some 5700 ∧
      ((hearing true (assembling [2] (.running 6700) (.testing 6120))).recognizer 1 .receive).strokes < 24 ∧
      7 * 240 ≤ 4 * (6120 - 5700) ∧ 4 * (6119 - 5700) < 7 * 240 ∧
      ((hearing true (assembling [2] (.running 6700) (.testing 6120))).recognizer 1 .receive).groups.length < 6) ∧
    24 ≤ ((hearing true (assembling [9, 9, 6] (.running 6700) (.testing 5940))).recognizer 1 .receive).strokes ∧
    6 ≤ ((hearing true (assembling [1, 1, 1, 1, 1, 1] (.running 6700) (.testing 6120))).recognizer 1 .receive).groups.length := by
  unfold State.working State.between; decide

/-- A code that is the single stroke of entry 1. -/
def one : Code := ⟨.matched, some (1, .callAttention), [1]⟩

/-- The part with groups read on line 1 and the end gap about to pass. -/
def finishing (groups : List Nat) (o : Option Outstanding) : State :=
  part.putBell 1 { rx := assembling groups (.running 6700) .off, outstanding := o }

/-- The part with groups tapped on line 1 and the end gap about to pass. -/
def tapping (groups : List Nat) (o : Option Owed) : State :=
  part.putBell 1 { man := assembling groups (.running 6700) .off, owed := o }

/-- The part with a code past its limit on line 1, and the code outstanding there. -/
def swallowed (o : Option Outstanding) : State := part.putBell 1 { rx := swallowing (.running 6700) .off, outstanding := o }

theorem test_meets_FinishedCodesMeetRepetition :
    ((finishing [1] (some ⟨one, 5000, 9000⟩)).working ∧ (finishing [1] (some ⟨one, 5000, 9000⟩)).inRelay 1 = false ∧
      ((finishing [1] (some ⟨one, 5000, 9000⟩)).bell 1).rx.phase = .assembling ∧
      ((finishing [1] (some ⟨one, 5000, 9000⟩)).bell 1).rx.gapTimer = .running 6700 ∧
      6700 ≤ max (finishing [1] (some ⟨one, 5000, 9000⟩)).now 6700 ∧
      ((finishing [1] (some ⟨one, 5000, 9000⟩)).bell 1).rx.detector = .off ∧
      ((finishing [1] (some ⟨one, 5000, 9000⟩)).bell 1).outstanding = some ⟨one, 5000, 9000⟩ ∧ one.same one = true) ∧
    ((finishing [1] none).bell 1).outstanding = none ∧
    ((tapping [1] (some ⟨one, 5000, 9000, false⟩)).working ∧ (tapping [1] (some ⟨one, 5000, 9000, false⟩)).inRelay 1 = false ∧
      ((tapping [1] (some ⟨one, 5000, 9000, false⟩)).bell 1).man.phase = .assembling ∧
      ((tapping [1] (some ⟨one, 5000, 9000, false⟩)).bell 1).man.gapTimer = .running 6700 ∧
      ((tapping [1] (some ⟨one, 5000, 9000, false⟩)).bell 1).man.detector = .off ∧ one.outcome ≠ .malformed ∧
      one.groups = ((tapping [1] (some ⟨one, 5000, 9000, false⟩)).bell 1).man.groups) ∧
    ((tapping [1] none).bell 1).owed = none ∧
    ((hearing true (swallowing (.running 6700) .off)).working ∧
      ((hearing true (swallowing (.running 6700) .off)).bell 1).rx.phase = .swallowing ∧
      ((hearing true (swallowing (.running 6700) .off)).bell 1).rx.gapTimer = .running 6700) ∧
    (((part.putBell 1 { man := swallowing (.running 6700) .off }).bell 1).man.phase = .swallowing ∧
      ((part.putBell 1 { man := swallowing (.running 6700) .off }).bell 1).man.detector = .off) ∧
    ((swallowed (some ⟨one, 5000, 9000⟩)).working ∧ ((swallowed (some ⟨one, 5000, 9000⟩)).bell 1).rx.phase = .swallowing ∧
      ((swallowed (some ⟨one, 5000, 9000⟩)).bell 1).rx.gapTimer = .running 6700 ∧
      ((swallowed (some ⟨one, 5000, 9000⟩)).bell 1).outstanding = some ⟨one, 5000, 9000⟩ ∧
      (swallowed (some ⟨one, 5000, 9000⟩)).panel.alerts.length ≤ 14 ∧ ((swallowed none).bell 1).outstanding = none) ∧
    ((swallowed (some ⟨one, 5000, 9000⟩)).AlertsKept ∧ (swallowed (some ⟨one, 5000, 9000⟩)).SounderKept) ∧
    (one.groups ≠ ((finishing [3, 1] (some ⟨one, 5000, 9000⟩)).bell 1).rx.groups) ∧
    ((hearing true (swallowing (.running 6700) (.testing 6700))).working ∧
      ((hearing true (swallowing (.running 6700) (.testing 6700))).recognizer 1 .receive).phase ≠ .idle ∧
      ((hearing true (swallowing (.running 6700) (.testing 6700))).recognizer 1 .receive).gapTimer = .running 6700 ∧
      ((hearing true (swallowing (.running 6700) (.testing 6700))).recognizer 1 .receive).detector = .testing 6700) := by
  unfold State.working State.between
  exact ⟨by decide, by decide, by decide, by decide, by decide, by decide, by decide, silent_kept rfl rfl, by decide,
    by decide⟩

/-- R122: a MALFORMED code repeats the outstanding one incorrectly and becomes owed. -/
theorem test_incorrect_repetition :
    (after (swallowed (some ⟨one, 5000, 9000⟩)) (.endGapExpiry 6700 1 .receive)).link.outbox.map
      (fun n => (n.event, n.object)) = [(.bellReceived, 1), (.repIncorrect, 1), (.alertRaised, 1), (.repOwed, 1)] := by decide

/-- The register of the part stays whole under a code being read or tapped. -/
theorem finishing_whole (groups : List Nat) : (finishing groups none).RegisterWhole ∧ (tapping groups none).RegisterWhole := by
  have h : part.RegisterWhole := by unfold State.RegisterWhole; decide
  exact ⟨h, h⟩

/-- A state with the part's record 1 open. -/
def withTrain (x : Record) (s : State) : State := s.putRegister (withRecord x s).register

theorem withTrain_whole {x : Record} (s : State) (h : (withRecord x part).RegisterWhole) (hs : s.register = part.register) :
    (withTrain x s).RegisterWhole := by
  simpa [State.RegisterWhole, withTrain, withRecord, State.putRegister, State.record, State.owedOffer,
    State.outstandingOffer, hs] using h

/-- An OFFER of 3-1. -/
def offer : Code := ⟨.matched, some (2, .offer), [3, 1]⟩

/-- The part with the repetition of its own offer on line 1 just read. -/
def acknowledged : State :=
  (withTrain { outbound := some { sec := 5 } } (finishing [3, 1] (some ⟨offer, 5000, 9000⟩))).linkOutstanding 1 (some 1)

/-- The part with the repetition of the offer that it owes on line 1 just tapped. -/
def repeated : State :=
  (withTrain { inbound := some { sec := 1 } } (tapping [3, 1] (some ⟨offer, 5000, 9000, false⟩))).linkOwed 1 (some 1)

/-- A line on which the end gap of a code passes at 6,700. -/
theorem finishes_of {s : State} {ear : Ear} (hw : s.working) (hr : s.inRelay 1 = false)
    (hp : (s.recognizer 1 ear).phase = .assembling) (hg : (s.recognizer 1 ear).gapTimer = .running 6700)
    (hd : (s.recognizer 1 ear).detector = .off) (hn : s.now = 5000) : s.finishes 6700 1 ear :=
  ⟨hw, by decide, hr, hp, ⟨6700, hg, by rw [hn]; decide⟩, by rw [hd]; nofun⟩

/-- A register with five records free and the others complete, its low-stock state ARMED. -/
def stocked (s : State) : State :=
  s.putRegister { s.register with
    records := Tab.rep 48 { reason := some .finished }
    free := (Tab.numbers 48).drop 43
    completed := (Tab.numbers 48).take 43 }

theorem stocked_whole : (stocked (finishing [3, 1] none)).RegisterWhole ∧ (stocked (tapping [3, 1] none)).RegisterWhole := by
  have h : (stocked part).RegisterWhole := by unfold State.RegisterWhole; decide
  exact ⟨h, h⟩

/-- R92: a received OBSTRUCTION raises its alert for the line, of priority 13. -/
theorem test_obstruction_alerts :
    (after (finishing [6] none) (.endGapExpiry 6700 1 .receive)).panel.alerts.map (fun a => (a.kind, a.object, a.priority)) =
      [(.obstruction, 1, 13)] := by decide

/-- R132: the allocation that leaves 4 records free raises REGISTER_LOW and disarms it. -/
theorem test_register_low :
    (after (stocked (finishing [3, 1] none)) (.endGapExpiry 6700 1 .receive)).register.armed = false ∧
      (after (stocked (finishing [3, 1] none)) (.endGapExpiry 6700 1 .receive)).link.outbox.map (·.event) =
        [.bellReceived, .repOwed, .alertRaised, .recRegisterLow, .recCreated] := by decide

theorem test_meets_ReceivedCodesMoveRecords :
    ((stocked (finishing [3, 1] none)).finishes 6700 1 .receive ∧ (stocked (finishing [3, 1] none)).RegisterWhole ∧
      (stocked (finishing [3, 1] none)).register.free.length = 5 ∧ (stocked (finishing [3, 1] none)).register.armed = true ∧
      (stocked (finishing [3, 1] none)).register.free.head? = some 44 ∧
      (stocked (finishing [3, 1] none)).panel.alerts = [] ∧
      ((stocked (finishing [3, 1] none)).AlertsKept ∧ (stocked (finishing [3, 1] none)).SounderKept)) ∧
    ((finishing [6] (some ⟨one, 5000, 9000⟩)).finishes 6700 1 .receive ∧ conf.matching [6] = some (8, .obstruction, 0) ∧
      one.groups ≠ ((finishing [6] (some ⟨one, 5000, 9000⟩)).bell 1).rx.groups ∧
      (finishing [6] (some ⟨one, 5000, 9000⟩)).panel.alerts.length ≤ 14 ∧ (finishing [6] none).finishes 6700 1 .receive ∧
      ((finishing [6] none).AlertsKept ∧ (finishing [6] none).SounderKept)) ∧
    ((finishing [3, 1] none).finishes 6700 1 .receive ∧ (finishing [3, 1] none).control.box = .opened ∧
      (finishing [3, 1] none).RegisterWhole ∧
      (finishing [3, 1] none).conf.matching ((finishing [3, 1] none).bell 1).rx.groups = some (2, .offer, 1) ∧
      ((finishing [3, 1] none).bell 1).outstanding = none ∧ (finishing [3, 1] none).conf.acceptingOf 1 = some 1 ∧
      (finishing [3, 1] none).allocates 1) ∧
    (conf.matching [2] = some (6, .entering, 0) ∧ conf.matching [2, 1] = some (3, .outOfSection, 0) ∧
      conf.matching [3, 5] = some (7, .cancel, 0) ∧ conf.offeringOf 1 = some 5) ∧
    (withTrain { inbound := some { sec := 1, stage := .accepted } } (finishing [2] none)).RegisterWhole ∧
    Oldest (fun q => ((withTrain { inbound := some { sec := 1, stage := .accepted } } (finishing [2] none)).record q).inStage =
      some .accepted) ((withTrain { inbound := some { sec := 1, stage := .accepted } } (finishing [2] none)).inboundList 1) 1 ∧
    Oldest (fun q => ((withTrain { outbound := some { sec := 5, stage := .atTrack } } (finishing [2, 1] none)).record q).outStage =
      some .atTrack) ((withTrain { outbound := some { sec := 5, stage := .atTrack } } (finishing [2, 1] none)).outboundList 5) 1 ∧
    Newest (fun q =>
        ((withTrain { inbound := some { sec := 1 } } (finishing [3, 5] none)).record q).inStage = some .offered ∨
        ((withTrain { inbound := some { sec := 1 } } (finishing [3, 5] none)).record q).inStage = some .accepted)
      ((withTrain { inbound := some { sec := 1 } } (finishing [3, 5] none)).inboundList 1) 1 ∧
    (acknowledged.finishes 6700 1 .receive ∧ conf.matching (acknowledged.bell 1).rx.groups = some (2, .offer, 1) ∧
      (acknowledged.bell 1).outstanding = some ⟨offer, 5000, 9000⟩ ∧ offer.groups = (acknowledged.bell 1).rx.groups ∧
      acknowledged.outstandingOffer 1 = some 1 ∧ 1 ∈ acknowledged.register.opened ∧
      (acknowledged.record 1).outbound = some { sec := 5 }) := by
  have w : (finishing [3, 1] none).working ∧ acknowledged.working := by unfold State.working State.between; decide
  have w' : (stocked (finishing [3, 1] none)).working ∧ (finishing [6] (some ⟨one, 5000, 9000⟩)).working ∧
      (finishing [6] none).working := by unfold State.working State.between; decide
  refine ⟨⟨finishes_of w'.1 rfl rfl rfl rfl rfl, stocked_whole.1, by decide, by decide, by decide, by decide,
      silent_kept rfl rfl⟩, ⟨finishes_of w'.2.1 rfl rfl rfl rfl rfl, by decide, by decide, by decide,
      finishes_of w'.2.2 rfl rfl rfl rfl rfl, silent_kept rfl rfl⟩, ⟨finishes_of w.1 rfl rfl rfl rfl rfl, by decide, (finishing_whole _).1, by decide, by decide, by decide,
    .inl (by decide)⟩, by decide, withTrain_whole _ ?_ rfl, ⟨[], [], by decide, by decide, nofun⟩,
    ⟨[], [], by decide, by decide, nofun⟩, ⟨[], [], by decide, by decide, nofun⟩,
    finishes_of w.2 rfl rfl rfl rfl rfl, by decide⟩
  unfold State.RegisterWhole; decide

/-- A send of two strokes on line 1. -/
def sending (index : Nat) (on : Bool) : Send := ⟨2, none, 5000, [5000, 5240], 80, index, on⟩

/-- The send at its last stroke, with the record that it names. -/
def lastStroke (named : Option Nat) : Send := { sending 1 true with record := named }

/-- The part with the send at its last stroke on line 1, and the code that it owes there. -/
def completing (named : Option Nat) (o : Option Owed) : State :=
  part.putBell 1 { send := some (lastStroke named), owed := o }

/-- The part with a send on line 1 that names record 1, a train that came in by section 2, at its last stroke. -/
def named : State := withTrain { inbound := some { sec := 2 } } (completing (some 1) none)

/-- The part with the repetition of the offer that it owes on line 1 sent as a code. -/
def repeating : State :=
  (withTrain { inbound := some { sec := 1 } } (completing none (some ⟨offer, 5000, 9000, false⟩))).linkOwed 1 (some 1)

/-- A line on which the last stroke of a send ends at 5,320. -/
theorem lastStroke_ends {s : State} {named : Option Nat} (hs : s.started)
    (hb : (s.bell 1).send = some (lastStroke named)) (hn : s.now = 5000) : s.lastStrokeEnds 5320 1 (lastStroke named) :=
  ⟨hs, by decide, hb, rfl, rfl, 5240, rfl, by rw [hn]; exact Nat.le_refl _⟩

/-- The part with a send on line 1 at its last stroke, and five records free. -/
def stockedSend : State := stocked (completing none none)

theorem test_meets_SentCodesMoveRecords :
    ((stocked (tapping [3, 1] none)).finishes 6700 1 .manual ∧ (stocked (tapping [3, 1] none)).RegisterWhole ∧
      (stocked (tapping [3, 1] none)).offersAnew 5 none ∧ (stocked (tapping [3, 1] none)).conf.offeringOf 1 = some 5 ∧
      (stocked (tapping [3, 1] none)).register.free.length = 5 ∧ (stocked (tapping [3, 1] none)).register.armed = true) ∧
    (stockedSend.lastStrokeEnds 5320 1 (lastStroke none) ∧ stockedSend.RegisterWhole ∧ stockedSend.offersAnew 5 none ∧
      stockedSend.register.free.length = 5 ∧ (stockedSend.conf.code (lastStroke none).entry).meaning = .offer) ∧
    ((tapping [3, 1] none).finishes 6700 1 .manual ∧ (tapping [3, 1] none).control.box = .opened ∧
      (tapping [3, 1] none).RegisterWhole ∧
      (tapping [3, 1] none).conf.matching ((tapping [3, 1] none).bell 1).man.groups = some (2, .offer, 1) ∧
      ((tapping [3, 1] none).bell 1).owed = none ∧ (tapping [3, 1] none).register.opened = [] ∧
      (tapping [3, 1] none).allocates 1) ∧
    Oldest (fun q =>
        ((withTrain { inbound := some { sec := 2 } } (tapping [3, 1] none)).record q).outbound = none ∧
        ∃ h, ((withTrain { inbound := some { sec := 2 } } (tapping [3, 1] none)).record q).inbound = some h ∧
          (conf.sec 5).pair = some h.sec)
      (withTrain { inbound := some { sec := 2 } } (tapping [3, 1] none)).register.opened 1 ∧
    Oldest (fun q => ((withTrain { outbound := some { sec := 5, stage := .accepted } } (tapping [2] none)).record q).outStage =
      some .accepted) ((withTrain { outbound := some { sec := 5, stage := .accepted } } (tapping [2] none)).outboundList 5) 1 ∧
    Oldest (fun q => ((withTrain { inbound := some { sec := 1, stage := .atTrack } } (tapping [2, 1] none)).record q).inStage =
      some .atTrack) ((withTrain { inbound := some { sec := 1, stage := .atTrack } } (tapping [2, 1] none)).inboundList 1) 1 ∧
    Newest (fun q =>
        ((withTrain { outbound := some { sec := 5 } } (tapping [3, 5] none)).record q).outStage = some .offered ∨
        ((withTrain { outbound := some { sec := 5 } } (tapping [3, 5] none)).record q).outStage = some .accepted)
      ((withTrain { outbound := some { sec := 5 } } (tapping [3, 5] none)).outboundList 5) 1 ∧
    (repeated.finishes 6700 1 .manual ∧ conf.matching (repeated.bell 1).man.groups = some (2, .offer, 1) ∧
      repeated.owesOffer 1 (repeated.bell 1).man.groups 1 { sec := 1 }) ∧
    (named.lastStrokeEnds 5320 1 (lastStroke (some 1)) ∧ named.control.box = .opened ∧ named.RegisterWhole ∧
      (named.bell 1).owed = none ∧ 1 ∈ named.register.opened ∧ (named.record 1).outbound = none) ∧
    ((completing (some 1) none).lastStrokeEnds 5320 1 (lastStroke (some 1)) ∧ (completing (some 1) none).RegisterWhole ∧
      1 ∉ (completing (some 1) none).register.opened) ∧
    (repeating.lastStrokeEnds 5320 1 (lastStroke none) ∧ (repeating.conf.code (lastStroke none).entry).meaning = .offer ∧
      repeating.owesOffer 1 (repeating.conf.code (lastStroke none).entry).pattern 1 { sec := 1 }) := by
  have w : (tapping [3, 1] none).working ∧ repeated.working := by unfold State.working State.between; decide
  have v : named.started ∧ (completing (some 1) none).started ∧ repeating.started := by
    unfold State.started State.between; decide
  have y : (stocked (tapping [3, 1] none)).working ∧ stockedSend.started := by
    unfold State.working State.started State.between; decide
  have whole : (withRecord { inbound := some { sec := 2 } } part).RegisterWhole ∧ part.RegisterWhole := by
    unfold State.RegisterWhole; decide
  exact ⟨⟨finishes_of y.1 rfl rfl rfl rfl rfl, stocked_whole.2, ⟨nofun, nofun⟩, by decide, by decide, by decide⟩,
    ⟨lastStroke_ends y.2 rfl rfl, stocked_whole.2, ⟨nofun, nofun⟩, by decide, by decide⟩,
    ⟨finishes_of w.1 rfl rfl rfl rfl rfl, by decide, (finishing_whole _).2, by decide, by decide, by decide,
    .inl (by decide)⟩, ⟨[], [], by decide, ⟨by decide, _, rfl, by decide⟩, nofun⟩,
    ⟨[], [], by decide, by decide, nofun⟩, ⟨[], [], by decide, by decide, nofun⟩, ⟨[], [], by decide, by decide, nofun⟩,
    ⟨finishes_of w.2 rfl rfl rfl rfl rfl, by decide, ⟨_, rfl, by decide, rfl⟩, by decide⟩,
    ⟨lastStroke_ends v.1 rfl rfl, rfl, withTrain_whole _ whole.1 rfl, by decide⟩,
    ⟨lastStroke_ends v.2.1 rfl rfl, whole.2, by decide⟩,
    lastStroke_ends v.2.2 rfl rfl, by decide, ⟨_, rfl, by decide, rfl⟩, by decide⟩

/-- The part in through relay with a code of one stroke read on line 1 and one pending from a line. -/
def exchanging (line deadline : Nat) : State :=
  (relaying (finishing [1] none)).putControl
    { (relaying (finishing [1] none)).control with through := some ⟨one, line, deadline⟩ }

theorem test_meets_ThroughRelayPassesStrokes :
    ((relaying (hearing true { detector := .testing 5980 })).working ∧
      (relaying (hearing true { detector := .testing 5980 })).inRelay 1 = true ∧
      ((relaying (hearing true { detector := .testing 5980 })).bell 1).rx.detector = .testing 5980) ∧
    (((relaying part).putBell 1 { relay := some ⟨5500, 6000⟩ }).bell 1).relay = some ⟨5500, 6000⟩ ∧
    ((relaying relayed).working ∧ (relaying relayed).inRelay 1 = true ∧ (relaying relayed).earOn 1 .receive = true ∧
      ((relaying relayed).bell 1).rx.detector = .stroke 5900 ∧
      ((relaying relayed).bell 1).relay = some ⟨5920, 6420⟩) ∧
    ((relaying (hearing true (swallowing (.running 6700) .off))).working ∧
      ((relaying (hearing true (swallowing (.running 6700) .off))).bell 1).rx.phase = .swallowing ∧
      (relaying (hearing true (swallowing (.running 6700) .off))).control.through = none) ∧
    ((relaying (finishing [1] none)).inRelay 1 = true ∧ (relaying (finishing [1] none)).control.through = none ∧
      ((relaying (finishing [1] none)).bell 1).rx.gapTimer = .running 6700) ∧
    ((exchanging 2 6700).working ∧ (exchanging 2 6700).inRelay 1 = true ∧
      (exchanging 2 6700).control.through = some ⟨one, 2, 6700⟩ ∧ ((exchanging 2 6700).bell 1).rx.phase = .assembling ∧
      ((exchanging 2 6700).bell 1).rx.gapTimer = .running 6700 ∧ max (exchanging 2 6700).now 6700 ≤ 6700 ∧
      one.outcome ≠ .malformed ∧ one.groups = ((exchanging 2 6700).bell 1).rx.groups) ∧
    ((exchanging 1 6700).control.through = some ⟨one, 1, 6700⟩ ∧ 6699 < max (exchanging 2 6699).now 6700) := by
  unfold State.working State.between; decide

/-- The part with its section 1 in a state, with or without the arrival proof. -/
def sectioned (state : AccState) (proof : Bool) : State := part.putAcc 1 { (part.sec 1).acc with state, proof }

/-- A train that holds section 1. -/
def arriving : Record := { inbound := some { sec := 1, stage := .entering } }

theorem test_meets_SendBellRunsItsStrokes :
    ((inMode (.held .invalid) part).ready ∧ (inMode (.held .invalid) part).control.mode = .held .invalid ∧
      isRecord (48 : Byte).toNat = true) ∧
    (part.ready ∧ part.control.mode ≠ .held .invalid ∧ isIndication (32 : Byte).toNat = true ∧
      (part.conf.code 32).inUse = false ∧ (part.conf.code 1).inUse = true ∧ (part.conf.code 1).meaning ≠ .offer) ∧
    (PatternValid (part.conf.code 2).pattern ∧ PatternValid (part.conf.code 4).pattern) ∧
    (part.mayRing (1 : Byte).toNat (2 : Byte).toNat ∧ part.mayRing 3 2 ∧ (part.conf.code 2).meaning = .offer ∧
      part.conf.offeringOf 3 = none ∧ part.conf.offeringOf 1 ≠ none ∧ 48 ∉ part.register.opened) ∧
    (part.mayRing 1 3 ∧ (part.conf.code 3).meaning = .outOfSection ∧ part.conf.acceptingOf 1 = some 1 ∧
      ¬ part.outOfSectionFails 1) ∧
    ((sectioned .lc true).ready ∧ (sectioned .lc true).mayRing 1 3 ∧ ((sectioned .lc true).sec 1).acc.state = .lc) ∧
    ((sectioned .tol false).ready ∧ (sectioned .tol false).mayRing 1 3 ∧
      ((sectioned .tol false).sec 1).acc.state = .tol ∧ ((sectioned .tol false).sec 1).acc.proof = false) ∧
    ((withTrain arriving (sectioned .tol true)).ready ∧ (withTrain arriving (sectioned .tol true)).mayRing 1 3 ∧
      ((withTrain arriving (sectioned .tol true)).sec 1).acc.state = .tol ∧
      ((withTrain arriving (sectioned .tol true)).sec 1).acc.proof = true ∧
      Oldest (fun q => ((withTrain arriving (sectioned .tol true)).record q).inStage = some .offered ∨
        ((withTrain arriving (sectioned .tol true)).record q).inStage = some .accepted ∨
        ((withTrain arriving (sectioned .tol true)).record q).inStage = some .entering)
        ((withTrain arriving (sectioned .tol true)).inboundList 1) 1) ∧
    ((withTrain arriving part).ready ∧ (withTrain arriving part).mayRing 1 2 ∧
      1 ∈ (withTrain arriving part).register.opened ∧ ((withTrain arriving part).record 1).outbound = none) ∧
    ((part.putBell 3 { plunger := .spent }).bell 3).plunger ≠ .off ∧
    ((part.putBell 1 { send := some (sending 0 false) }).started ∧
      ((part.putBell 1 { send := some (sending 0 false) }).bell 1).send = some (sending 0 false) ∧
      (sending 0 false).starts[(sending 0 false).index]? = some 5000 ∧ (sending 0 false).on = false) ∧
    ((sending 0 true).on = true ∧ 5000 + (sending 0 true).width ≤ 5080 ∧
      (sending 0 true).index + 1 < (sending 0 true).starts.length) ∧
    (sending 1 true).index + 1 = (sending 1 true).starts.length := by
  refine ⟨?_, ?_, ?_, ?_, ?_, ?_, ?_, ⟨?_, ?_, ?_, ?_, [], [], by decide, by decide, nofun⟩, ?_, ?_⟩
  all_goals try unfold PatternValid
  all_goals try unfold State.ready
  all_goals try unfold State.started
  all_goals try unfold State.between
  all_goals try unfold State.mayRing
  all_goals try unfold State.outOfSectionFails
  all_goals decide

theorem test_meets_PlungerDrivesTheLine :
    (part.working ∧ isLine 3 = true ∧ part.inRelay 3 = false ∧ (part.bell 3).plunger = .off) ∧
    ((relaying part).working ∧ (relaying part).inRelay 1 = true) ∧
    ((part.putBell 1 { plunger := .on, plungerTimer := some 6000 }).bell 1).plunger ≠ .off ∧
    ((part.putBell 1 { plunger := .on, plungerTimer := some 6000 }).bell 1).plungerTimer = some 6000 := by
  unfold State.working State.between; decide

theorem test_meets_RepetitionTimesPass :
    ((finishing [1] (some ⟨one, 5000, 6000⟩)).started ∧
      ((finishing [1] (some ⟨one, 5000, 6000⟩)).bell 1).outstanding = some ⟨one, 5000, 6000⟩) ∧
    ((part.putBell 1 { owed := some ⟨one, 5000, 6000, false⟩ }).bell 1).owed = some ⟨one, 5000, 6000, false⟩ ∧
    ((part.putBell 1 { owed := some ⟨one, 5000, 6000, true⟩ }).bell 1).owed = some ⟨one, 5000, 6000, true⟩ := by
  unfold State.started State.between; decide

/-- The part with record 1 complete. -/
def recorded : State :=
  part.putRegister { part.register with
    records := part.register.records.put 1 { reason := some .finished }
    free := (Tab.numbers 48).tail
    completed := [1] }

/-- The part with record 1 open, the owed offer of line 1 and the outstanding offer of line 3. -/
def linked : State := ((graced.linkOwed 1 (some 1)).linkOutstanding 3 (some 1))

/-- R142 under R144: a closed record loses the links that name it and keeps the stage of its half. -/
theorem test_closeRecord_unlinks :
    ((after linked (.closeRecord 6000 7 1)).owedOffer 1, (after linked (.closeRecord 6000 7 1)).outstandingOffer 3,
      (after linked (.closeRecord 6000 7 1)).inboundList 1,
      ((after linked (.closeRecord 6000 7 1)).record 1).inStage) = (none, none, [], some .offered) := by decide

theorem test_meets_RecordsAreClosedAndCollected :
    (graced.ready ∧ graced.RegisterWhole ∧ 1 ∈ graced.register.opened) ∧
    (linked.ready ∧ linked.RegisterWhole ∧ 1 ∈ linked.register.opened ∧ linked.owedOffer 1 = some 1 ∧
      linked.outstandingOffer 3 = some 1) ∧ isRecord (49 : Byte).toNat = false ∧
    (recorded.ready ∧ recorded.RegisterWhole ∧ 1 ∈ recorded.register.completed) ∧ 48 ∈ part.register.free := by
  unfold State.ready State.started State.between State.RegisterWhole
  exact ⟨by decide, by decide, by decide⟩

theorem test_meets_OccupationGoesToTheOldestCandidate :
    (graced.register.opened.filter (graced.candidate 9) = [1] ∧ isRecord 1 = true) ∧
    (part.register.opened.filter (part.candidate 1) = [] ∧ part.arriving 1 = none ∧ part.berthing 1 = none) ∧
    (graced.working ∧ isTrack 9 = true ∧ (graced.conf.track 9).kind = .running ∧ graced.relayPicked 9 = true ∧
      (graced.track 9).filter = .clear ∧
      (graced.putTrack 9 {}).register.opened.filter ((graced.putTrack 9 {}).candidate 9) = [1]) ∧
    (withRecord { inbound := some { sec := 1, stage := .entering } } part).arriving 1 = some 1 ∧
    (withRecord { outbound := some { sec := 4 } } part).berthing 4 = some 1 ∧
    (part.panel.alerts.length ≤ 9 ∧ part.holds = [] ∧ part.sends .track = true ∧ part.link.outbox.length + 26 ≤ 32 ∧
      ((part.putTrack 1 { filter := .clear, suspect := true }).track 1).marked = true) ∧
    (graced.register.opened = [] ++ 1 :: [] ∧ graced.candidateFor 9 1) ∧
    Oldest ((withRecord { inbound := some { sec := 1, stage := .entering } } part).entersAt 1) [1] 1 ∧
    Oldest ((withRecord { outbound := some { sec := 4 } } part).berthsAt 4) [1] 1 ∧
    (withRecord { outbound := some { sec := 4 } } part).register.opened = [1] ∧ part.register.opened = [] := by
  refine ⟨by decide, by decide, ?_, by decide, by decide, by decide,
    ⟨by decide, ⟨by decide, by decide, nofun⟩, 4, by decide, .inr (by decide), .inr (.inr (.inl (by decide)))⟩,
    ⟨[], [], rfl, ⟨_, rfl, rfl, by decide, by decide, by decide⟩, nofun⟩,
    ⟨[], [], rfl, ⟨by decide, 4, by decide, by decide, by decide, [], [], by decide, ⟨_, rfl, rfl⟩, nofun⟩, nofun⟩,
    by decide, by decide⟩
  unfold State.working State.between; decide

/-- The part with a followed record, its head T9 picking up. -/
def clearing (x : Record) : State := (withRecord x part).putTrack 9 { filter := .picking, timer := some 6000 }

/-- A record that has run over T4 to T9, going out by section 4. -/
def run (stage : HalfStage) : Record := { outbound := some { sec := 4, stage := stage }, trail := [4, 9] }

theorem test_meets_HeadClearingDepartsSetsBackOrGraces :
    ((clearing (run .entering)).becomesClearBy 6000 9 (.pickUpTimerExpiry 6000 9) ∧ (clearing (run .entering)).RegisterWhole ∧
      (clearing (run .entering)).followed 1 = true ∧ ((clearing (run .entering)).record 1).head = some 9 ∧
      ((clearing (run .entering)).putOff 4 { repeater := .tol }).departs 1 9 ∧ ¬ (clearing (run .accepted)).departs 1 9) ∧
    ((run .accepted).beforeHead = some 4 ∧ ((clearing (run .accepted)).putTrack 4 {}).clear 4 = false ∧
      (clearing (run .accepted)).clear 4 = true) ∧
    (withRecord (run .entering) (part.putOff 4 { repeater := .lc, timer := some 6000 })).working ∧
    ((withRecord (run .entering) (part.putOff 4 { repeater := .lc, timer := some 6000 })).clear (part.conf.sec 4).exit = true ∧
      ((State.putInputs { part.inputs with blockLines := part.inputs.blockLines.put 4 .none }
        (withRecord (run .entering) part)).rawReading 4 = .tol)) := by
  unfold State.becomesClearBy State.working State.between State.RegisterWhole
  refine ⟨⟨⟨by decide, by decide, by decide, .inl ⟨rfl, by decide, by decide, _, rfl, by decide⟩⟩, by decide, by decide,
    by decide, ⟨_, rfl, by decide⟩, ?_⟩, by decide, by decide, by decide⟩
  rintro ⟨h, e, st, -⟩
  obtain rfl := Option.some.inj e
  exact absurd st (by decide)

/-- The part with a notice exchanged on every line. -/
def noticed (e : Nat) (m : Meaning) (s : State) : State :=
  { s with bells := Tab.rep 3 { exchange := some ⟨⟨.matched, some (e, m), []⟩, true, 5000, ⟨0, 0, true⟩⟩ } }

/-- The part ready to switch out. -/
def leaving : State := noticed 4 .switchOutNotice part

/-- Condition `j` of SWITCH_OUT holds. -/
def outHolds (s : State) : Nat → Bool
  | 0 => true
  | 1 => s.conf.switchOut.may
  | 2 => s.control.mode = .running
  | 3 => (Tab.numbers 6).all fun y => (s.sec y).acc.state = .lb && (s.sec y).off.repeater = .lb
  | 4 => s.register.opened = []
  | 5 => s.holds = []
  | 6 => (Tab.numbers 24).all fun n => s.conf.switchOut.place n = .either && s.standing n = .normal
  | 7 => (Tab.numbers 3).all fun l => (s.bell l).send = none && (s.bell l).man.phase = .idle && (s.bell l).plunger = .off
  | _ => false

/-- A lever that stands where the configuration asks for either position is in its place. -/
theorem not_outOfPlace {s : State} {n : Nat} (hn : isLever n = true)
    (h : ((Tab.numbers 24).all fun n => s.conf.switchOut.place n = .either && s.standing n = .normal) = true) :
    ¬ s.outOfPlace n := by
  have h := List.all_eq_true.mp h n (by simpa [isLever, Tab.mem_numbers] using hn)
  simp only [Bool.and_eq_true, decide_eq_true_eq] at h
  simp [State.outOfPlace, h.1, h.2]

theorem not_refusesSwitchOut {s : State} {now : Time} {j : Nat} (h : outHolds s j = true) (o : CondObject) :
    ¬ s.refusesSwitchOut now j o := by
  intro hr
  match j, h, hr with
  | 1, h, hr => exact absurd (hr.2.symm.trans h) (by decide)
  | 2, h, hr => exact hr.2 (of_decide_eq_true h)
  | 3, h, hr =>
    obtain ⟨y, -, ⟨hy, -, hb⟩, -⟩ := hr
    have := List.all_eq_true.mp h y (by simpa [isSection, Tab.mem_numbers] using hy)
    simp only [Bool.and_eq_true, decide_eq_true_eq] at this
    exact hb.elim (fun k => k.2 this.1) fun k => k.2 this.2
  | 4, h, hr => obtain ⟨r, -, hr⟩ := hr; simp [of_decide_eq_true h] at hr
  | 5, h, hr => obtain ⟨n, -, ⟨x, hx, -⟩, -⟩ := hr; simp [of_decide_eq_true h] at hx
  | 6, h, hr => obtain ⟨n, -, ⟨hn, hp⟩, -⟩ := hr; exact not_outOfPlace hn h hp
  | 7, h, hr =>
    obtain ⟨l, -, ⟨hl, -, hb⟩, -⟩ := hr
    have := List.all_eq_true.mp h l (by simpa [isLine, Tab.mem_numbers] using hl)
    simp only [Bool.and_eq_true, decide_eq_true_eq] at this
    exact hb.elim (absurd this.1.1) fun k => k.elim (absurd this.1.2) (absurd this.2)

/-- The part whose box may not switch out. -/
def staying : State := { part with store := { part.store with inForce := { conf with switchOut := {} } } }

theorem refusesSwitchOut_each :
    (staying.refusesSwitchOut 6000 1 .none ∧ ∀ j < 1, ∀ p, ¬ staying.refusesSwitchOut 6000 j p) ∧
    ((held false conf).refusesSwitchOut 6000 2 .none ∧ ∀ j < 2, ∀ p, ¬ (held false conf).refusesSwitchOut 6000 j p) ∧
    ((section1 .lc).refusesSwitchOut 6000 3 (.sec 1) ∧ ∀ j < 3, ∀ p, ¬ (section1 .lc).refusesSwitchOut 6000 j p) ∧
    (offered.refusesSwitchOut 6000 4 (.record 1) ∧ ∀ j < 4, ∀ p, ¬ offered.refusesSwitchOut 6000 j p) ∧
    ((part.putHolds [holdOf .active none]).refusesSwitchOut 6000 5 (.lever 1) ∧
      ∀ j < 5, ∀ p, ¬ (part.putHolds [holdOf .active none]).refusesSwitchOut 6000 j p) ∧
    ((part.putLever 1 { phase := .fault }).refusesSwitchOut 6000 6 (.lever 1) ∧
      ∀ j < 6, ∀ p, ¬ (part.putLever 1 { phase := .fault }).refusesSwitchOut 6000 j p) ∧
    ((part.putBell 1 { plunger := .spent }).refusesSwitchOut 6000 7 (.line 1) ∧
      ∀ j < 7, ∀ p, ¬ (part.putBell 1 { plunger := .spent }).refusesSwitchOut 6000 j p) ∧
    (part.refusesSwitchOut 6000 8 (.line 1) ∧ ∀ j < 8, ∀ p, ¬ part.refusesSwitchOut 6000 j p) := by
  refine ⟨⟨⟨rfl, rfl⟩, fun j hj => not_refusesSwitchOut ?_⟩, ⟨⟨rfl, by decide⟩, fun j hj => not_refusesSwitchOut ?_⟩,
    ⟨⟨1, rfl, least_one (by decide) (by decide)⟩, fun j hj => not_refusesSwitchOut ?_⟩,
    ⟨⟨1, rfl, rfl⟩, fun j hj => not_refusesSwitchOut ?_⟩,
    ⟨⟨1, rfl, least_one ⟨_, List.mem_singleton.mpr rfl, rfl⟩ ?_⟩, fun j hj => not_refusesSwitchOut ?_⟩,
    ⟨⟨1, rfl, least_one ⟨rfl, rfl⟩ fun h => absurd h.1 (by decide)⟩, fun j hj => not_refusesSwitchOut ?_⟩,
    ⟨⟨1, rfl, least_one (by decide) (by decide)⟩, fun j hj => not_refusesSwitchOut ?_⟩,
    ⟨⟨1, rfl, least_one ⟨rfl, by decide, nofun⟩ fun h => absurd h.1 (by decide)⟩, fun j hj => not_refusesSwitchOut ?_⟩⟩
  case refine_5 =>
    rintro ⟨x, hx, hs⟩; obtain rfl := List.mem_singleton.mp hx; exact absurd hs (by decide)
  all_goals revert j; decide

theorem test_meets_SwitchOutTakesTheBoxOut :
    (leaving.ready ∧ leaving.control.box = .opened ∧ leaving.conf.switchOut.may = true ∧
      leaving.control.mode = .running) ∧
    ((∀ x ∈ Tab.numbers 6, (leaving.conf.sec x).role = .accepting → leaving.inPair (leaving.conf.sec x).line = true →
        (leaving.sec x).acc.state = .lb) ∧
      (∀ x ∈ Tab.numbers 6, (leaving.conf.sec x).role = .offering → leaving.inPair (leaving.conf.sec x).line = true →
        (leaving.sec x).off.repeater = .lb) ∧
      leaving.register.opened = [] ∧ leaving.holds = []) ∧
    (∀ n ∈ Tab.numbers 24, ¬ leaving.outOfPlace n) ∧
    (∀ l ∈ Tab.numbers 3, leaving.inPair l = true → (leaving.bell l).send = none ∧ (leaving.bell l).man.phase = .idle ∧
      (leaving.bell l).plunger = .off ∧
      ∃ x, (leaving.bell l).exchange = some x ∧ ∃ k, x.code.entry = some (k, .switchOutNotice) ∧
        max leaving.now 125000 ≤ x.at_ + 120000) ∧
    ((relaying part).ready ∧ (relaying part).control.box = .switchedOut ∧ (inMode (.held .invalid) part).ready) ∧
    (part.ready ∧ part.HoldsKept ∧ part.control.box = .opened ∧ part.control.mode ≠ .held .invalid) ∧
    part.refusesSwitchOut 6000 8 (.line 1) ∧ ∀ j < 8, ∀ p, ¬ part.refusesSwitchOut 6000 j p := by
  refine ⟨?_, by decide, fun n hn => not_outOfPlace (by simpa [isLever, Tab.mem_numbers] using hn) (by decide),
    fun l hl _ => ?_, ?_, ?_, refusesSwitchOut_each.2.2.2.2.2.2.2⟩
  · unfold State.ready State.started State.between; decide
  · rcases line_cases hl with rfl | rfl | rfl <;> exact ⟨rfl, rfl, rfl, _, rfl, _, rfl, by decide⟩
  · unfold State.ready State.started State.between; decide
  · unfold State.ready State.started State.between State.HoldsKept; decide

/-- The part ready to switch in. -/
def returning : State := noticed 5 .switchInNotice (relaying part)

/-- Condition `j` of SWITCH_IN holds. -/
def inHolds (s : State) : Nat → Bool
  | 0 => true
  | 1 => (Tab.numbers 6).all fun y => (s.sec y).off.repeater = .lb && s.blockLine y = .negative
  | 2 => (Tab.numbers 24).all fun n => s.conf.switchOut.place n = .either && s.standing n = .normal
  | _ => false

theorem not_refusesSwitchIn {s : State} {now : Time} {j : Nat} (h : inHolds s j = true) (o : CondObject) :
    ¬ s.refusesSwitchIn now j o := by
  intro hr
  match j, h, hr with
  | 1, h, hr =>
    obtain ⟨y, -, ⟨hy, -, -, hb⟩, -⟩ := hr
    have := List.all_eq_true.mp h y (by simpa [isSection, Tab.mem_numbers] using hy)
    simp only [Bool.and_eq_true, decide_eq_true_eq] at this
    exact hb.elim (absurd this.1) (absurd this.2)
  | 2, h, hr => obtain ⟨n, -, ⟨hn, hp⟩, -⟩ := hr; exact not_outOfPlace hn h hp

/-- The part switched out with no current on the block line of section 4. -/
def darkened : State := State.putInputs { part.inputs with blockLines := (Tab.rep 6 .negative).put 4 .none } (relaying part)

theorem refusesSwitchIn_each :
    (darkened.refusesSwitchIn 6000 1 (.sec 4) ∧ ∀ j < 1, ∀ p, ¬ darkened.refusesSwitchIn 6000 j p) ∧
    ((relaying (part.putLever 1 { phase := .fault })).refusesSwitchIn 6000 2 (.lever 1) ∧
      ∀ j < 2, ∀ p, ¬ (relaying (part.putLever 1 { phase := .fault })).refusesSwitchIn 6000 j p) ∧
    ((relaying part).refusesSwitchIn 6000 3 (.line 1) ∧ ∀ j < 3, ∀ p, ¬ (relaying part).refusesSwitchIn 6000 j p) := by
  refine ⟨⟨⟨4, rfl, by decide, by decide⟩, fun j hj => not_refusesSwitchIn ?_⟩,
    ⟨⟨1, rfl, least_one ⟨rfl, rfl⟩ fun h => absurd h.1 (by decide)⟩, fun j hj => not_refusesSwitchIn ?_⟩,
    ⟨⟨1, rfl, least_one ⟨rfl, by decide, nofun⟩ fun h => absurd h.1 (by decide)⟩, fun j hj => not_refusesSwitchIn ?_⟩⟩
  all_goals revert j; decide

theorem test_meets_SwitchInBringsTheBoxIn :
    (returning.ready ∧ returning.control.box = .switchedOut ∧ returning.control.mode ≠ .held .invalid) ∧
    (∀ x ∈ Tab.numbers 6, (returning.conf.sec x).role = .offering → returning.inPair (returning.conf.sec x).line = true →
        (returning.sec x).off.repeater = .lb ∧ returning.blockLine x = .negative) ∧
    (∀ n ∈ Tab.numbers 24, ¬ returning.outOfPlace n) ∧
    (∀ l ∈ Tab.numbers 3, returning.inPair l = true →
      ∃ x, (returning.bell l).exchange = some x ∧ ∃ k, x.code.entry = some (k, .switchInNotice) ∧
        max returning.now 125000 ≤ x.at_ + 120000) ∧
    (part.ready ∧ part.control.box = .opened ∧ (inMode (.held .invalid) part).ready) ∧
    ((relaying part).ready ∧ (relaying part).control.box = .switchedOut ∧ (relaying part).control.mode ≠ .held .invalid) ∧
    (relaying part).refusesSwitchIn 6000 3 (.line 1) ∧ ∀ j < 3, ∀ p, ¬ (relaying part).refusesSwitchIn 6000 j p := by
  refine ⟨?_, by decide, fun n hn => not_outOfPlace (by simpa [isLever, Tab.mem_numbers] using hn) (by decide),
    fun l hl _ => ?_, ?_, ?_, refusesSwitchIn_each.2.2⟩
  · unfold State.ready State.started State.between; decide
  · rcases line_cases hl with rfl | rfl | rfl <;> exact ⟨_, rfl, _, rfl, by decide⟩
  · unfold State.ready State.started State.between; decide
  · unfold State.ready State.started State.between; decide

/-- R178, R179: over a full list of priority 9 an alert of 6 is not entered, and one of 15 takes the place of the oldest
and sounds continuously. -/
theorem test_raise_on_a_full_list :
    (State.raise .travelOverdue 1 (ringing sixteen)).panel = (ringing sixteen).panel ∧
      (State.raise .leverForced 5 (ringing sixteen)).panel.alerts.map (·.object) =
        [2, 3, 4, 5, 6, 7, 8, 9, 10, 11, 12, 13, 14, 15, 16, 5] ∧
      (State.raise .leverForced 5 (ringing sixteen)).panel.sounder.pattern = .continuous := by decide

/-- The part with everything at hand that raises one alert, over an alert list. -/
def alarming (l : List Alert) : State :=
  (((((ringing l).putLever 1 { phase := .travel, timer := .running 6000 }).putBell 1
    { outstanding := some ⟨one, 5000, 6000⟩, owed := some ⟨one, 5000, 6000, false⟩ }).putHolds
      [holdOf .ready (some 6000)]).putTrack 1 { filter := .picking, timer := some 9000, flickers := 1 })

theorem alarming_meets :
    (alarming sixteen).started ∧ (alarming sixteen).AlertsKept ∧ (alarming sixteen).SounderKept ∧
    ((alarming sixteen).lever 1).timer = .running 6000 ∧ ((alarming sixteen).lever 1).phase = .travel ∧
    ((alarming sixteen).bell 1).outstanding = some ⟨one, 5000, 6000⟩ ∧
    ((alarming sixteen).bell 1).owed = some ⟨one, 5000, 6000, false⟩ ∧
    (alarming sixteen).hold? 1 = some (holdOf .ready (some 6000)) ∧
    ((alarming sixteen).live = true ∧ (alarming sixteen).conf.fitted 1 = true ∧ (alarming sixteen).relayPicked 1 = true ∧
      ((alarming sixteen).track 1).filter = .picking ∧ ((alarming sixteen).conf.track 1).flicker = .limit 1 ∧
      ((alarming sixteen).track 1).flickers + 1 = 2 ^ 1) ∧
    ((alarming sixteen).leverInputs 5 ≠ ((alarming sixteen).leverInputs 5).setSide .normal false ∧
      ((alarming sixteen).lever 5).phase = .normal) := by
  refine ⟨?_, ?_, sixteen_rings, by decide⟩
  · unfold State.started State.between; decide
  · unfold State.AlertsKept; decide

theorem test_meets_PanelTimersAndRequests :
    (part.between ∧ part.ready ∧ isIndication 32 = true ∧ part.live = true ∧ (inMode .start part).live = false ∧
      part.panel.lampTest = none) ∧
    (part.putPanel { part.panel with
      flasher := some ⟨true, 6000⟩
      lampTest := some 6000
      pulses := part.panel.pulses.put 32 (some 6000)
      sounder := ⟨.beep, true, some 6000⟩ }).pulse 32 = some 6000 ∧ 6000 ≤ max part.now 6000 := by
  unfold State.ready State.started State.between; decide

/-- The part with its outbox full. -/
def crowded (s : State) : State :=
  s.putLink { s.link with outbox := List.replicate 32 ⟨.trackClear, 1, 0, ⟨0, 0, true⟩, []⟩, tx := .notice }

theorem test_meets_LinkEvents :
    (part.started ∧ part.inputs.key ≠ false ∧ part.link.asm.state = .hunt) ∧
    ((part.putLink { part.link with asm := ⟨.tag, [], 5000⟩ }).link.asm.state ≠ .hunt ∧ 5000 + 50 < max part.now 5051 ∧
      max part.now 5050 ≤ 5000 + 50) ∧
    ((crowded (picking 2 0)).started ∧ (crowded (picking 2 0)).live = true ∧ isTrack 2 = true ∧
      (crowded (picking 2 0)).conf.fitted 2 = true ∧ (crowded (picking 2 0)).relayPicked 2 = true ∧
      ((crowded (picking 2 0)).track 2).filter = .picking ∧ ((crowded (picking 2 0)).conf.track 2).flicker = .each ∧
      32 ≤ (crowded (picking 2 0)).link.outbox.length) ∧
    ((replying part).control.after = none ∧ (replying part).control.writing = false ∧
      ((replying part).putLink { (replying part).link with queue := [⟨1, .status⟩] }).link.queue = [⟨1, .status⟩]) ∧
    ((replying part).link.tx = .reply ∧ (replying part).link.queue = [] ∧ (replying part).link.slot = some ⟨0x81, 7, .ok, []⟩ ∧
      (replying part).link.queue.length < 4) ∧
    4 ≤ ((replying part).putLink { (replying part).link with queue := List.replicate 4 ⟨1, .status⟩ }).link.queue.length ∧
    (part.putLink { part.link with tx := .notice }).link.tx = .notice := by
  unfold State.started State.between; decide

theorem test_meets_RefusalsAndReadsChangeNothing :
    (part.ready ∧ (State.putInputs { part.inputs with key := false } part).ready ∧
      (State.putInputs { part.inputs with key := false } part).inputs.key = false) ∧
    isLever (24 : Byte).toNat = true ∧ isTrack (16 : Byte).toNat = true ∧ isSection (6 : Byte).toNat = true ∧
    isLine (3 : Byte).toNat = true ∧ (2 : Byte).toNat ≤ 2 ∧ isRecord (48 : Byte).toNat = true ∧ 1 ∈ graced.register.opened ∧
    48 ∉ graced.register.opened ∧ 48 ∉ graced.register.completed ∧ itemExists (10 : Byte).toNat (0 : Byte).toNat = true ∧
    1 ≤ (69 : Byte).toNat ∧ (69 : Byte).toNat ≤ 69 ∧
    (isRequestKind 0x01 = true ∧ (0x01 : Byte) ≠ 0x22 ∧ [7].length ∉ bodyLengths 0x01 ∧ part.inputs.key = true ∧
      isRequestKind 0x10 = true ∧ ([1, 2, 1] : List Byte)[2]? ≠ some 0 ∧ ([1, 2, 0, 3] : List Byte)[2]? ≠ some 1 ∧
      isRequestKind 0x25 = true ∧ [7].length ∉ bodyLengths 0x25) ∧
    (isLever (25 : Byte).toNat = false ∧ isLever (0 : Byte).toNat = false ∧ isTrack (17 : Byte).toNat = false ∧
      isSection (7 : Byte).toNat = false ∧ isLine (4 : Byte).toNat = false ∧ isIndication (33 : Byte).toNat = false ∧
      isRecord (49 : Byte).toNat = false ∧ 2 < (3 : Byte).toNat ∧ 16 < (17 : Byte).toNat ∧
      itemExists (11 : Byte).toNat (0 : Byte).toNat = false ∧ 69 < (70 : Byte).toNat ∧ 24 < (25 : Byte).toNat) := by
  unfold State.ready State.started State.between; decide

theorem test_meets_FramesSpellTheirRequests :
    ((replying part).started ∧ (replying part).now ≤ 6000 ∧ (List.replicate 240 (0 : Byte)).length ≤ 240 ∧
      (replying part).link.asm.state = .hunt ∧ (replying part).link.tx ≠ .idle) ∧
    (part.started ∧ part.now ≤ 6000 ∧ part.link.asm.state = .hunt ∧ part.link.tx = .idle ∧ part.link.slot = none ∧
      part.link.outbox = []) ∧
    ∀ k : Byte, Request.restart ≠ .unknown k ∧ Request.restart ≠ .malformed k := by
  refine ⟨?_, ?_, fun _ => ⟨nofun, nofun⟩⟩ <;> (unfold State.started State.between; decide)

/-- The default of every item is written as it is read. -/
theorem default_rereads : Rereads {} := by
  intro cls index h
  have step {n : Nat} {α : Type} (p : Parse α) (b : α → List Byte) (a : α) (f : Tab n α → Conf)
      (hp : pWhole p (b a) = some a) (hf : f (Tab.rep n a) = {}) :
      (pWhole p (b ((Tab.rep n a).get a index))).map (fun v => f ((Tab.rep n a).put index v)) = some {} := by
    rw [Tab.get_rep, hp, Option.map_some, Tab.put_rep, hf]
  unfold writeItem; rw [if_pos h]
  match cls, h with
  | 0, _ => exact step (pNamed leverKindValues) (fun v => b1 v.ord) .spare (fun t => { leverKinds := t }) (by decide) rfl
  | 1, _ => exact step pEntry bEntry [] (fun t => { entries := t }) (by decide) rfl
  | 2, _ => exact step pHoldDef bHoldDef {} (fun t => { holdDefs := t }) (by decide) rfl
  | 3, _ => exact step pTrackConf bTrackConf {} (fun t => { tracks := t }) (by decide) rfl
  | 4, _ => exact step pSectionConf bSectionConf {} (fun t => { sections := t }) (by decide) rfl
  | 5, _ => exact step pLineConf bLineConf {} (fun t => { lines := t }) (by decide) rfl
  | 6, _ => exact step pCodeEntry bCodeEntry {} (fun t => { codes := t }) (by decide) rfl
  | 7, _ => exact step pIndicationConf bIndicationConf {} (fun t => { indications := t }) (by decide) rfl
  | 8, _ => exact congrArg (Option.map _) (show pWhole (pNum 1 15) (b1 6) = some 6 by decide)
  | 9, _ => exact congrArg (Option.map _) (show pWhole pSwitchOutConf (bSwitchOutConf {}) = some {} by decide)
  | 10, _ => exact congrArg (Option.map _) (show pWhole pEnables (bEnables (Tab.rep 10 true)) = some (Tab.rep 10 true) by decide)
  | _ + 11, h => exact absurd h Bool.false_ne_true

theorem test_meets_ConfigItemsReadBack :
    ((writeBody conf [8, 0, 15]).isSome = true ∧ itemExists 10 0 = true) ∧
    (∃ u, step (waiting (.technicianKeyChange 2000 true) State.reset) = .next u) ∧
    Rereads (waiting (.technicianKeyChange 2000 true) State.reset).store.inForce ∧
    Rereads (waiting (.technicianKeyChange 2000 true) State.reset).store.working :=
  ⟨by decide, ⟨_, rfl⟩, default_rereads, default_rereads⟩

end Sys2Proof.Tests
end

namespace Sys2Proof.Machine

variable {ps : List Part} {s t u : State}

/-! ### Reading a frame -/

theorem Outside.tracks_eq (h : Outside ps s u) (hp : .tracks ∉ ps) : u.tracks = s.tracks := h _ hp
theorem Outside.mode_eq (h : Outside ps s u) (hp : .mode ∉ ps) : u.control.mode = s.control.mode := (h _ hp).1
theorem Outside.conf_eq (h : Outside ps s u) (hp : .configuration ∉ ps) : u.conf = s.conf := (h _ hp).1
theorem Outside.counter_eq (h : Outside ps s u) (hp : .counters ∉ ps) (k : CounterName) :
    u.store.counter k = s.store.counter k := by
  obtain ⟨hr, hf, hm⟩ := h _ hp
  cases k <;> simp only [Store.counter, hr, hf, hm]

/-! ### Frames of the end of the start interval (R196) -/

/-- The frame of `State.trackStarts`. -/
theorem State.trackStarts_outside (s : State) (n : Nat) : Outside [.tracks] s (s.trackStarts n) := by
  unfold State.trackStarts; repeat' split
  all_goals simp
@[simp] theorem State.outside_trackStarts (n : Nat) (h : [Part.tracks] ⊆ ps) :
    Outside ps s (t.trackStarts n) ↔ Outside ps s t := outside_iff (State.trackStarts_outside t n) h

/-- The frame of `State.tracksStart`. -/
theorem State.tracksStart_outside (s : State) : Outside [.tracks] s s.tracksStart := by
  unfold State.tracksStart; simp
@[simp] theorem State.outside_tracksStart (h : [Part.tracks] ⊆ ps) :
    Outside ps s t.tracksStart ↔ Outside ps s t := outside_iff (State.tracksStart_outside t) h

/-- The frame of `State.throughToTol`. -/
theorem State.throughToTol_outside (s : State) (x : Nat) : Outside [.sections, .emitted] s (s.throughToTol x) := by
  unfold State.throughToTol; simp
@[simp] theorem State.outside_throughToTol (x : Nat) (h : [Part.sections, .emitted] ⊆ ps) :
    Outside ps s (t.throughToTol x) ↔ Outside ps s t := outside_iff (State.throughToTol_outside t x) h

/-- The frame of `State.switchingStarts`. -/
theorem State.switchingStarts_outside (s : State) :
    Outside [.box, .set, .sections, .emitted] s s.switchingStarts := by
  unfold State.switchingStarts; dsimp only; repeat' split
  all_goals simp
@[simp] theorem State.outside_switchingStarts (h : [Part.box, .set, .sections, .emitted] ⊆ ps) :
    Outside ps s t.switchingStarts ↔ Outside ps s t := outside_iff (State.switchingStarts_outside t) h

/-- The frame of `State.leverStarts`. -/
theorem State.leverStarts_outside (s : State) (n : Nat) : Outside [.levers] s (s.leverStarts n) := by
  unfold State.leverStarts; simp
@[simp] theorem State.outside_leverStarts (n : Nat) (h : [Part.levers] ⊆ ps) :
    Outside ps s (t.leverStarts n) ↔ Outside ps s t := outside_iff (State.leverStarts_outside t n) h

/-- The frame of `State.leversStart`. -/
theorem State.leversStart_outside (s : State) : Outside [.levers] s s.leversStart := by
  unfold State.leversStart; simp
@[simp] theorem State.outside_leversStart (h : [Part.levers] ⊆ ps) :
    Outside ps s t.leversStart ↔ Outside ps s t := outside_iff (State.leversStart_outside t) h

/-- The frame of `State.sectionStarts`. -/
theorem State.sectionStarts_outside (s : State) (x : Nat) : Outside [.sections, .emitted] s (s.sectionStarts x) := by
  unfold State.sectionStarts; dsimp only; split
  all_goals simp
@[simp] theorem State.outside_sectionStarts (x : Nat) (h : [Part.sections, .emitted] ⊆ ps) :
    Outside ps s (t.sectionStarts x) ↔ Outside ps s t := outside_iff (State.sectionStarts_outside t x) h

/-- The frame of `State.sectionsStart`. -/
theorem State.sectionsStart_outside (s : State) : Outside [.sections, .emitted] s s.sectionsStart := by
  unfold State.sectionsStart; simp
@[simp] theorem State.outside_sectionsStart (h : [Part.sections, .emitted] ⊆ ps) :
    Outside ps s t.sectionsStart ↔ Outside ps s t := outside_iff (State.sectionsStart_outside t) h

/-- The frame of `State.bellStarts`. -/
theorem State.bellStarts_outside (s : State) (l : Nat) : Outside [.bells] s (s.bellStarts l) := by
  unfold State.bellStarts; simp
@[simp] theorem State.outside_bellStarts (l : Nat) (h : [Part.bells] ⊆ ps) :
    Outside ps s (t.bellStarts l) ↔ Outside ps s t := outside_iff (State.bellStarts_outside t l) h

/-- The frame of `State.bellsStart`. -/
theorem State.bellsStart_outside (s : State) : Outside [.bells] s s.bellsStart := by
  unfold State.bellsStart; simp
@[simp] theorem State.outside_bellsStart (h : [Part.bells] ⊆ ps) :
    Outside ps s t.bellsStart ↔ Outside ps s t := outside_iff (State.bellsStart_outside t) h

/-- The frame of `State.panelStarts`. -/
theorem State.panelStarts_outside (s : State) : Outside [.flasher, .sounder] s s.panelStarts := by
  unfold State.panelStarts; dsimp only; split
  all_goals simp
@[simp] theorem State.outside_panelStarts (h : [Part.flasher, .sounder] ⊆ ps) :
    Outside ps s t.panelStarts ↔ Outside ps s t := outside_iff (State.panelStarts_outside t) h

/-- What the rules of the units at the end of a start interval may change. -/
def startParts : List Part :=
  [.tracks, .box, .set, .sections, .levers, .holds, .bells, .flasher, .sounder, .emitted]

/-- The frame of `State.unitsStart`. -/
theorem State.unitsStart_outside (s : State) : Outside startParts s s.unitsStart := by
  unfold State.unitsStart; split
  all_goals simp [startParts]

/-- The frame of `State.intervalEnds`. -/
theorem State.intervalEnds_outside (s : State) :
    Outside (.mode :: .choices :: startParts) s s.intervalEnds := by
  unfold State.intervalEnds
  dsimp only
  generalize hm : s.putControl _ = m
  have h0 : Outside (.mode :: .choices :: startParts) s m := by subst hm; simp [startParts]
  have h1 : Outside (.mode :: .choices :: startParts) m m.unitsStart.settle :=
    ((State.unitsStart_outside m).mono (by simp)).trans ((State.settle_outside _).mono (by simp [startParts]))
  refine h0.trans (h1.trans fun p hp => ?_)
  cases p <;> simp_all [Part.Same, startParts]

/-! ### What a command can do -/

/-- What an event changes that reaches no track, no mode, no configuration item, no persistent counter and no supply. -/
def quietParts : List Part :=
  [.levers, .set, .holds, .sections, .bells, .register, .alerts, .sounder, .lampTest, .pulses, .flasher, .assembler,
    .slot, .outbox, .transmitter, .linkCounts, .after, .box, .clock, .choices, .emitted]

/-- What a command does to a powered part whose terminals have followed it, before its notices are placed: the events of
the tracks, of the start interval and of the resets, a count of a forced movement, the ways of a request, and events that
change the quiet parts alone. -/
inductive Handler : (State → State) → Prop
  | quiet {f : State → State} (h : ∀ s, Outside quietParts s (f s)) : Handler f
  | relayDrops (t : Nat) : Handler (State.relayDrops t)
  | relayPicksUp (t : Nat) : Handler (State.relayPicksUp t)
  | pickUpExpires (t : Nat) : Handler (State.pickUpExpires t)
  | graceExpires (r : Nat) : Handler (State.graceExpires r)
  | detectorOpens (n : Nat) : Handler (State.detectorOpens n)
  | intervalEnds : Handler fun s => if s.intervalOver then s.intervalEnds else s
  | resetLineReset : Handler State.resetLineReset
  | resetLineReleased : Handler State.resetLineReleased
  | restartReset : Handler State.restartReset
  | storeWriteEnds : Handler State.storeWriteEnds
  | submit (tag : Byte) (r : Request) : Handler (State.submit tag r)
  | byteArrives (b : Byte) (framingError : Bool) : Handler (State.byteArrives b framingError)
  | frameGoes : Handler State.frameGoes

/-- What a command can make of a state. -/
inductive Ran (s : State) : State → Prop
  /-- Only time and the terminals move: the part has no supply, or its terminals stay. -/
  | passes (tm : Time) (i : Inputs) (h : s.powered = false ∨ i = s.inputs) : Ran s ((s.advance tm).putInputs i)
  | handled (tm : Time) (i : Inputs) {f : State → State} (hf : Handler f) (h : s.powered = true) :
    Ran s (f ((s.advance tm).putInputs i)).close
  | powersUp (tm : Time) (h : s.powered = false) : Ran s (s.advance tm).powerUp
  | restored (tm : Time) (h : s.powered = true) : Ran s ((s.advance tm).powerLost none).powerUp
  | lost (tm : Time) (cut : Option CounterCut) (h : s.powered = true) : Ran s ((s.advance tm).powerLost cut)

theorem ran_event (tm : Time) {f : State → State} (hf : Handler f) : Ran s (s.event tm f) := by
  unfold State.event; dsimp only; split
  · next h => exact .handled tm s.inputs hf h
  · next h => exact .passes tm s.inputs (.inr rfl)

theorem ran_terminal (tm : Time) (i : Inputs → Inputs) {f : State → State} (hf : Handler f) :
    Ran s (s.terminal tm i f) := by
  unfold State.terminal; dsimp only; split
  · exact .passes tm s.inputs (.inr rfl)
  · split
    · next h => exact .handled tm (i s.inputs) hf h
    · next h => exact .passes tm (i s.inputs) (.inl (by simpa using h))

/-- Every command answers a next state, and in one of the ways of `Ran`. -/
theorem exec_ran (c : Instr) (s : State) : ∃ u, exec c s = .next u ∧ Ran s u := by
  cases c with
  | powerOn tm =>
    refine ⟨_, rfl, ?_⟩
    split
    · next h => exact .restored tm h
    · next h => exact .powersUp tm (by simpa using h)
  | lossOfPower tm cut =>
    refine ⟨_, rfl, ?_⟩
    split
    · next h => exact .lost tm cut h
    · exact .passes tm s.inputs (.inr rfl)
  | trackRelayDrop tm t => exact ⟨_, rfl, ran_terminal tm _ (.relayDrops t)⟩
  | trackRelayPickUp tm t => exact ⟨_, rfl, ran_terminal tm _ (.relayPicksUp t)⟩
  | pickUpTimerExpiry tm t => exact ⟨_, rfl, ran_event tm (.pickUpExpires t)⟩
  | headGraceExpiry tm r => exact ⟨_, rfl, ran_event tm (.graceExpires r)⟩
  | detectorOpen tm n side => exact ⟨_, rfl, ran_terminal tm _ (.detectorOpens n)⟩
  | startIntervalEnd tm => exact ⟨_, rfl, ran_event tm .intervalEnds⟩
  | resetLineLow tm => exact ⟨_, rfl, ran_terminal tm _ .resetLineReset⟩
  | resetLineRelease tm => exact ⟨_, rfl, ran_terminal tm _ .resetLineReleased⟩
  | restartReset tm => exact ⟨_, rfl, ran_event tm .restartReset⟩
  | storeWriteCompleted tm => exact ⟨_, rfl, ran_event tm .storeWriteEnds⟩
  | byteReceived tm b e => exact ⟨_, rfl, ran_event tm (.byteArrives b e)⟩
  | frameSent tm => exact ⟨_, rfl, ran_event tm .frameGoes⟩
  | technicianKeyChange tm on => exact ⟨_, rfl, ran_terminal tm _ (.quiet fun s => by simp)⟩
  | catchLift | catchLower | detectorMake | instrumentSwitchMove | blockLineChange | bellInputOn | bellInputOff =>
    exact ⟨_, rfl, ran_terminal _ _ (.quiet fun s => by simp [quietParts])⟩
  | storeWrite | clockSecond | travelTimerExpiry | timeReleaseTimerExpiry | readyWindowLapse | stabilityTimerExpiry
  | strokeTestExpiry | relayOutputOff | endGapExpiry | sendStrokeStart | sendStrokeEnd | plungerPress | plungerRelease
  | plungerOutputTimerExpiry | repetitionDeadlineExpiry | owedReminderExpiry | pendingThroughCodeExpiry
  | flasherHalf | pulseTimerExpiry | lampTestTimerExpiry | sounderPatternTimer | frameGapTimeout =>
    exact ⟨_, rfl, ran_event _ (.quiet fun s => by simp [quietParts])⟩
  | _ => exact ⟨_, rfl, ran_event _ (.submit _ _)⟩

/-- A step idles, or takes the command at the front of the queue. -/
theorem step_ran (h : step s = .next u) : u = s ∨ ∃ rest, Ran { s with pending := rest } u := by
  unfold step at h
  split at h
  · exact .inl (Host.Outcome.next.inj h).symm
  · next c rest _ =>
    obtain ⟨v, hv, hr⟩ := exec_ran c { s with pending := rest }
    obtain rfl : v = u := Host.Outcome.next.inj (hv.symm.trans h)
    exact .inr ⟨rest, hr⟩

end Sys2Proof.Machine

namespace Sys2Proof.Machine

variable {ps : List Part} {s t u : State}

/-! ### Persistent counters (R194) -/

/-- Both copies of a counter hold one value with a good check (R194). -/
def PCounter.Good (c : PCounter) : Prop := c = ⟨some c.value, some c.value⟩

theorem PCounter.good_of_copies (v : Nat) : PCounter.Good ⟨some v, some v⟩ := by simp [PCounter.Good, PCounter.value]

theorem PCounter.value_of_copies (v : Nat) : PCounter.value ⟨some v, some v⟩ = v := by simp [PCounter.value]

theorem le_satAdd (top n : Nat) : n ≤ satAdd top n := by unfold satAdd; split <;> omega

theorem PCounter.increment_good (c : PCounter) : c.increment.Good := good_of_copies _

theorem PCounter.value_le_increment (c : PCounter) : c.value ≤ c.increment.value := by
  rw [PCounter.increment, value_of_copies]; exact le_satAdd ..

theorem PCounter.repaired_good (c : PCounter) : c.repaired.Good := good_of_copies _

@[simp] theorem PCounter.repaired_value (c : PCounter) : c.repaired.value = c.value := value_of_copies _

/-- A copy that a loss of power leaves bad never lowers the value of a counter whose copies were good. -/
theorem PCounter.Good.value_le_cut {c : PCounter} (h : c.Good) (second : Bool) : c.value ≤ (c.cut second).value := by
  unfold PCounter.cut; split
  · exact le_satAdd ..
  · rw [PCounter.Good] at h
    rw [h]; simp [PCounter.value]

/-- A counter that the part does not have reads as a good 0. -/
theorem Store.counter_out (c : Store) {k : CounterName} (h : k.wellFormed = false) : c.counter k = {} := by
  cases k <;>
    exact Tab.get_out _ _ (by simpa [CounterName.wellFormed, isLever, isTrack] using h)

theorem Store.counter_putCounter (c : Store) (k j : CounterName) (p : PCounter) :
    (c.putCounter k p).counter j = if j = k ∧ k.wellFormed = true then p else c.counter j := by
  cases k <;> cases j <;>
    simp [Store.putCounter, Store.counter, Tab.get_put, CounterName.wellFormed, isLever, isTrack]

@[simp] theorem Store.counter_loaded (c : Store) (k : CounterName) : c.loaded.counter k = c.counter k := by
  cases k <;> rfl

theorem Store.counter_atPowerOn (c : Store) (k : CounterName) : c.atPowerOn.counter k = (c.counter k).repaired := by
  cases k <;> exact Tab.get_mapAll PCounter.repaired _ {} _

/-- The counters agree when every counter by name has good copies, for those the part has not are good as they read. -/
theorem State.countersAgree_iff : s.CountersAgree ↔ (s.powered = true → ∀ k, (s.store.counter k).Good) := by
  constructor
  · intro h hp k
    obtain ⟨hl, hm⟩ := h hp
    by_cases hk : k.wellFormed = true
    · cases k <;> simp only [CounterName.wellFormed, isLever, isTrack, Bool.and_eq_true, decide_eq_true_eq] at hk
      · exact (hl _ (Tab.mem_numbers.2 hk)).1
      · exact (hl _ (Tab.mem_numbers.2 hk)).2
      · exact hm _ (Tab.mem_numbers.2 hk)
    · rw [Store.counter_out _ (by simpa using hk)]; rfl
  · exact fun h hp => ⟨fun n _ => ⟨h hp _, h hp _⟩, fun t _ => h hp _⟩

/-! ### Events count upwards (R10, R25, R62, R194) -/

/-- From `s` to `u` no counter goes down, and one with good copies keeps them good. -/
structure State.CountsUp (s u : State) : Prop where
  value_le : ∀ k, (s.store.counter k).value ≤ (u.store.counter k).value
  good : ∀ k, (s.store.counter k).Good → (u.store.counter k).Good

theorem State.CountsUp.of_counter_eq (h : ∀ k, u.store.counter k = s.store.counter k) : s.CountsUp u :=
  ⟨fun k => by rw [h k], fun k => by rw [h k]; exact id⟩

theorem State.CountsUp.of_store_eq (h : u.store = s.store) : s.CountsUp u :=
  .of_counter_eq fun k => congrArg (fun c => Store.counter c k) h

theorem State.CountsUp.refl (s : State) : s.CountsUp s := .of_store_eq rfl

theorem State.CountsUp.trans (h : s.CountsUp t) (k : t.CountsUp u) : s.CountsUp u :=
  ⟨fun c => (h.value_le c).trans (k.value_le c), fun c hg => k.good c (h.good c hg)⟩

theorem State.CountsUp.after (h : t.CountsUp u) (hs : t.store = s.store) : s.CountsUp u := (of_store_eq hs).trans h

theorem State.CountsUp.before (h : s.CountsUp t) (hs : u.store = t.store) : s.CountsUp u := h.trans (of_store_eq hs)

/-- A frame without the counters counts nothing. -/
theorem Outside.countsUp (h : Outside ps s u) (hc : .counters ∉ ps) : s.CountsUp u := .of_counter_eq (h.counter_eq hc)

/-- An operation that counts nothing, after others. -/
theorem State.CountsUp.outside (k : Outside ps t u) (hc : .counters ∉ ps) (h : s.CountsUp t) : s.CountsUp u :=
  h.trans (k.countsUp hc)

theorem State.CountsUp.foldl {α : Type} {f : State → α → State} (hf : ∀ (v : State) a, v.CountsUp (f v a)) {l : List α}
    (h : s.CountsUp t) : s.CountsUp (l.foldl f t) := by
  induction l generalizing t with
  | nil => exact h
  | cons a l ih => exact ih (h.trans (hf t a))

theorem State.countsUp_count (k : CounterName) (s : State) : s.CountsUp (s.count k) := by
  have hk (j : CounterName) : (s.count k).store.counter j =
      if j = k ∧ k.wellFormed = true then (s.store.counter k).increment else s.store.counter j :=
    Store.counter_putCounter ..
  constructor <;> intro j <;> rw [hk] <;> split
  · next h => rw [h.1]; exact PCounter.value_le_increment _
  · exact le_rfl
  · exact fun _ => PCounter.increment_good _
  · exact id

theorem State.countsUp_countMark (t : Nat) (present : Bool) (s : State) : s.CountsUp (s.countMark t present) := by
  unfold State.countMark; split
  · exact .refl s
  · exact State.countsUp_count _ s

theorem State.countsUp_flicker (t : Nat) (s : State) : s.CountsUp (s.flicker t) := by
  unfold State.flicker; dsimp only
  repeat' split
  case h_3.isTrue.isTrue =>
    exact .outside (State.raise_outside _ _ _) (by decide) (.outside (State.emit_outside _ _ _ _) (by decide)
      ((State.countsUp_countMark t _ (s.putTrack t _)).after rfl))
  all_goals exact .of_store_eq rfl

theorem State.countsUp_relayDrops (t : Nat) (s : State) : s.CountsUp (s.relayDrops t) := by
  unfold State.relayDrops; split
  · split
    · exact (State.occupationStarts_outside t s).countsUp (by decide)
    · exact State.countsUp_flicker t s
    · exact .refl s
  · exact .refl s

theorem State.countsUp_suspectRequest (t : Nat) (s : State) : s.CountsUp (s.suspectRequest t) := by
  unfold State.suspectRequest; dsimp only
  split
  · have marked : s.CountsUp (((s.putTrack t { s.track t with suspect := true }).countMark t false).emit
        .trackSuspect t []) :=
      .outside (State.emit_outside _ _ _ _) (by decide)
        ((State.countsUp_countMark t false (s.putTrack t _)).after rfl)
    split
    · exact .outside (State.becomesOccupied_outside t _) (by decide) marked
    · exact marked
  · exact .refl s

theorem State.countsUp_graceExpires (r : Nat) (s : State) : s.CountsUp (s.graceExpires r) := by
  unfold State.graceExpires; dsimp only
  split
  · split
    · refine .outside (State.settle_outside _) (by decide) (.outside (State.emit_outside _ _ _ _) (by decide) (.foldl ?_ ?_))
      · exact fun v n => State.countsUp_suspectRequest n v
      · exact .outside (State.raise_outside _ _ _) (by decide) (.of_store_eq rfl)
    · exact .refl s
  · exact .refl s

theorem State.countsUp_forcedMovement (n : Nat) (s : State) : s.CountsUp (s.forcedMovement n) :=
  .outside (State.emit_outside _ _ _ _) (by decide) (.outside (State.raise_outside _ _ _) (by decide)
    ((State.countsUp_count (.forced n) (s.putLever n (s.lever n).toFault)).after rfl))

theorem State.countsUp_detectorOpens (n : Nat) (s : State) : s.CountsUp (s.detectorOpens n) := by
  have forced := State.CountsUp.outside (State.settle_outside _) (by decide) (State.countsUp_forcedMovement n s)
  unfold State.detectorOpens; dsimp only
  split
  · exact (State.derive_outside n s).countsUp (by decide)
  · split
    · exact forced
    · exact forced
    · exact forced
    · exact forced
    · exact (State.moveLever_outside _ _ _ _ _ _).countsUp (by decide)
    · exact (State.moveLever_outside _ _ _ _ _ _).countsUp (by decide)
    · exact (State.tryEnd_outside n s).countsUp (by decide)
    · exact (State.tryEnd_outside n s).countsUp (by decide)

theorem State.countsUp_timeReleaseConfirm (n : Nat) (s : State) : s.CountsUp (s.timeReleaseConfirm n).2.2 := by
  unfold State.timeReleaseConfirm
  repeat' split
  case h_2.isTrue =>
    exact .outside (State.settle_outside _) (by decide)
      (((State.removeHold_outside n .timeRelease s).countsUp (by decide)).trans (State.countsUp_count (.release n) _))
  all_goals exact .refl s

/-- TIME_RELEASE_CONFIRM alone of the requests counts (R62). -/
theorem State.countsUp_own (r : Request) (s : State) : s.CountsUp (s.own r).2.2 := by
  cases r with
  | timeReleaseConfirm n => exact State.countsUp_timeReleaseConfirm n.toNat s
  | _ =>
    refine Outside.countsUp (ps := [.tracks, .mode, .configuration] ++ quietParts) ?_ (by decide)
    simp only [State.own, State.readOut]
    try split
    all_goals simp [quietParts]

theorem State.countsUp_serve (r : Request) (s : State) : s.CountsUp (s.serve r).2.2 := by
  unfold State.serve; split
  · exact .refl s
  · exact State.countsUp_own r s

theorem State.countsUp_takeNext (s : State) : s.CountsUp s.takeNext := by
  unfold State.takeNext; dsimp only
  split
  · exact .refl s
  · split
    · exact .refl s
    · next q rest _ =>
      exact .before (.after (State.countsUp_serve q.request (s.putLink { s.link with queue := rest })) rfl)
        (State.putLink_store ..)

theorem State.countsUp_submit (tag : Byte) (r : Request) (s : State) : s.CountsUp (s.submit tag r) := by
  unfold State.submit; split
  · exact .refl s
  · exact .trans ((State.enqueue_outside ⟨tag, r⟩ s).countsUp (by decide)) (State.countsUp_takeNext _)

theorem State.countsUp_byteArrives (b : Byte) (e : Bool) (s : State) : s.CountsUp (s.byteArrives b e) := by
  have ends : s.CountsUp (s.frameEnds b) := by
    unfold State.frameEnds; dsimp only
    repeat' split
    case h_1.isTrue =>
      exact (State.countsUp_submit _ _ (s.putLink s.link.hunt)).after rfl
    all_goals exact .of_store_eq rfl
  unfold State.byteArrives State.assemble; dsimp only
  repeat' split
  case h_6.isFalse => exact ends
  all_goals exact .of_store_eq rfl

theorem State.countsUp_frameGoes (s : State) : s.CountsUp s.frameGoes := by
  unfold State.frameGoes; split
  · exact .refl s
  · exact (State.countsUp_takeNext (s.putLink { s.link with slot := none, tx := .idle })).after rfl
  · exact .of_store_eq rfl

/-! ### Resets keep the counters (R194, R195) -/

theorem State.warmRestart_counter (c : ResetCause) (old : Conf) (s : State) (k : CounterName) :
    (s.warmRestart c old).store.counter k = s.store.counter k := Store.counter_loaded s.store k

theorem State.cutStoreWrite_counter (s : State) (k : CounterName) :
    s.cutStoreWrite.store.counter k = s.store.counter k := by
  unfold State.cutStoreWrite; split <;> cases k <;> rfl

theorem State.powerUp_counter (s : State) (k : CounterName) :
    s.powerUp.store.counter k = (s.store.counter k).repaired := Store.counter_atPowerOn s.store k

theorem State.countsUp_powerUp (s : State) : s.CountsUp s.powerUp :=
  ⟨fun k => by rw [s.powerUp_counter k, PCounter.repaired_value],
    fun k _ => by rw [s.powerUp_counter k]; exact PCounter.repaired_good _⟩

/-- A loss of power that cuts no counter copy short keeps every counter. -/
theorem State.powerLost_none_counter (s : State) (k : CounterName) :
    (s.powerLost none).store.counter k = s.store.counter k :=
  .trans (by cases k <;> rfl) (s.cutStoreWrite_counter k)

/-- A loss of power lowers no counter whose copies are good. -/
theorem State.value_le_powerLost (cut : Option CounterCut) (s : State) (hg : ∀ k, (s.store.counter k).Good)
    (k : CounterName) : (s.store.counter k).value ≤ ((s.powerLost cut).store.counter k).value := by
  cases cut with
  | none => rw [s.powerLost_none_counter k]
  | some c =>
    have hc : (s.powerLost (some c)).store.counter k =
        (s.cutStoreWrite.store.putCounter c.counter
          ((s.cutStoreWrite.store.counter c.counter).cut c.second)).counter k := by cases k <;> rfl
    rw [hc, Store.counter_putCounter, s.cutStoreWrite_counter, s.cutStoreWrite_counter]
    split
    · next h => rw [h.1]; exact (hg _).value_le_cut _
    · exact le_rfl

/-! ### Every step keeps the counters -/

/-- Every event of a powered part counts upwards. -/
theorem Handler.countsUp {f : State → State} (hf : Handler f) (s : State) : s.CountsUp (f s) := by
  cases hf with
  | quiet h => exact (h s).countsUp (by decide)
  | relayDrops t => exact State.countsUp_relayDrops t s
  | relayPicksUp t => exact (State.relayPicksUp_outside t s).countsUp (by decide)
  | pickUpExpires t => exact (State.pickUpExpires_outside t s).countsUp (by decide)
  | graceExpires r => exact State.countsUp_graceExpires r s
  | detectorOpens n => exact State.countsUp_detectorOpens n s
  | intervalEnds =>
    dsimp only; split
    · exact s.intervalEnds_outside.countsUp (by decide)
    · exact .refl s
  | resetLineReset =>
    exact .of_counter_eq fun k => (State.warmRestart_counter _ _ _ k).trans (s.cutStoreWrite_counter k)
  | resetLineReleased => unfold State.resetLineReleased; split <;> exact .of_store_eq rfl
  | restartReset =>
    unfold State.restartReset; split
    · exact .of_counter_eq (State.warmRestart_counter _ _ s)
    · exact .refl s
  | storeWriteEnds =>
    unfold State.storeWriteEnds; split
    · exact .of_counter_eq fun k => (State.warmRestart_counter _ _ _ k).trans (by cases k <;> rfl)
    · exact .refl s
  | submit tag r => exact State.countsUp_submit tag r s
  | byteArrives b e => exact State.countsUp_byteArrives b e s
  | frameGoes => exact State.countsUp_frameGoes s

/-- Every command keeps the counters (R194). -/
theorem Ran.keepsCounters (h : Ran s u) (hs : s.CountersAgree) :
    u.CountersAgree ∧ ∀ k, (s.store.counter k).value ≤ (u.store.counter k).value := by
  rw [State.countersAgree_iff] at *
  cases h with
  | passes tm i h => exact ⟨hs, fun _ => le_rfl⟩
  | handled tm i hf hp =>
    have hclose := (hf.countsUp ((s.advance tm).putInputs i)).outside (State.close_outside _) (by decide)
    exact ⟨fun _ k => hclose.good k (hs hp k), hclose.value_le⟩
  | powersUp tm hp =>
    exact ⟨fun _ k => by rw [State.powerUp_counter]; exact PCounter.repaired_good _, (s.advance tm).countsUp_powerUp.value_le⟩
  | restored tm hp =>
    refine ⟨fun _ k => by rw [State.powerUp_counter]; exact PCounter.repaired_good _, fun k => ?_⟩
    rw [State.powerUp_counter, State.powerLost_none_counter, PCounter.repaired_value]
    exact le_rfl
  | lost tm cut hp => exact ⟨fun hu => absurd hu (by simp [State.powerLost]), (s.advance tm).value_le_powerLost cut (hs hp)⟩

/-- Settles O10: a step idles or runs a command, and every command counts upwards, a loss of power included. -/
theorem stepKeepsCounters : Obligations.StepKeepsCounters := by
  intro s u hs h
  obtain rfl | ⟨rest, hr⟩ := step_ran h
  · exact ⟨hs, fun _ => le_rfl⟩
  · exact hr.keepsCounters hs

end Sys2Proof.Machine

namespace Sys2Proof.Machine

variable {ps : List Part} {s t u : State}

/-! ### Tracks (R3, R7, R8) -/

/-- What `State.TracksKept` asks of the content `k` of track `t`. -/
structure State.TrackKept (s : State) (t : Nat) (k : Track) : Prop where
  timer : k.timer.isSome = true ↔ k.filter = .picking
  limit : ∀ e ∈ (s.conf.track t).flicker.limit?, k.flickers ≤ e ∧ (k.flickers = e → k.failed = true)
  start : s.control.mode = .start → k.flickers = 0
  unfitted : s.conf.fitted t = false → k.filter = .occupied ∧ k.flickers = 0 ∧ (s.live = true → k.marked = false)

theorem State.tracksKept_iff : s.TracksKept ↔ ∀ t ∈ Tab.numbers 16, s.TrackKept t (s.track t) :=
  ⟨fun h t ht => by
    obtain ⟨htimer, hlimit, hstart, hunfitted⟩ := h t ht
    exact ⟨htimer, hlimit, hstart, hunfitted⟩,
    fun h t ht => ⟨(h t ht).timer, (h t ht).limit, (h t ht).start, (h t ht).unfitted⟩⟩

/-- A state that holds the same of its tracks asks no more of them where it is in START or works only if `s` is and
does. -/
theorem State.TracksKept.of_eq (h : s.TracksKept) (ht : u.tracks = s.tracks) (hc : u.conf = s.conf)
    (hm : u.control.mode = .start → s.control.mode = .start) (hl : u.live = true → s.live = true) : u.TracksKept := by
  rw [State.tracksKept_iff] at *
  intro n hn
  obtain ⟨htimer, hlimit, hstart, hunfitted⟩ := h n hn
  have htn : u.track n = s.track n := congrArg (fun l : Tab 16 Track => l.get {} n) ht
  rw [htn]
  refine ⟨htimer, hc ▸ hlimit, fun hu => hstart (hm hu), fun hf => ?_⟩
  obtain ⟨hfilter, hflickers, hmarked⟩ := hunfitted (hc ▸ hf)
  exact ⟨hfilter, hflickers, fun hu => hmarked (hl hu)⟩

theorem State.live_of_mode_eq (h : u.control.mode = s.control.mode) : u.live = s.live := by
  simp only [State.live, h]

/-- A frame without the tracks, the mode and the configuration keeps the tracks. -/
theorem State.TracksKept.outside (k : Outside ps s u) (hp : .tracks ∉ ps ∧ .mode ∉ ps ∧ .configuration ∉ ps)
    (h : s.TracksKept) : u.TracksKept := by
  have hm := k.mode_eq hp.2.1
  exact h.of_eq (k.tracks_eq hp.1) (k.conf_eq hp.2.2) (fun hu => hm ▸ hu) (fun hu => State.live_of_mode_eq hm ▸ hu)

/-- A track is replaced by one that is kept. -/
theorem State.TracksKept.putTrack {k : Track} {n : Nat} (h : s.TracksKept)
    (hk : n ∈ Tab.numbers 16 → s.TrackKept n (s.track n) → s.TrackKept n k) : (s.putTrack n k).TracksKept := by
  rw [State.tracksKept_iff] at *
  intro j hj
  rw [State.track_putTrack]
  split
  · next e =>
    obtain ⟨rfl, he⟩ := e
    obtain ⟨htimer, hlimit, hstart, hunfitted⟩ := hk (Tab.mem_numbers.2 he) (h j hj)
    exact ⟨htimer, hlimit, hstart, hunfitted⟩
  · obtain ⟨htimer, hlimit, hstart, hunfitted⟩ := h j hj
    exact ⟨htimer, hlimit, hstart, hunfitted⟩

theorem State.TracksKept.foldl {α : Type} {f : State → α → State} (hf : ∀ (v : State) a, v.TracksKept → (f v a).TracksKept)
    {l : List α} (h : s.TracksKept) : (l.foldl f s).TracksKept := by
  induction l generalizing s with
  | nil => exact h
  | cons a l ih => exact ih (hf s a h)

/-! ### The events of the tracks -/

theorem State.filtering_iff (n : Nat) : s.filtering n = true ↔ s.live = true ∧ s.conf.fitted n = true := by
  simp [State.filtering]

theorem State.mode_ne_start_of_live (h : s.live = true) : s.control.mode ≠ .start := fun e => by
  simp [State.live, e] at h

/-- Every mode limits the flickers to at least one. -/
theorem FlickerMode.pos_of_mem_limit? {f : FlickerMode} {e : Nat} (h : e ∈ f.limit?) : 0 < e := by
  cases f with
  | off => cases h
  | each => cases h
  | limit k => cases h; exact Nat.two_pow_pos k

theorem State.occupationStarts_keepsTracks (n : Nat) (hs : s.TracksKept) (hf : s.filtering n = true)
    (hc : (s.track n).filter = .clear) : (s.occupationStarts n).TracksKept := by
  obtain ⟨hlive, hfit⟩ := (State.filtering_iff n).1 hf
  have h0 : (s.putTrack n { s.track n with filter := .occupied }).TracksKept := by
    refine hs.putTrack fun _ hk => ⟨?_, hk.limit, hk.start, fun hu => by simp [hfit] at hu⟩
    simpa [hc] using hk.timer
  refine h0.outside (ps := quietParts) ?_ (by decide)
  unfold State.occupationStarts; dsimp only
  repeat' split
  all_goals simp [quietParts]

theorem State.flicker_keepsTracks (n : Nat) (hs : s.TracksKept) (hf : s.filtering n = true) : (s.flicker n).TracksKept := by
  obtain ⟨hlive, hfit⟩ := (State.filtering_iff n).1 hf
  have put (k : Track) (ht : k.timer = none) (ho : k.filter = .occupied)
      (hl : s.TrackKept n (s.track n) → ∀ e ∈ (s.conf.track n).flicker.limit?, k.flickers ≤ e ∧
        (k.flickers = e → k.failed = true)) : (s.putTrack n k).TracksKept :=
    hs.putTrack fun _ hk => ⟨by simp [ht, ho], hl hk, fun hm => absurd hm (State.mode_ne_start_of_live hlive),
      fun hu => by simp [hfit] at hu⟩
  unfold State.flicker; dsimp only
  split
  · exact put _ rfl rfl fun hk => hk.limit
  · next hmode =>
    exact (put _ rfl rfl fun _ => by simp [hmode, FlickerMode.limit?]).outside (State.emit_outside _ _ _ _) (by decide)
  · next e hmode =>
    split
    · next hlt =>
      split
      · next heq =>
        refine .outside (State.raise_outside _ _ _) (by decide) (.outside (State.emit_outside _ _ _ _) (by decide)
          (.outside (State.countMark_outside n _ _) (by decide) (put _ rfl rfl fun _ => ?_)))
        simpa [hmode, FlickerMode.limit?] using heq.le
      · next hne =>
        refine put _ rfl rfl fun _ => ?_
        simpa [hmode, FlickerMode.limit?, hne] using hlt
    · exact put _ rfl rfl fun hk => hk.limit

theorem State.relayDrops_keepsTracks (n : Nat) (hs : s.TracksKept) : (s.relayDrops n).TracksKept := by
  unfold State.relayDrops; split
  · next hf =>
    split
    · next hc => exact State.occupationStarts_keepsTracks n hs hf hc
    · exact State.flicker_keepsTracks n hs hf
    · exact hs
  · exact hs

theorem State.beginPicking_keepsTracks (n : Nat) (hs : s.TracksKept) (hfit : s.conf.fitted n = true) :
    (s.beginPicking n).TracksKept :=
  hs.putTrack fun _ hk => ⟨by simp, hk.limit, hk.start, fun hu => by simp [hfit] at hu⟩

theorem State.relayPicksUp_keepsTracks (n : Nat) (hs : s.TracksKept) : (s.relayPicksUp n).TracksKept := by
  unfold State.relayPicksUp; split
  · next h =>
    simp only [Bool.and_eq_true, State.filtering_iff] at h
    exact State.beginPicking_keepsTracks n hs h.1.2
  · exact hs

/-- A count that goes back to 0 is within every limit (R6, R12, R16). -/
theorem State.trackKept_of_no_flickers {n : Nat} {k : Track} (ht : k.timer.isSome = true ↔ k.filter = .picking)
    (h0 : k.flickers = 0) (hu : s.conf.fitted n = false → k.filter = .occupied ∧ (s.live = true → k.marked = false)) :
    s.TrackKept n k where
  timer := ht
  limit e he := by
    have := FlickerMode.pos_of_mem_limit? he
    exact ⟨by omega, fun h => by omega⟩
  start _ := h0
  unfitted h := ⟨(hu h).1, h0, (hu h).2⟩

theorem State.pickUpExpires_keepsTracks (n : Nat) (hs : s.TracksKept) : (s.pickUpExpires n).TracksKept := by
  unfold State.pickUpExpires; dsimp only
  split
  · next h =>
    simp only [Bool.and_eq_true, State.filtering_iff] at h
    have h0 : (s.putTrack n { s.track n with filter := .clear, timer := none, flickers := 0 }).TracksKept :=
      hs.putTrack fun _ hk => State.trackKept_of_no_flickers (by simp) rfl fun hu => by simp [h.1.1.2] at hu
    split
    · exact h0
    · exact h0.outside (ps := quietParts) (by simp [quietParts]) (by decide)
  · exact hs

theorem State.suspectRequest_keepsTracks (n : Nat) (hs : s.TracksKept) : (s.suspectRequest n).TracksKept := by
  unfold State.suspectRequest; dsimp only
  split
  · next h =>
    simp only [Bool.and_eq_true] at h
    have h0 : (s.putTrack n { s.track n with suspect := true }).TracksKept :=
      hs.putTrack fun _ hk => ⟨hk.timer, hk.limit, hk.start, fun hu => by simp [h.1] at hu⟩
    split <;> exact h0.outside (ps := .counters :: quietParts) (by simp [quietParts]) (by decide)
  · exact hs

theorem State.trackRestore_keepsTracks (n : Nat) (hs : s.TracksKept) : (s.trackRestore n).2.2.TracksKept := by
  unfold State.trackRestore; dsimp only
  split
  · next hc =>
    have h0 : (s.putTrack n { s.track n with failed := false, suspect := false, flickers := 0 }).TracksKept := by
      refine hs.putTrack fun _ hk => State.trackKept_of_no_flickers hk.timer rfl fun hu => ?_
      exact absurd (hk.unfitted hu).1 (by simp [hc])
    dsimp only
    split <;> exact h0.outside (ps := quietParts) (by simp [quietParts]) (by decide)
  · exact hs

theorem State.graceExpires_keepsTracks (r : Nat) (hs : s.TracksKept) : (s.graceExpires r).TracksKept := by
  unfold State.graceExpires; dsimp only
  split
  · split
    · refine .outside (State.settle_outside _) (by decide) (.outside (State.emit_outside _ _ _ _) (by decide)
        (.foldl (fun v n hv => State.suspectRequest_keepsTracks n hv) ?_))
      exact hs.outside (ps := quietParts) (by simp [quietParts]) (by decide)
    · exact hs
  · exact hs

/-! ### Folds that treat each number once -/

theorem Tab.nodup_numbers (n : Nat) : (Tab.numbers n).Nodup :=
  List.Nodup.map (fun _ _ h => Nat.succ.inj h) List.nodup_range

/-- A fold over different numbers, each of whose steps makes the thing `g` of its own number what `F` says and leaves the
others, and what `F` says of them. -/
theorem foldl_read {β : Type} {f : State → Nat → State} {g F : Nat → State → β} {l : List Nat} (hl : l.Nodup)
    (heq : ∀ a ∈ l, ∀ v, g a (f v a) = F a v) (hne : ∀ v a n, n ≠ a → g n (f v a) = g n v)
    (hF : ∀ v a n, n ≠ a → F n (f v a) = F n v) (v : State) (n : Nat) :
    g n (l.foldl f v) = if n ∈ l then F n v else g n v := by
  induction l generalizing v with
  | nil => simp
  | cons a l ih =>
    obtain ⟨ha, hl⟩ := List.nodup_cons.1 hl
    rw [List.foldl_cons, ih hl fun b hb => heq b (List.mem_cons_of_mem a hb)]
    by_cases hn : n = a
    · subst hn; simp [ha, heq n (List.mem_cons_self ..)]
    · simp [hn, hne v a n hn, hF v a n hn]

/-! ### The modes -/

/-- What the end of a start interval that ends in RUNNING makes of track `n` (R7, R18). -/
def State.trackStarted (s : State) (n : Nat) : Track :=
  if s.conf.fitted n then
    if s.relayPicked n then
      { s.track n with filter := .picking, timer := some (s.now + (s.conf.track n).delay) }
    else s.track n
  else { s.track n with failed := false, suspect := false }

theorem State.trackStarts_eq (s : State) {n : Nat} (hn : n ∈ Tab.numbers 16) :
    (s.trackStarts n).track n = s.trackStarted n := by
  have hn := Tab.mem_numbers.1 hn
  unfold State.trackStarts State.trackStarted State.beginPicking
  repeat' split
  all_goals simp [State.track_putTrack, hn]

theorem State.trackStarts_ne (s : State) {n a : Nat} (h : n ≠ a) : (s.trackStarts a).track n = s.track n := by
  unfold State.trackStarts State.beginPicking
  repeat' split
  all_goals simp [State.track_putTrack, h]

theorem State.tracksStart_track (s : State) {n : Nat} (hn : n ∈ Tab.numbers 16) :
    s.tracksStart.track n = s.trackStarted n := by
  have := foldl_read (f := State.trackStarts) (g := fun n v => v.track n) (F := fun n v => v.trackStarted n)
    (Tab.nodup_numbers 16) (fun a ha v => v.trackStarts_eq ha) (fun v a n h => v.trackStarts_ne h)
    (fun v a n h => ?_) s n
  · exact this.trans (if_pos hn)
  · have hf := v.trackStarts_outside a
    have hin : (v.trackStarts a).relayPicked n = v.relayPicked n := congrArg (fun i => i.relays.get false n) (hf .inputs (by decide))
    simp only [State.trackStarted, v.trackStarts_ne h, hf.conf_eq (by decide), hin,
      show (v.trackStarts a).now = v.now from hf .now (by decide)]

/-- A track that was kept in the start interval is kept as it starts. -/
theorem State.TrackKept.started {n : Nat} (h : s.TrackKept n (s.track n)) (hm : s.control.mode = .start)
    (ht : u.tracks = s.tracks) (hc : u.conf = s.conf) :
    u.TrackKept n (u.trackStarted n) := by
  have htn : u.track n = s.track n := congrArg (fun l : Tab 16 Track => l.get {} n) ht
  have h0 : (s.track n).flickers = 0 := h.start hm
  unfold State.trackStarted
  rw [htn]
  split
  · next hfit =>
    split
    · exact ⟨by simp, hc ▸ h.limit, fun _ => h0, fun hu => by simp [hfit] at hu⟩
    · exact ⟨h.timer, hc ▸ h.limit, fun _ => h0, fun hu => by simp [hfit] at hu⟩
  · next hfit =>
    exact State.trackKept_of_no_flickers h.timer h0 fun hu => ⟨(h.unfitted (hc ▸ hu)).1, fun _ => rfl⟩

/-- The part comes out of the start interval into a mode. -/
def State.entered (m : Mode) (s : State) : State :=
  s.putControl { s.control with mode := m, interval := none, base := s.now }

/-- The notice *started* is put before the notices of the units. -/
def State.startedFirst (s : State) : State := { s with emitted := ⟨.modeStarted, 0, s.startedFields⟩ :: s.emitted }

theorem State.startedFirst_outside (s : State) : Outside [.emitted] s s.startedFirst := by
  intro p hp; cases p <;> simp_all [Part.Same, State.startedFirst]

theorem State.intervalEnds_running (h : s.store.checkGood = true) :
    s.intervalEnds = ((s.entered .running).unitsStart.settle).startedFirst := by
  rw [show s.intervalEnds = ((s.entered (if s.store.checkGood then .running else .held .invalid)).unitsStart.settle
    ).startedFirst from rfl, if_pos h]

theorem State.intervalEnds_invalid (h : s.store.checkGood = false) :
    s.intervalEnds = ((s.entered (.held .invalid)).unitsStart.settle).startedFirst := by
  rw [show s.intervalEnds = ((s.entered (if s.store.checkGood then .running else .held .invalid)).unitsStart.settle
    ).startedFirst from rfl, if_neg (by simp [h])]

theorem State.unitsStart_running (h : s.control.mode = .running) :
    s.unitsStart =
      ((((((s.tracksStart).switchingStarts).leversStart).startUpHolds).sectionsStart).bellsStart).panelStarts :=
  if_pos h

theorem State.unitsStart_invalid (h : s.control.mode = .held .invalid) : s.unitsStart = (s.leversStart).panelStarts :=
  if_neg (by simp [h])

theorem State.tracksStart_keepsTracks (hs : s.TracksKept) (hm : s.control.mode = .start) :
    (s.entered .running).tracksStart.TracksKept := by
  have hf := (s.entered .running).tracksStart_outside
  rw [State.tracksKept_iff] at *
  intro n hn
  rw [State.tracksStart_track _ hn]
  obtain ⟨htimer, hlimit, hstart, hunfitted⟩ := (hs n hn).started (u := s.entered .running) hm rfl rfl
  refine ⟨htimer, ?_, ?_, ?_⟩
  · rwa [hf.conf_eq (by decide)]
  · rwa [hf.mode_eq (by decide)]
  · rwa [hf.conf_eq (by decide), State.live_of_mode_eq (hf.mode_eq (by decide))]

theorem State.intervalEnds_keepsTracks (hs : s.TracksKept) (hm : s.control.mode = .start) : s.intervalEnds.TracksKept := by
  cases hg : s.store.checkGood with
  | true =>
    rw [State.intervalEnds_running hg, State.unitsStart_running rfl]
    refine .outside (State.startedFirst_outside _) (by decide) ?_
    exact (State.tracksStart_keepsTracks hs hm).outside (ps := quietParts) (by simp [quietParts]) (by decide)
  | false =>
    rw [State.intervalEnds_invalid hg, State.unitsStart_invalid rfl]
    have h0 : (s.entered (.held .invalid)).TracksKept :=
      hs.of_eq rfl rfl (fun hu => nomatch hu) fun hu => nomatch hu
    refine .outside (State.startedFirst_outside _) (by decide) ?_
    exact h0.outside (ps := quietParts) (by simp [quietParts]) (by decide)

/-- A part in START whose tracks are all OCCUPIED with timers stopped and no flickers keeps them (R16, R17). -/
theorem State.tracksKept_of_reset (hm : s.control.mode = .start)
    (ht : ∀ n ∈ Tab.numbers 16, (s.track n).filter = .occupied ∧ (s.track n).timer = none ∧ (s.track n).flickers = 0) :
    s.TracksKept := State.tracksKept_iff.2 fun n hn => by
  obtain ⟨hfilter, htimer, hflickers⟩ := ht n hn
  refine State.trackKept_of_no_flickers (by simp [hfilter, htimer]) hflickers fun _ => ⟨hfilter, fun hl => ?_⟩
  exact absurd hm (State.mode_ne_start_of_live hl)

theorem State.warmRestart_track (c : ResetCause) (old : Conf) (s : State) (n : Nat) :
    (s.warmRestart c old).track n = { failed := (s.track n).failed, suspect := (s.track n).suspect } :=
  Tab.get_mapAll (fun k : Track => ({ failed := true && k.failed, suspect := true && k.suspect } : Track)) s.tracks {} n

theorem State.warmRestart_keepsTracks (c : ResetCause) (old : Conf) (s : State) : (s.warmRestart c old).TracksKept :=
  State.tracksKept_of_reset rfl fun n _ => by simp [State.warmRestart_track]

theorem State.powerUp_keepsTracks (s : State) : s.powerUp.TracksKept :=
  State.tracksKept_of_reset rfl fun n _ => by
    rw [show s.powerUp.track n = {} from Tab.get_rep ..]; simp

theorem State.powerLost_keepsTracks (cut : Option CounterCut) (s : State) : (s.powerLost cut).TracksKept :=
  State.tracksKept_of_reset rfl fun n _ => by
    rw [show (s.powerLost cut).track n = {} from Tab.get_rep ..]; simp

/-! ### The requests -/

/-- WRITE_CONFIG writes the working copy alone (R198). -/
theorem State.writeConfig_conf (b : List Byte) (s : State) : (s.writeConfig b).2.2.conf = s.conf := by
  unfold State.writeConfig; repeat' split
  all_goals rfl

theorem State.holdPart_keepsTracks (hs : s.TracksKept) : s.holdPart.2.2.TracksKept := by
  unfold State.holdPart; dsimp only
  split
  · next hm =>
    have h0 : ((s.putControl { s.control with mode := .held .hold }).putStore s.store.loaded).TracksKept :=
      hs.of_eq rfl rfl (fun hu => by simp at hu) (fun _ => by simp [State.live, hm])
    exact h0.outside (ps := quietParts) (by simp [quietParts]) (by decide)
  · exact hs

theorem State.resumePart_keepsTracks (hs : s.TracksKept) : s.resumePart.2.2.TracksKept := by
  unfold State.resumePart
  split
  · next cause hm =>
    split
    · exact hs
    · next hc =>
      split
      · exact hs
      · unfold State.resumePasses; dsimp only
        split
        · exact hs.of_eq rfl rfl id id
        · next hw =>
          have hhold : cause = .hold := by cases cause <;> simp_all
          subst hhold
          have h0 : (s.putControl { s.control with mode := .running }).TracksKept :=
            hs.of_eq rfl rfl (fun hu => by simp at hu) (fun _ => by simp [State.live, hm])
          exact h0.outside (ps := quietParts) (by simp [quietParts]) (by decide)
  · exact hs

/-- Of the requests TRACK_RESTORE alone reaches the tracks, and HOLD and RESUME the mode. -/
theorem State.own_keepsTracks (r : Request) (hs : s.TracksKept) : (s.own r).2.2.TracksKept := by
  cases r with
  | trackRestore n => exact State.trackRestore_keepsTracks n.toNat hs
  | hold => exact State.holdPart_keepsTracks hs
  | resume => exact State.resumePart_keepsTracks hs
  | writeConfig b =>
    have hf := State.writeConfig_outside b s
    have hm := hf.mode_eq (by decide)
    exact hs.of_eq (hf.tracks_eq (by decide)) (s.writeConfig_conf b) (fun hu => hm ▸ hu)
      fun hu => State.live_of_mode_eq hm ▸ hu
  | _ =>
    refine hs.outside (ps := .counters :: quietParts) ?_ (by decide)
    simp only [State.own, State.readOut]
    try split
    all_goals simp [quietParts]

theorem State.takeNext_keepsTracks (hs : s.TracksKept) : s.takeNext.TracksKept := by
  have hserve (r : Request) (v : State) (hv : v.TracksKept) : (v.serve r).2.2.TracksKept := by
    unfold State.serve; split
    · exact hv
    · exact State.own_keepsTracks r hv
  unfold State.takeNext; dsimp only
  split
  · exact hs
  · split
    · exact hs
    · next q rest _ =>
      exact (hserve q.request (s.putLink { s.link with queue := rest }) (hs.of_eq rfl rfl id id)).of_eq
        (State.putLink_tracks ..) rfl id id

theorem State.submit_keepsTracks (tag : Byte) (r : Request) (hs : s.TracksKept) : (s.submit tag r).TracksKept := by
  unfold State.submit; split
  · exact hs
  · exact State.takeNext_keepsTracks (hs.outside (State.enqueue_outside ⟨tag, r⟩ s) (by decide))

theorem State.byteArrives_keepsTracks (b : Byte) (e : Bool) (hs : s.TracksKept) : (s.byteArrives b e).TracksKept := by
  have ends : (s.frameEnds b).TracksKept := by
    unfold State.frameEnds; dsimp only
    repeat' split
    case h_1.isTrue => exact State.submit_keepsTracks _ _ (hs.of_eq rfl rfl id id)
    all_goals exact hs.of_eq rfl rfl id id
  unfold State.byteArrives State.assemble; dsimp only
  repeat' split
  case h_6.isFalse => exact ends
  all_goals exact hs.of_eq rfl rfl id id

theorem State.frameGoes_keepsTracks (hs : s.TracksKept) : s.frameGoes.TracksKept := by
  unfold State.frameGoes; split
  · exact hs
  · exact State.takeNext_keepsTracks (hs.of_eq rfl rfl id id)
  · exact hs.of_eq rfl rfl id id

/-! ### Every step keeps the tracks -/

theorem Handler.keepsTracks {f : State → State} (hf : Handler f) (hs : s.TracksKept) : (f s).TracksKept := by
  cases hf with
  | quiet h => exact hs.outside (h s) (by decide)
  | relayDrops t => exact State.relayDrops_keepsTracks t hs
  | relayPicksUp t => exact State.relayPicksUp_keepsTracks t hs
  | pickUpExpires t => exact State.pickUpExpires_keepsTracks t hs
  | graceExpires r => exact State.graceExpires_keepsTracks r hs
  | detectorOpens n => exact hs.outside (State.detectorOpens_outside n s) (by decide)
  | intervalEnds =>
    dsimp only; split
    · next h => exact State.intervalEnds_keepsTracks hs (by simp_all [State.intervalOver])
    · exact hs
  | resetLineReset => exact State.warmRestart_keepsTracks _ _ _
  | resetLineReleased =>
    unfold State.resetLineReleased; split
    · exact hs.of_eq rfl rfl id id
    · exact hs
  | restartReset =>
    unfold State.restartReset; split
    · exact State.warmRestart_keepsTracks _ _ _
    · exact hs
  | storeWriteEnds =>
    unfold State.storeWriteEnds; split
    · exact State.warmRestart_keepsTracks _ _ _
    · exact hs
  | submit tag r => exact State.submit_keepsTracks tag r hs
  | byteArrives b e => exact State.byteArrives_keepsTracks b e hs
  | frameGoes => exact State.frameGoes_keepsTracks hs

/-- Every command keeps the tracks (R3, R7, R8, R16, R17). -/
theorem Ran.keepsTracks (h : Ran s u) (hs : s.TracksKept) : u.TracksKept := by
  cases h with
  | passes tm i h => exact hs.of_eq rfl rfl id id
  | handled tm i hf hp =>
    have h0 : ((s.advance tm).putInputs i).TracksKept := hs.of_eq rfl rfl id id
    exact (hf.keepsTracks h0).outside (State.close_outside _) (by decide)
  | powersUp tm hp => exact State.powerUp_keepsTracks _
  | restored tm hp => exact State.powerUp_keepsTracks _
  | lost tm cut hp => exact State.powerLost_keepsTracks cut _

/-- Settles O14: a step idles or runs a command, and each kind of command keeps every track. -/
theorem stepKeepsTracks : Obligations.StepKeepsTracks := by
  intro s u hs h
  obtain rfl | ⟨rest, hr⟩ := step_ran h
  · exact hs
  · exact hr.keepsTracks (hs.of_eq rfl rfl id id)

end Sys2Proof.Machine

namespace Sys2Proof.Machine

variable {s : State}

/-! ### The power-on state (R195) -/

theorem State.reset_track (t : Nat) : State.reset.track t = {} := Tab.get_rep ..
theorem State.reset_lever (n : Nat) : State.reset.lever n = {} := Tab.get_rep ..
theorem State.reset_sec (x : Nat) : State.reset.sec x = {} := Tab.get_rep ..
theorem State.reset_bell (l : Nat) : State.reset.bell l = {} := Tab.get_rep ..

/-- Settles O3: each field as `State.reset` gives it, and each table by what it holds everywhere. -/
theorem resetIsThePowerOnState : Obligations.ResetIsThePowerOnState := by
  refine ⟨rfl, rfl, rfl, rfl, rfl, rfl, fun t _ => State.reset_track t, fun n _ => ?_, rfl, fun x _ => ?_,
    fun l _ => State.reset_bell l, rfl, rfl, rfl, rfl, rfl, rfl, rfl, rfl, rfl, rfl, rfl, rfl, rfl, rfl, rfl, rfl, rfl⟩
  · rw [State.reset_lever]; exact ⟨rfl, rfl, rfl, rfl⟩
  · rw [State.reset_sec]; exact ⟨rfl, rfl, rfl, rfl⟩

theorem State.powerUp_lever (s : State) {n : Nat} (hn : n ∈ Tab.numbers 24) :
    s.powerUp.lever n = { phase := (s.leverInputs n).phase } :=
  Tab.get_build _ _ (Tab.mem_numbers.1 hn).1 (Tab.mem_numbers.1 hn).2

theorem State.powerUp_sec (s : State) {x : Nat} (hx : x ∈ Tab.numbers 6) :
    s.powerUp.sec x = { acc := { switch := s.switchAtReset x } } :=
  Tab.get_build _ _ (Tab.mem_numbers.1 hx).1 (Tab.mem_numbers.1 hx).2

/-- A part without supply is powered up at the time of POWER_ON. -/
theorem exec_powerOn_unpowered (tm : Time) (h : s.powered = false) :
    exec (.powerOn tm) s = .next (s.advance tm).powerUp := by
  change Host.Outcome.next (if s.powered = true then _ else _) = _
  rw [h]; rfl

/-- Settles O15: the fields of `State.powerUp`, the levers and sections by their numbers, and the counters repaired. -/
theorem powerOnStartsEveryUnit : Obligations.PowerOnStartsEveryUnit := by
  intro s tm hp
  refine ⟨_, exec_powerOn_unpowered tm hp, rfl, rfl, rfl, rfl, rfl, rfl, rfl, rfl, rfl, rfl, rfl, rfl, rfl, rfl, rfl,
    fun n hn => ?_, fun x hx => ?_, rfl, rfl, rfl, rfl, fun k _ => ?_⟩
  · exact (s.advance tm).powerUp_lever hn
  · exact (s.advance tm).powerUp_sec hx
  · exact (s.advance tm).powerUp_counter k

end Sys2Proof.Machine

namespace Sys2Proof.Machine

variable {ps : List Part} {s t u : State}

/-! ### What a drafted notice names -/

/-- The event and the object of a draft, by which a statement names its notice. -/
def Draft.key (d : Draft) : NoticeEvent × Nat := (d.event, d.object)

/-- What an event has drafted so far. -/
def State.drafts (s : State) : List (NoticeEvent × Nat) := s.emitted.map Draft.key

@[simp] theorem State.drafts_emit (e : NoticeEvent) (o : Nat) (x : List Byte) :
    (s.emit e o x).drafts = s.drafts ++ [(e, o)] := by simp [State.drafts, Draft.key]

theorem State.drafts_of_outside (h : Outside ps s u) (hp : .emitted ∉ ps) : u.drafts = s.drafts :=
  congrArg (List.map Draft.key) (h .emitted hp)

/-! ### Placing notices that need not all find room (R192) -/

/-- Of notices in order, those that find room join the outbox. -/
theorem Link.places_outbox_take (l : List Notice) (k : Link) :
    (l.foldl Link.place k).outbox = k.outbox ++ l.take (32 - k.outbox.length) := by
  induction l generalizing k with
  | nil => simp
  | cons n l ih =>
    rw [List.foldl_cons, ih]
    by_cases h : k.outbox.length < 32
    · obtain ⟨m, hm⟩ : ∃ m, 32 - k.outbox.length = m + 1 := ⟨31 - k.outbox.length, by omega⟩
      have hm' : 32 - (k.outbox.length + 1) = m := by omega
      simp [Link.place, h, hm, hm']
    · simp [Link.place, h, show 32 - k.outbox.length = 0 by omega]

/-- At the close of an event past the start interval its notices join the outbox as far as it has room. -/
theorem State.close_outbox_take (hm : s.control.mode ≠ .start) :
    s.close.link.outbox = s.link.outbox ++
      ((s.emitted.filter fun d => s.sends d.event.kind).map s.noticeOf).take (32 - s.link.outbox.length) := by
  simp only [State.close, State.kick_outbox, State.flush, hm, if_false]
  exact Link.places_outbox_take _ _

theorem Outside.sends_eq (h : Outside ps s u) (hm : .mode ∉ ps) (hc : .configuration ∉ ps) (k : NoticeKind) :
    u.sends k = s.sends k := by
  simp only [State.sends, State.invalid, h.mode_eq hm, h.conf_eq hc]

/-- What an event past the start interval announces, by what it drafts. -/
theorem State.announces_of_outside {l : List (NoticeEvent × Nat)} (h : Outside ps s t)
    (hp : .mode ∉ ps ∧ .configuration ∉ ps ∧ .outbox ∉ ps) (hm : s.control.mode ≠ .start) (he : t.drafts = l) :
    s.announces t.close l := by
  obtain ⟨hmode, hconf, hout⟩ := hp
  subst he
  exact State.announces_close (by rwa [h.mode_eq hmode]) (h .outbox hout).1 (h.sends_eq hmode hconf)

/-- What an event past the start interval announces first, by what it drafts first. -/
theorem State.announcesFirst_of_outside {l : List (NoticeEvent × Nat)} (h : Outside ps s t)
    (hp : .mode ∉ ps ∧ .configuration ∉ ps ∧ .outbox ∉ ps) (hm : s.control.mode ≠ .start) (he : l <+: t.drafts) :
    s.announcesFirst t.close l := by
  obtain ⟨hmode, hconf, hout⟩ := hp
  obtain ⟨rest, hrest⟩ := he
  intro hroom
  refine ⟨(rest.filter fun k => s.sends k.1.kind).take
    (32 - s.link.outbox.length - (l.filter fun k => s.sends k.1.kind).length), ?_⟩
  rw [State.close_outbox_take (by rwa [h.mode_eq hmode]), (h .outbox hout).1, List.map_append, List.append_assoc]
  congr 1
  have hsent : ((t.emitted.filter fun d => t.sends d.event.kind).map t.noticeOf).map (fun n => (n.event, n.object)) =
      (l ++ rest).filter fun k => s.sends k.1.kind := by
    rw [hrest, State.drafts, List.filter_map, List.map_map]
    congr 1
    exact List.filter_congr fun d _ => h.sends_eq hmode hconf _
  rw [List.map_take, hsent, List.filter_append, List.take_append, List.take_of_length_le]
  have := List.length_filter_le (fun k : NoticeEvent × Nat => s.sends k.1.kind) l
  omega

/-- The frame of an event with its close. -/
theorem changesOnly_close (h : Outside (ps ++ closing) s t) : ChangesOnly ps s t.close :=
  h.trans ((State.close_outside t).mono (by simp [closing]))

/-- An event that drafts nothing places nothing. -/
theorem State.close_places_nothing (h : s.emitted = []) :
    s.close.link.outbox = s.link.outbox ∧ s.close.link.lost = s.link.lost ∧
      s.close.link.lostSinceStatus = s.link.lostSinceStatus := by
  have hflush : s.flush.link = s.link := by simp [State.flush, h]
  have hkick (v : State) : v.kick.link.outbox = v.link.outbox ∧ v.kick.link.lost = v.link.lost ∧
      v.kick.link.lostSinceStatus = v.link.lostSinceStatus := v.kick_outside .outbox (by decide)
  rw [State.close, ← hflush]
  exact hkick s.flush

/-! ### Drafts are appended -/

/-- What `s` has drafted stands before what `u` has drafted since. -/
def State.Appends (s u : State) : Prop := s.emitted <+: u.emitted

theorem State.Appends.refl (s : State) : s.Appends s := List.prefix_rfl

theorem State.Appends.drafts (h : s.Appends u) : s.drafts <+: u.drafts := h.map Draft.key

theorem State.Appends.of_emitted_eq (h : s.Appends t) (he : u.emitted = t.emitted) : s.Appends u := by
  unfold State.Appends; rw [he]; exact h

theorem State.Appends.outside (k : Outside ps t u) (hp : .emitted ∉ ps) (h : s.Appends t) : s.Appends u :=
  h.of_emitted_eq (k .emitted hp)

theorem State.Appends.emit (e : NoticeEvent) (o : Nat) (x : List Byte) (h : s.Appends t) : s.Appends (t.emit e o x) :=
  h.trans (List.prefix_append ..)

theorem State.Appends.foldl {α : Type} {f : State → α → State}
    (hf : ∀ (v : State) a, s.Appends v → s.Appends (f v a)) {l : List α} (h : s.Appends t) : s.Appends (l.foldl f t) := by
  induction l generalizing t with
  | nil => exact h
  | cons a l ih => exact ih (hf t a h)

theorem State.Appends.recomputeSounder (b : Bool) (h : s.Appends t) : s.Appends (t.recomputeSounder b) :=
  h.outside (State.recomputeSounder_outside b t) (by decide)

theorem State.Appends.raise (k : AlertKind) (o : Nat) (h : s.Appends t) : s.Appends (t.raise k o) := by
  have put (q : Panel) : s.Appends (t.putPanel q) := h.of_emitted_eq rfl
  unfold State.raise; dsimp only
  repeat' split
  · exact .recomputeSounder _ (.emit _ _ _ (put _))
  · exact .recomputeSounder _ (.emit _ _ _ (put _))
  · exact .recomputeSounder _ (.emit _ _ _ (.emit _ _ _ (put _)))
  · exact .emit _ _ _ h
  · exact .recomputeSounder _ (.emit _ _ _ (.emit _ _ _ (put _)))
  · exact h

/-! ### Drafts of the Route Hold Unit -/

theorem State.Appends.putHold (k : Hold) (h : s.Appends t) : s.Appends (t.putHold k) := h.of_emitted_eq rfl

theorem State.Appends.removeHold (n : Nat) (c : HoldCause) (h : s.Appends t) : s.Appends (t.removeHold n c) :=
  .emit _ _ _ (h.of_emitted_eq rfl)

theorem State.Appends.testSequential (n : Nat) (h : s.Appends t) : s.Appends (t.testSequential n) := by
  unfold State.testSequential
  repeat' split
  case h_2.isTrue => exact h.removeHold n _
  all_goals exact h

theorem State.Appends.testApproach (n : Nat) (h : s.Appends t) : s.Appends (t.testApproach n) := by
  unfold State.testApproach
  repeat' split
  case h_2.isTrue => exact h.removeHold n _
  all_goals exact h

theorem State.Appends.testRelease (n : Nat) (h : s.Appends t) : s.Appends (t.testRelease n) :=
  (h.testSequential n).testApproach n

theorem State.Appends.cancelTimeRelease (k : Hold) (c : HoldCause) (h : s.Appends t) :
    s.Appends (t.cancelTimeRelease k c) := .emit _ _ _ (h.putHold _)

theorem State.Appends.createHold (n : Nat) (d : HoldDef) (st : HoldState) (r : Bool) (c : HoldCause) (h : s.Appends t) :
    s.Appends (t.createHold n d st r c) := by
  unfold State.createHold
  refine .emit _ _ _ (.foldl (fun v k hv => ?_) (h.of_emitted_eq rfl))
  split
  · exact hv.of_emitted_eq rfl
  · exact hv

theorem State.Appends.signalArrivesReverse (n : Nat) (h : s.Appends t) : s.Appends (t.signalArrivesReverse n) := by
  unfold State.signalArrivesReverse; dsimp only
  split
  · exact h
  · split
    · exact h
    · split
      · exact h.createHold ..
      · split
        · exact .emit _ _ _ (.putHold _ (h.cancelTimeRelease ..))
        · exact .emit _ _ _ (.putHold _ h)

theorem State.Appends.signalStandsReverse (n : Nat) (h : s.Appends t) : s.Appends (t.signalStandsReverse n) :=
  h.outside (State.signalStandsReverse_outside n t) (by decide)

theorem State.Appends.signalStandsNormal (n : Nat) (h : s.Appends t) : s.Appends (t.signalStandsNormal n) := by
  unfold State.signalStandsNormal; dsimp only
  split
  · exact h
  · split
    · exact .testRelease n (.emit _ _ _ (.putHold _ h))
    · exact h.testRelease n

theorem State.Appends.stageDone (a i : Nat) (r : Hold × Bool) (h : s.Appends t) : s.Appends (t.stageDone a i r) := by
  unfold State.stageDone; dsimp only
  split
  · exact .emit _ _ _ (h.putHold _)
  · exact h.putHold _

theorem State.Appends.holdTrackOccupied (a n : Nat) (h : s.Appends t) : s.Appends (t.holdTrackOccupied a n) := by
  unfold State.holdTrackOccupied
  repeat' split
  · exact h
  · exact h.stageDone ..
  · exact .testRelease n (h.cancelTimeRelease ..)
  · exact h

theorem State.Appends.holdTrackCleared (a n : Nat) (h : s.Appends t) : s.Appends (t.holdTrackCleared a n) := by
  unfold State.holdTrackCleared; dsimp only
  repeat' split
  · exact h
  · exact .testSequential n (h.stageDone ..)
  · exact h.testApproach n
  · exact h

/-! ### Drafts of the Block Section Unit and the Train Record Unit -/

theorem State.Appends.clearingOccupied (x : Nat) (h : s.Appends t) : s.Appends (t.clearingOccupied x) := by
  unfold State.clearingOccupied; dsimp only
  split
  · exact h.of_emitted_eq rfl
  · exact .raise _ _ (.emit _ _ _ (.emit _ _ _ (h.of_emitted_eq rfl)))
  · exact h

theorem State.Appends.clearingCleared (x : Nat) (h : s.Appends t) : s.Appends (t.clearingCleared x) := by
  unfold State.clearingCleared; dsimp only
  split
  · exact .emit _ _ _ (h.of_emitted_eq rfl)
  · exact h

theorem State.Appends.consumeRelease (n : Nat) (h : s.Appends t) : s.Appends (t.consumeRelease n) := by
  unfold State.consumeRelease
  split
  · exact h
  · refine .foldl (fun v x hv => ?_) h
    exact .emit _ _ _ (hv.of_emitted_eq rfl)

/-- The attribution of an occupation of track `n`, by the first rule that applies (R149 to R153). The model's own name for
it is a command word of Lean, which stays out of this text, so its body stands here again; the equations of
`State.occupationStarts` tie it to the model by `rfl`. -/
def State.attributed (n : Nat) (s : State) : State :=
  match s.register.opened.filter (s.candidate n) with
  | r :: others => s.attributeTo n r !others.isEmpty
  | [] =>
    match s.arriving n with
    | some r =>
      ((s.putRecord r ((s.record r).append n)).moveInbound r .atTrack).emit .recStage r (stageExtra false none
        (some (n, (((s.putRecord r ((s.record r).append n)).moveInbound r .atTrack).record r).trail)))
    | none =>
      match s.berthing n with
      | some r =>
        (s.putRecord r ((s.record r).append n)).emit .recBerth r
          (b1 n ++ bList b1 ((s.putRecord r ((s.record r).append n)).record r).trail)
      | none => (s.emit .trackUnexpected n []).raise .unexpectedOccupation n

theorem State.attributed_outside (n : Nat) (s : State) :
    Outside [.register, .alerts, .sounder, .emitted] s (s.attributed n) := State.attribute_outside n s

theorem State.Appends.attributed (n : Nat) (h : s.Appends t) : s.Appends (t.attributed n) := by
  have moved (r : Nat) (g : HalfStage) {v : State} (hv : s.Appends v) : s.Appends (v.moveInbound r g) :=
    hv.outside (State.moveInbound_outside r g v) (by decide)
  unfold State.attributed State.attributeTo; dsimp only
  repeat' split
  · exact .emit _ _ _ (h.of_emitted_eq rfl)
  · exact .emit _ _ _ (moved _ _ (h.of_emitted_eq rfl))
  · exact .emit _ _ _ (h.of_emitted_eq rfl)
  · exact .raise _ _ (h.emit _ _ _)

theorem State.Appends.headClears (a r : Nat) (h : s.Appends t) : s.Appends (State.headClears a t r) := by
  have moved (r : Nat) (g : HalfStage) {v : State} (hv : s.Appends v) : s.Appends (v.moveOutbound r g) :=
    hv.outside (State.moveOutbound_outside r g v) (by decide)
  unfold State.headClears State.depart; dsimp only
  repeat' split
  · exact .emit _ _ _ (moved _ _ (h.of_emitted_eq rfl))
  · exact .emit _ _ _ (h.of_emitted_eq rfl)
  all_goals exact h

/-! ### Drafts of the events of R14 and of the examination -/

theorem State.Appends.becomesOccupied (a : Nat) (h : s.Appends t) : s.Appends (t.becomesOccupied a) :=
  .foldl (fun _ x hv => hv.clearingOccupied x) (.foldl (fun _ n hv => hv.holdTrackOccupied a n) h)

theorem State.Appends.becomesClear (a : Nat) (h : s.Appends t) : s.Appends (t.becomesClear a) :=
  .foldl (fun _ r hv => hv.headClears a r)
    (.foldl (fun _ x hv => hv.clearingCleared x) (.foldl (fun _ n hv => hv.holdTrackCleared a n) h))

theorem State.Appends.moveLever (n : Nat) (l : Lever) (e : NoticeEvent) (x : List Byte) (b : Bool) (h : s.Appends t) :
    s.Appends (t.moveLever n l e x b) := by
  have h0 : s.Appends ((t.putLever n l).emit e n x) := .emit _ _ _ (h.of_emitted_eq rfl)
  unfold State.moveLever State.present; dsimp only
  repeat' split
  · exact h0
  · exact h0.signalStandsNormal n
  · exact (h0.signalArrivesReverse n).consumeRelease n
  · exact h0.signalStandsReverse n
  · exact h0

theorem State.Appends.withdrawPass (h : s.Appends t) : s.Appends t.withdrawPass :=
  .foldl (fun _ _ hv => hv.moveLever ..) h

theorem State.Appends.settleLevers (fuel : Nat) (h : s.Appends t) : s.Appends (t.settleLevers fuel) := by
  induction fuel generalizing t with
  | zero => exact h.withdrawPass
  | succ fuel ih =>
    unfold State.settleLevers; dsimp only
    split
    · exact h.withdrawPass
    · exact ih (h.withdrawPass.moveLever ..)
    · exact ih (.moveLever _ _ _ _ _ (h.withdrawPass.of_emitted_eq rfl))

/-- The examination leaves what was drafted before it in front, the notices *removed* excepted (R59). -/
theorem State.prefix_emitted_settle {l : List Draft} (hl : ∀ d ∈ l, d.event ≠ .holdRemoved) (h : l <+: s.emitted) :
    l <+: s.settle.emitted := by
  obtain ⟨rest, hrest⟩ := h.trans (State.Appends.settleLevers 48 (State.Appends.refl s))
  have hkept : (s.settleLevers 48).emitted.filter (·.event ≠ .holdRemoved) = l ++ rest.filter (·.event ≠ .holdRemoved) := by
    rw [← hrest, List.filter_append, List.filter_eq_self.2 fun d hd => by simpa using hl d hd]
  simp only [State.settle, State.removalsLast, hkept, List.append_assoc]
  exact List.prefix_append ..

theorem State.prefix_settle {l : List (NoticeEvent × Nat)} (hl : ∀ k ∈ l, k.1 ≠ .holdRemoved) (h : l <+: s.drafts) :
    l <+: s.settle.drafts := by
  have hmap : (s.emitted.take l.length).map Draft.key = l := by
    rw [List.map_take]; exact (List.prefix_iff_eq_take.1 h).symm
  rw [← hmap]
  refine (State.prefix_emitted_settle (fun d hd => ?_) (List.take_prefix ..)).map Draft.key
  exact hl d.key (hmap ▸ List.mem_map_of_mem hd)

end Sys2Proof.Machine

namespace Sys2Proof.Machine

variable {ps : List Part} {s t u : State}

/-! ### Events of the tracks -/

theorem State.started_of_working (h : s.working) : s.powered = true ∧ s.emitted = [] ∧ s.control.mode ≠ .start :=
  ⟨h.1.1, h.1.2, State.mode_ne_start_of_live h.2⟩

/-- A track relay that changes is an event (R3). -/
theorem State.relays_put_ne {n : Nat} {picked : Bool} (hn : isTrack n = true) (h : s.relayPicked n = !picked) :
    ({ s.inputs with relays := s.inputs.relays.put n picked } : Inputs) ≠ s.inputs := fun e => by
  simp only [isTrack, Bool.and_eq_true, decide_eq_true_eq] at hn
  have hread : (s.inputs.relays.put n picked).get false n = s.inputs.relays.get false n :=
    congrArg (fun i : Inputs => i.relays.get false n) e
  rw [Tab.get_put_self _ _ _ hn.1 hn.2, show s.inputs.relays.get false n = !picked from h] at hread
  cases picked <;> cases hread

/-- The part with the relay of track `n` as the command brings it, before the Track Circuit Unit takes it. -/
def State.withRelay (tm : Time) (n : Nat) (picked : Bool) (s : State) : State :=
  (s.advance tm).putInputs { s.inputs with relays := s.inputs.relays.put n picked }

theorem State.withRelay_outside (tm : Time) (n : Nat) (picked : Bool) (s : State) :
    Outside [.now, .inputs] s (s.withRelay tm n picked) := by simp [State.withRelay]

theorem exec_trackRelayDrop {tm : Time} {n : Nat} (hp : s.powered = true) (hn : isTrack n = true)
    (h : s.relayPicked n = true) :
    exec (.trackRelayDrop tm n) s = .next ((s.withRelay tm n false).relayDrops n).close :=
  congrArg Host.Outcome.next (State.terminal_powered tm _ _ hp (State.relays_put_ne hn h))

theorem exec_trackRelayPickUp {tm : Time} {n : Nat} (hp : s.powered = true) (hn : isTrack n = true)
    (h : s.relayPicked n = false) :
    exec (.trackRelayPickUp tm n) s = .next ((s.withRelay tm n true).relayPicksUp n).close :=
  congrArg Host.Outcome.next (State.terminal_powered tm _ _ hp (State.relays_put_ne hn h))

theorem exec_pickUpTimerExpiry {tm : Time} {n : Nat} (hp : s.powered = true) :
    exec (.pickUpTimerExpiry tm n) s = .next ((s.advance tm).pickUpExpires n).close :=
  congrArg Host.Outcome.next (State.event_powered tm _ hp)

theorem State.relayDrops_clear {n : Nat} (hf : s.filtering n = true) (h : (s.track n).filter = .clear) :
    s.relayDrops n = s.occupationStarts n := by simp [State.relayDrops, hf, h]

theorem State.relayDrops_picking {n : Nat} (hf : s.filtering n = true) (h : (s.track n).filter = .picking) :
    s.relayDrops n = s.flicker n := by simp [State.relayDrops, hf, h]

theorem State.relayDrops_unfiltered {n : Nat} (hf : s.filtering n = false) : s.relayDrops n = s := by
  simp [State.relayDrops, hf]

theorem State.relayPicksUp_unfiltered {n : Nat} (hf : s.filtering n = false) : s.relayPicksUp n = s := by
  simp [State.relayPicksUp, hf]

theorem State.relayPicksUp_occupied {n : Nat} (hf : s.filtering n = true) (h : (s.track n).filter = .occupied) :
    s.relayPicksUp n = s.beginPicking n := by simp [State.relayPicksUp, hf, h]

/-- Track `n` is OCCUPIED. -/
def State.setOccupied (n : Nat) (s : State) : State := s.putTrack n { s.track n with filter := .occupied }

/-- An occupation of a RUNNING track is attributed to a record (R149). -/
def State.attributeRunning (n : Nat) (s : State) : State :=
  if (s.conf.track n).kind = .running then s.attributed n else s

theorem State.attributeRunning_outside (n : Nat) (s : State) :
    Outside [.register, .alerts, .sounder, .emitted] s (s.attributeRunning n) := by
  unfold State.attributeRunning; split
  · exact State.attributed_outside n s
  · exact .refl _ _

theorem State.Appends.attributeRunning (n : Nat) (h : s.Appends t) : s.Appends (t.attributeRunning n) := by
  unfold State.attributeRunning; split
  · exact h.attributed n
  · exact h

theorem State.occupationStarts_marked {n : Nat} (h : (s.track n).marked = true) :
    s.occupationStarts n = (s.setOccupied n).attributeRunning n := by
  unfold State.occupationStarts; rw [h]; rfl

theorem State.occupationStarts_unmarked {n : Nat} (h : (s.track n).marked = false) :
    s.occupationStarts n =
      ((((s.setOccupied n).emit .trackOccupied n []).becomesOccupied n).attributeRunning n).settle := by
  unfold State.occupationStarts; rw [h]; rfl

/-- The start of an occupation of a marked track reaches the records alone (R4, R14). -/
theorem State.occupationStarts_marked_outside {n : Nat} (h : (s.track n).marked = true) :
    Outside [.tracks, .register, .alerts, .sounder, .emitted] s (s.occupationStarts n) := by
  rw [State.occupationStarts_marked h]
  exact Outside.trans (t := s.setOccupied n) (by simp [State.setOccupied])
    ((State.attributeRunning_outside n _).mono (by simp))

/-- After the track itself, an occupation changes no track. -/
theorem State.occupationStarts_tracks (n : Nat) (s : State) :
    (s.occupationStarts n).tracks = s.tracks.put n { s.track n with filter := .occupied } := by
  cases h : (s.track n).marked with
  | true =>
    rw [State.occupationStarts_marked h]
    exact (State.attributeRunning_outside n _).tracks_eq (by decide)
  | false =>
    rw [State.occupationStarts_unmarked h]
    refine ((State.settle_outside _).tracks_eq (by decide)).trans
      (((State.attributeRunning_outside n _).tracks_eq (by decide)).trans ?_)
    exact (State.becomesOccupied_outside n _).tracks_eq (by decide)

/-- No record takes an occupation of a track that is not RUNNING (R149). -/
theorem State.occupationStarts_register {n : Nat} (h : (s.conf.track n).kind ≠ .running) :
    (s.occupationStarts n).register = s.register := by
  have hskip (v : State) (hv : v.conf = s.conf) : v.attributeRunning n = v := if_neg (by rwa [hv])
  cases hm : (s.track n).marked with
  | true => rw [State.occupationStarts_marked hm, hskip (s.setOccupied n) rfl]; rfl
  | false =>
    have hocc := State.becomesOccupied_outside n ((s.setOccupied n).emit .trackOccupied n [])
    rw [State.occupationStarts_unmarked hm, hskip _ (hocc.conf_eq (by decide))]
    exact (State.settle_outside _ .register (by decide)).trans (hocc .register (by decide))

theorem State.occupationStarts_drafts_first {n : Nat} (h : (s.track n).marked = false) (he : s.emitted = []) :
    [(.trackOccupied, n)] <+: (s.occupationStarts n).drafts := by
  have h0 : ((s.setOccupied n).emit .trackOccupied n []).drafts = [(.trackOccupied, n)] := by
    simp [State.drafts, he, Draft.key, State.setOccupied]
  rw [State.occupationStarts_unmarked h]
  refine State.prefix_settle (by simp) ?_
  rw [← h0]
  exact (((State.Appends.refl _).becomesOccupied n).attributeRunning n).drafts

/-- Settles O23: the occupation starts, with its frame, its notice first, and what a mark or a SIDING track keeps from
the other units. -/
theorem dropInClearBeginsAnOccupation : Obligations.DropInClearBeginsAnOccupation := by
  intro s tm n hw hn hfit hpick hclear
  obtain ⟨hp, hemit, hmode⟩ := State.started_of_working hw
  have hv := s.withRelay_outside tm n false
  have hstart : (s.withRelay tm n false).relayDrops n = (s.withRelay tm n false).occupationStarts n :=
    State.relayDrops_clear ((State.filtering_iff n).2 ⟨hw.2, hfit⟩) hclear
  have hall := (hv.mono (ps := [.now, .inputs, .tracks, .holds, .sections, .register, .alerts, .sounder, .levers,
    .choices, .emitted]) (by simp)).trans
      ((State.occupationStarts_outside n (s.withRelay tm n false)).mono (by simp))
  have hclose := State.close_outside ((s.withRelay tm n false).occupationStarts n)
  refine ⟨_, exec_trackRelayDrop hp hn hpick, ?_⟩
  rw [hstart]
  refine ⟨?_, ?_, fun hmark => ?_, fun hkind => ?_, fun hmark => ?_, ?_⟩
  · exact (hclose .inputs (by decide)).trans (State.occupationStarts_outside n _ .inputs (by decide))
  · exact (hclose.tracks_eq (by decide)).trans (State.occupationStarts_tracks n (s.withRelay tm n false))
  · have hm := hv.mono (ps := [.now, .inputs, .tracks, .register, .alerts, .sounder, .emitted, .outbox, .transmitter])
      (by simp) |>.trans ((State.occupationStarts_marked_outside (s := s.withRelay tm n false) hmark).mono (by simp))
      |>.trans (hclose.mono (by simp))
    exact ⟨hm .holds (by decide), hm .sections (by decide), hm .levers (by decide)⟩
  · have hk : (s.conf.track n).kind ≠ .running := by simp [hkind]
    exact (hclose .register (by decide)).trans
      (State.occupationStarts_register (s := s.withRelay tm n false) hk)
  · exact State.announcesFirst_of_outside hall (by decide) hmode
      (State.occupationStarts_drafts_first (s := s.withRelay tm n false) hmark hemit)
  · exact changesOnly_close (hall.mono (by simp [closing]))

end Sys2Proof.Machine

namespace Sys2Proof.Machine

variable {ps qs : List Part} {s t u v : State}

/-! ### A raise of an alert (R178) -/

/-- What a raise of the alert `a` makes of the list `l`: the new list, the notices it sends, and whether the alert is
entered. -/
def raiseOf (a : Alert) (l : List Alert) : List Alert × List (NoticeEvent × Nat) × Bool :=
  match l.find? a.same with
  | some old =>
    (dropAlert old l ++ [{ a with count := satAdd 255 old.count }], [(.alertRefreshed, a.object)], true)
  | none =>
    if l.length < 16 then (l ++ [a], [(.alertRaised, a.object)], true)
    else
      match lowestAlert (l.filter (·.acked)) with
      | some out => (dropAlert out l ++ [a], [(.alertRaised, a.object), (.alertDropped, out.object)], true)
      | none =>
        match lowestAlert (l ++ [a]) with
        | some out =>
          if out.same a then (l, [(.alertDropped, a.object)], false)
          else (dropAlert out l ++ [a], [(.alertRaised, a.object), (.alertDropped, out.object)], true)
        | none => (l, [], false)

theorem State.recomputeSounder_alerts (b : Bool) (s : State) : (s.recomputeSounder b).panel.alerts = s.panel.alerts :=
  State.recomputeSounder_outside b s .alerts (by decide)

theorem State.recomputeSounder_drafts (b : Bool) (s : State) : (s.recomputeSounder b).drafts = s.drafts :=
  State.drafts_of_outside (State.recomputeSounder_outside b s) (by decide)

/-- The pattern that the alert list asks for (R179). -/
def State.patternAsked (s : State) : Pattern := if s.control.mode = .start then .silent else patternOf s.soundingPriority

theorem State.threshold_eq (hm : u.control.mode = s.control.mode) (hc : u.conf = s.conf) : u.threshold = s.threshold := by
  have hi : u.invalid = s.invalid := by rw [State.invalid, State.invalid, hm]
  rw [State.threshold, State.threshold, hi, hc]

theorem State.patternAsked_eq (ha : u.panel.alerts = s.panel.alerts) (hm : u.control.mode = s.control.mode)
    (hc : u.conf = s.conf) : u.patternAsked = s.patternAsked := by
  simp only [State.patternAsked, State.soundingPriority, ha, State.threshold_eq hm hc, hm]

theorem State.recomputeSounder_sounder (b : Bool) (s : State) :
    (s.recomputeSounder b).panel.sounder =
      if b || s.patternAsked ≠ s.panel.sounder.pattern then s.patternAsked.begin s.now else s.panel.sounder :=
  apply_ite (fun v : State => v.panel.sounder) ..

/-- The part with another alert list. -/
def State.withAlerts (l : List Alert) (s : State) : State := s.putPanel { s.panel with alerts := l }

/-- What a raise makes of a part, by the list, the notices, and the sounder, which is computed again where the alert is
entered. -/
structure State.RaiseMakes (s u : State) (sounds : Bool) (r : List Alert × List (NoticeEvent × Nat) × Bool) : Prop where
  alerts : u.panel.alerts = r.1
  drafts : u.drafts = s.drafts ++ r.2.1
  sounder : u.panel.sounder =
    if r.2.2 then ((s.withAlerts r.1).recomputeSounder sounds).panel.sounder else s.panel.sounder

theorem State.raiseMakes_entered {l : List Alert} {ns : List (NoticeEvent × Nat)} {b : Bool} {v : State}
    (hv : Outside [.emitted] (s.withAlerts l) v) (hd : v.drafts = s.drafts ++ ns) :
    s.RaiseMakes (v.recomputeSounder b) b (l, ns, true) := by
  have hpanel : v.panel = (s.withAlerts l).panel := by
    have ha := hv .alerts (by decide); have hs := hv .sounder (by decide); have hl := hv .lampTest (by decide)
    have hp := hv .pulses (by decide); have hf := hv .flasher (by decide)
    cases hvp : v.panel; cases hsp : (s.withAlerts l).panel
    simp_all [Part.Same]
  have hasked : v.patternAsked = (s.withAlerts l).patternAsked :=
    State.patternAsked_eq (by rw [hpanel]) (hv.mode_eq (by decide)) (hv.conf_eq (by decide))
  refine ⟨?_, ?_, ?_⟩
  · rw [State.recomputeSounder_alerts, hpanel]; rfl
  · rw [State.recomputeSounder_drafts, hd]
  · rw [State.recomputeSounder_sounder, if_pos rfl, State.recomputeSounder_sounder, hasked, hpanel,
      show v.now = (s.withAlerts l).now from hv .now (by decide)]

theorem State.raise_makes (k : AlertKind) (o : Nat) (s : State) :
    s.RaiseMakes (s.raise k o) (decide (s.threshold ≤ k.priority s.control.box))
      (raiseOf (s.newAlert k o (k.priority s.control.box)) s.panel.alerts) := by
  unfold State.raise raiseOf
  rw [show (⟨k, o, k.priority s.control.box, s.stamp, 1, false⟩ : Alert) =
    s.newAlert k o (k.priority s.control.box) from rfl]
  generalize ha : s.newAlert k o (k.priority s.control.box) = a
  have hp : a.priority = k.priority s.control.box := by subst ha; rfl
  have ho : a.object = o := by subst ha; rfl
  dsimp only
  rw [hp, ho]
  cases s.panel.alerts.find? a.same with
  | some old => exact State.raiseMakes_entered (l := dropAlert old s.panel.alerts ++ _) (by simp [State.withAlerts]) (by simp; rfl)
  | none =>
    dsimp only
    split
    · exact State.raiseMakes_entered (l := s.panel.alerts ++ [a]) (by simp [State.withAlerts]) (by simp; rfl)
    · cases lowestAlert (s.panel.alerts.filter (·.acked)) with
      | some out =>
        exact State.raiseMakes_entered (l := dropAlert out s.panel.alerts ++ [a]) (by simp [State.withAlerts]) (by simp; rfl)
      | none =>
        dsimp only
        cases lowestAlert (s.panel.alerts ++ [a]) with
        | none => exact ⟨rfl, by simp, rfl⟩
        | some out =>
          dsimp only
          split
          · exact ⟨rfl, by simp, rfl⟩
          · exact State.raiseMakes_entered (l := dropAlert out s.panel.alerts ++ [a]) (by simp [State.withAlerts])
              (by simp; rfl)

/-! ### The list after a raise, as R178 words it -/

theorem Alert.same_iff {a b : Alert} : a.same b = true ↔ a.kind = b.kind ∧ a.object = b.object := by simp [Alert.same]

/-- No two entries of a list are for one kind and object (R177). -/
def AlertsDistinct (l : List Alert) : Prop := l.Pairwise fun a b => a.same b = false

theorem AlertsDistinct.not_same {l older younger : List Alert} {o b : Alert} (hd : AlertsDistinct l)
    (h : l = older ++ o :: younger) (hb : b ∈ older ++ younger) : o.same b = false := by
  subst h
  obtain ⟨-, hyoung, hold⟩ := List.pairwise_append.1 hd
  rcases List.mem_append.1 hb with hb | hb
  · have := hold b hb o (List.mem_cons_self ..)
    simp only [Alert.same] at this ⊢
    grind
  · exact (List.pairwise_cons.1 hyoung).1 b hb

/-- The entry for a kind and object is the one found. -/
theorem AlertsDistinct.find?_same {l older younger : List Alert} {a o : Alert} (hd : AlertsDistinct l)
    (h : l = older ++ o :: younger) (hs : a.same o = true) : l.find? a.same = some o := by
  have hold : older.find? a.same = none := List.find?_eq_none.2 fun b hb hab => by
    have := hd.not_same h (List.mem_append_left _ hb)
    rw [Alert.same_iff] at hs hab
    simp [Alert.same, ← hs.1, ← hs.2, hab.1, hab.2] at this
  rw [h, List.find?_append, hold, List.find?_cons_of_pos hs]; rfl

theorem AlertsDistinct.dropAlert {l older younger : List Alert} {o : Alert} (hd : AlertsDistinct l)
    (h : l = older ++ o :: younger) : dropAlert o l = older ++ younger := by
  have hkeep (m : List Alert) (hm : m ⊆ older ++ younger) : m.filter (fun b => !o.same b) = m :=
    List.filter_eq_self.2 fun b hb => by simp [hd.not_same h (hm hb)]
  have ho : o.same o = true := Alert.same_iff.2 ⟨rfl, rfl⟩
  rw [Machine.dropAlert, h, List.filter_append, List.filter_cons_of_neg (by simp [ho]),
    hkeep older (List.subset_append_left ..), hkeep younger (List.subset_append_right ..)]

/-- Of the lowest entry so far and the next one, the lower; the older where neither is. -/
def lowerAlert (m : Option Alert) (a : Alert) : Option Alert :=
  match m with
  | none => some a
  | some b => if a.priority < b.priority then some a else some b

theorem lowestAlert_eq_foldl (l : List Alert) : lowestAlert l = l.foldl lowerAlert none := rfl

theorem foldl_lowerAlert_above {o : Alert} {l : List Alert} (hl : ∀ b ∈ l, o.priority < b.priority) (m : Option Alert)
    (hm : ∀ b ∈ m, o.priority < b.priority) : ∀ b ∈ l.foldl lowerAlert m, o.priority < b.priority := by
  induction l generalizing m with
  | nil => exact hm
  | cons a l ih =>
    refine ih (fun b hb => hl b (List.mem_cons_of_mem _ hb)) _ fun b hb => ?_
    have ha := hl a (List.mem_cons_self ..)
    cases m with
    | none => cases hb; exact ha
    | some c =>
      simp only [lowerAlert] at hb
      split at hb <;> cases hb
      · exact ha
      · exact hm _ rfl

theorem foldl_lowerAlert_stays {o : Alert} {l : List Alert} (hl : ∀ b ∈ l, o.priority ≤ b.priority) :
    l.foldl lowerAlert (some o) = some o := by
  induction l with
  | nil => rfl
  | cons a l ih =>
    have ha := hl a (List.mem_cons_self ..)
    rw [List.foldl_cons, show lowerAlert (some o) a = some o from if_neg (by omega)]
    exact ih fun b hb => hl b (List.mem_cons_of_mem _ hb)

/-- The first of the entries of lowest priority is the one that the list gives up (R178). -/
theorem lowestAlert_of_split {older younger : List Alert} {o : Alert} (h1 : ∀ b ∈ older, o.priority < b.priority)
    (h2 : ∀ b ∈ younger, o.priority ≤ b.priority) : lowestAlert (older ++ o :: younger) = some o := by
  have hreach : lowerAlert (older.foldl lowerAlert none) o = some o := by
    cases hm : older.foldl lowerAlert none with
    | none => rfl
    | some b => exact if_pos (foldl_lowerAlert_above h1 none (by simp) b hm)
  rw [lowestAlert_eq_foldl, List.foldl_append, List.foldl_cons, hreach]
  exact foldl_lowerAlert_stays h2

theorem GivesUp.lowestAlert {p : Alert → Bool} {l rest : List Alert} {o : Alert} (h : GivesUp (fun b => p b = true) l o rest) :
    lowestAlert (l.filter p) = some o := by
  obtain ⟨older, younger, rfl, -, hp, hold, hyoung⟩ := h
  rw [List.filter_append, List.filter_cons_of_pos hp]
  refine lowestAlert_of_split (fun b hb => ?_) fun b hb => ?_
  · exact hold b (List.mem_filter.1 hb).1 (List.mem_filter.1 hb).2
  · exact hyoung b (List.mem_filter.1 hb).1 (List.mem_filter.1 hb).2

theorem GivesUp.dropAlert {p : Alert → Prop} {l rest : List Alert} {o : Alert} (h : GivesUp p l o rest)
    (hd : AlertsDistinct l) : dropAlert o l = rest := by
  obtain ⟨older, younger, hl, hrest, -⟩ := h
  rw [hd.dropAlert hl, hrest]

/-- A raise by `raiseOf` is the raise of R178, on a list with one entry for a kind and object and counts up to 255. -/
theorem raised_raiseOf {a : Alert} {l : List Alert} (hd : AlertsDistinct l) (hc : ∀ b ∈ l, b.count ≤ 255) :
    Raised l a (raiseOf a l).1 (raiseOf a l).2.1 := by
  constructor
  · intro older o younger hl hk ho
    have hfind := hd.find?_same hl (Alert.same_iff.2 ⟨hk.symm, ho.symm⟩)
    have hcount : satAdd 255 o.count = min 255 (o.count + 1) := by
      have := hc o (by simp [hl])
      unfold satAdd; split <;> omega
    simp only [raiseOf, hfind, hd.dropAlert hl, hcount, and_self]
  · intro hnew
    have hfind : l.find? a.same = none := List.find?_eq_none.2 fun b hb hs =>
      hnew b hb ⟨(Alert.same_iff.1 hs).1.symm, (Alert.same_iff.1 hs).2.symm⟩
    have hout {o : Alert} (hl : o ∈ l) : ¬ o.same a = true := fun hs => hnew o hl (Alert.same_iff.1 hs)
    simp only [raiseOf, hfind]
    refine ⟨fun hroom => by simp only [if_pos hroom, and_self], fun hfull => ?_⟩
    rw [if_neg (by omega)]
    refine ⟨fun o rest h => ?_, fun hunacked => ?_⟩
    · rw [h.lowestAlert]; simp only [h.dropAlert hd, and_self]
    · rw [show l.filter (·.acked) = [] from List.filter_eq_nil_iff.2 fun b hb => by simp [hunacked b hb]]
      refine ⟨fun hlow => ?_, fun o rest h hle => ?_⟩
      · rw [show lowestAlert (l ++ [a]) = some a from lowestAlert_of_split hlow (by simp)]
        simp [lowestAlert, Alert.same]
      · obtain ⟨older, younger, hl, -, -, hold, hyoung⟩ := id h
        have hlow : lowestAlert (l ++ [a]) = some o := by
          rw [hl, List.append_assoc, List.cons_append]
          refine lowestAlert_of_split (fun b hb => hold b hb trivial) fun b hb => ?_
          rcases List.mem_append.1 hb with hb | hb
          · exact hyoung b hb trivial
          · rw [List.mem_singleton.1 hb]; exact hle
        rw [hlow]
        simp [lowestAlert, h.dropAlert hd, hout (o := o) (by simp [hl])]

/-- What is entered stands in the list, and what is not has no entry of its kind and object there. -/
theorem raiseOf_entered (a : Alert) (l : List Alert) :
    (raiseOf a l).2.2 = true ↔ ∃ b ∈ (raiseOf a l).1, b.kind = a.kind ∧ b.object = a.object := by
  unfold raiseOf
  cases hfind : l.find? a.same with
  | some old => simp
  | none =>
    have hnew : ¬ ∃ b ∈ l, b.kind = a.kind ∧ b.object = a.object := fun ⟨b, hb, hk, ho⟩ =>
      List.find?_eq_none.1 hfind b hb (Alert.same_iff.2 ⟨hk.symm, ho.symm⟩)
    dsimp only
    repeat' split
    all_goals simp [hnew]

/-- Where the list has room or an entry of its kind and object, the alert stands in it as raised, but for its count. -/
theorem mem_raiseOf {a : Alert} {l : List Alert} (h : l.length < 16) :
    ∃ n, { a with count := n } ∈ (raiseOf a l).1 := by
  unfold raiseOf
  split
  · exact ⟨_, List.mem_append_right _ (List.mem_singleton_self _)⟩
  · rw [if_pos h]; exact ⟨a.count, List.mem_append_right _ (List.mem_singleton_self _)⟩

/-! ### The sounder (R179) -/

/-- The sounding priority as R179 words it. -/
theorem State.soundsAt_iff {p : Nat} : s.soundsAt p ↔ s.soundingPriority = some p := by
  have ht : (if s.control.mode = .held .invalid then 6 else s.conf.threshold) = s.threshold := by
    simp [State.threshold, State.invalid]
  unfold State.soundsAt State.soundingPriority
  rw [ht, List.max?_eq_some_iff]
  simp only [List.mem_map, List.mem_filter, Bool.and_eq_true, Bool.not_eq_true', decide_eq_true_eq,
    forall_exists_index, and_imp]
  constructor
  · rintro ⟨hle, ⟨a, ha, hack, rfl⟩, hmax⟩
    exact ⟨⟨a, ⟨ha, hack, hle⟩, rfl⟩, fun _ b hb hbk _ hq => hq ▸ hmax b hb hbk⟩
  · rintro ⟨⟨a, ⟨ha, hack, hle⟩, rfl⟩, hmax⟩
    refine ⟨hle, ⟨a, ha, hack, rfl⟩, fun b hb hbk => ?_⟩
    by_cases hbt : s.threshold ≤ b.priority
    · exact hmax _ b hb hbk hbt rfl
    · omega

/-- The pattern that R179 asks for is the one that the model computes. -/
theorem State.mustPlay_iff {p : Pattern} : s.mustPlay p ↔ p = s.patternAsked := by
  unfold State.patternAsked
  by_cases hm : s.control.mode = .start
  · cases p <;> simp [State.mustPlay, hm]
  · cases hq : s.soundingPriority with
    | none => cases p <;> simp [State.mustPlay, hm, State.soundsAt_iff, hq, patternOf]
    | some q =>
      simp only [if_neg hm, patternOf]
      cases p <;> simp only [State.mustPlay, hm, State.soundsAt_iff, hq] <;> grind

theorem State.SounderKept.pattern (h : s.SounderKept) : s.panel.sounder.pattern = s.patternAsked :=
  State.mustPlay_iff.1 h.1

@[simp] theorem Pattern.begin_pattern (p : Pattern) (now : Time) : (p.begin now).pattern = p := by cases p <;> rfl

theorem Pattern.begin_eq (p : Pattern) (now : Time) : p.begin now = Sounder.startsAt now p := by cases p <;> rfl

/-- An alert that is not entered leaves the list as it was. -/
theorem raiseOf_not_entered {a : Alert} {l : List Alert} (h : (raiseOf a l).2.2 = false) : (raiseOf a l).1 = l := by
  unfold raiseOf at h ⊢
  repeat' split
  all_goals simp_all

/-- The sounder after a raise plays what the list asks: from the start of an on period where an alert is entered that
sounds or where the pattern changes, and as it stood else. -/
theorem State.RaiseMakes.plays {r : List Alert × List (NoticeEvent × Nat) × Bool} {b : Bool} (h : s.RaiseMakes u b r)
    (hm : u.control.mode = s.control.mode) (hc : u.conf = s.conf) (hs : s.SounderKept)
    (hr : r.2.2 = false → r.1 = s.panel.alerts) :
    u.panel.sounder.pattern = u.patternAsked ∧
      (r.2.2 = true ∧ b = true ∨ u.panel.sounder.pattern ≠ s.panel.sounder.pattern →
        u.panel.sounder = u.panel.sounder.pattern.begin s.now) ∧
      (¬ (r.2.2 = true ∧ b = true) → u.panel.sounder.pattern = s.panel.sounder.pattern →
        u.panel.sounder = s.panel.sounder) := by
  obtain ⟨l, ns, entered⟩ := r
  have hasked : u.patternAsked = (s.withAlerts l).patternAsked := State.patternAsked_eq h.alerts hm hc
  have hsound := h.sounder
  cases entered with
  | true =>
    rw [if_pos rfl, State.recomputeSounder_sounder, ← hasked,
      show (s.withAlerts l).panel.sounder = s.panel.sounder from rfl, show (s.withAlerts l).now = s.now from rfl] at hsound
    by_cases hagain : (b || u.patternAsked ≠ s.panel.sounder.pattern) = true
    · rw [if_pos hagain] at hsound
      rw [hsound, Pattern.begin_pattern]
      refine ⟨rfl, fun _ => rfl, fun hb hp => ?_⟩
      simp_all
    · rw [if_neg hagain] at hsound
      rw [hsound]
      simp_all
  | false =>
    have hpat : u.panel.sounder = s.panel.sounder := hsound
    have hl : l = s.panel.alerts := hr rfl
    rw [hasked, hpat, hs.pattern, State.patternAsked_eq (s := s) (u := s.withAlerts l) hl rfl rfl]
    simp

/-- `State.raise` raises its alert and no other, as R178 and R179 word it. -/
theorem State.raise_raises (k : AlertKind) (o : Nat) (ha : s.AlertsKept) (hs : s.SounderKept) :
    ∃ ns, s.raises (s.raise k o) s.now (s.newAlert k o (k.priority s.control.box)) ns ∧
      (s.raise k o).drafts = s.drafts ++ ns := by
  obtain ⟨-, hdist, hentries⟩ := ha
  have hf := State.raise_outside k o s
  have hmakes := s.raise_makes k o
  have hentered := raiseOf_entered (s.newAlert k o (k.priority s.control.box)) s.panel.alerts
  obtain ⟨hplays, hagain, hstays⟩ := hmakes.plays (hf.mode_eq (by decide)) (hf.conf_eq (by decide)) hs raiseOf_not_entered
  rw [← hmakes.alerts] at hentered
  have ht : (if s.control.mode = .held .invalid then 6 else s.conf.threshold) = s.threshold := by
    simp [State.threshold, State.invalid]
  have hheard : ((∃ b ∈ (s.raise k o).panel.alerts, b.kind = k ∧ b.object = o) ∧
      (if s.control.mode = .held .invalid then 6 else s.conf.threshold) ≤ k.priority s.control.box) ↔
      (raiseOf (s.newAlert k o (k.priority s.control.box)) s.panel.alerts).2.2 = true ∧
        decide (s.threshold ≤ k.priority s.control.box) = true := by
    rw [ht, hentered, decide_eq_true_eq]; rfl
  have hcounts : ∀ b ∈ s.panel.alerts, b.count ≤ 255 := fun b hb => by
    obtain ⟨-, -, -, hcount⟩ := hentries b hb
    exact hcount
  refine ⟨_, ⟨hmakes.alerts ▸ raised_raiseOf hdist hcounts, State.mustPlay_iff.2 hplays, ?_, ?_⟩,
    hmakes.drafts⟩
  · exact fun h => (hagain (h.imp hheard.1 id)).trans (Pattern.begin_eq ..)
  · exact fun hn => hstays fun h => hn (hheard.2 h)

/-- A raise is read off the alert list, the sounder, the mode and the configuration alone. -/
theorem State.raises.of_outside {now : Time} {a : Alert} {ns : List (NoticeEvent × Nat)} (h : t.raises u now a ns)
    (hs : Outside ps s t) (hu : Outside qs u v)
    (hp : (.alerts ∉ ps ∧ .sounder ∉ ps ∧ .mode ∉ ps ∧ .configuration ∉ ps) ∧
      .alerts ∉ qs ∧ .sounder ∉ qs ∧ .mode ∉ qs ∧ .configuration ∉ qs) : s.raises v now a ns := by
  obtain ⟨⟨hpa, hps, hpm, hpc⟩, hqa, hqs, hqm, hqc⟩ := hp
  obtain ⟨hraised, hplay, hagain, hstays⟩ := h
  have hta : t.panel.alerts = s.panel.alerts := hs .alerts hpa
  have hts : t.panel.sounder = s.panel.sounder := hs .sounder hps
  have hva : v.panel.alerts = u.panel.alerts := hu .alerts hqa
  have hvs : v.panel.sounder = u.panel.sounder := hu .sounder hqs
  rw [State.mustPlay_iff] at hplay
  rw [hta] at hraised
  rw [hts, hs.mode_eq hpm, hs.conf_eq hpc] at hagain hstays
  refine ⟨hva ▸ hraised, ?_, ?_, ?_⟩
  · rw [State.mustPlay_iff, hvs, hplay, State.patternAsked_eq hva (hu.mode_eq hqm) (hu.conf_eq hqc)]
  · rwa [hva, hvs]
  · rwa [hva, hvs]

theorem State.AlertsKept.outside (h : s.AlertsKept) (k : Outside ps s u) (hp : .alerts ∉ ps) : u.AlertsKept := by
  have ha : u.panel.alerts = s.panel.alerts := k .alerts hp
  rw [State.AlertsKept, ha]; exact h

theorem State.SounderKept.outside (h : s.SounderKept) (k : Outside ps s u)
    (hp : .alerts ∉ ps ∧ .sounder ∉ ps ∧ .mode ∉ ps ∧ .configuration ∉ ps) : u.SounderKept := by
  obtain ⟨hpa, hps, hpm, hpc⟩ := hp
  have hs : u.panel.sounder = s.panel.sounder := k .sounder hps
  rw [State.SounderKept, State.mustPlay_iff, State.patternAsked_eq (k .alerts hpa) (k.mode_eq hpm) (k.conf_eq hpc), hs,
    ← State.mustPlay_iff]
  exact h

end Sys2Proof.Machine

namespace Sys2Proof.Machine

variable {ps : List Part} {s t u : State}

/-! ### Flickers (R8, R9, R10) -/

/-- A track after a flicker, before it is counted: OCCUPIED with its timer stopped (R4). -/
def Track.dropped (k : Track) : Track := { k with filter := .occupied, timer := none }

theorem State.flicker_off {n : Nat} (h : (s.conf.track n).flicker = .off) :
    s.flicker n = s.putTrack n (s.track n).dropped := by unfold State.flicker; rw [h]; rfl

theorem State.flicker_each {n : Nat} (h : (s.conf.track n).flicker = .each) :
    s.flicker n =
      (s.putTrack n { (s.track n).dropped with flickers := satAdd 255 (s.track n).flickers }).emit .trackFlicker n [] := by
  unfold State.flicker; rw [h]; rfl

theorem State.flicker_below {n k : Nat} (h : (s.conf.track n).flicker = .limit k)
    (hk : (s.track n).flickers + 1 < 2 ^ k) :
    s.flicker n = s.putTrack n { (s.track n).dropped with flickers := (s.track n).flickers + 1 } := by
  unfold State.flicker; rw [h]; dsimp only
  rw [if_pos (by omega), if_neg (by omega)]; rfl

/-- The track at its flicker limit, with the failed mark set and counted (R8, R10). -/
def State.setFailed (n : Nat) (s : State) : State :=
  (s.putTrack n { (s.track n).dropped with flickers := (s.track n).flickers + 1, failed := true }).countMark n
    (s.track n).failed

theorem State.flicker_reached {n k : Nat} (h : (s.conf.track n).flicker = .limit k)
    (hk : (s.track n).flickers + 1 = 2 ^ k) :
    s.flicker n = ((s.setFailed n).emit .trackFailed n []).raise .trackFailed n := by
  unfold State.flicker; rw [h]; dsimp only
  rw [if_pos (by omega), if_pos hk]; rfl

theorem State.flicker_past {n k : Nat} (h : (s.conf.track n).flicker = .limit k) (hk : 2 ^ k ≤ (s.track n).flickers) :
    s.flicker n = s.putTrack n (s.track n).dropped := by
  unfold State.flicker; rw [h]; dsimp only
  rw [if_neg (by omega)]; rfl

theorem State.setFailed_outside (n : Nat) (s : State) : Outside [.tracks, .counters] s (s.setFailed n) := by
  simp [State.setFailed]

theorem State.setFailed_tracks (n : Nat) (s : State) :
    (s.setFailed n).tracks =
      s.tracks.put n { (s.track n).dropped with flickers := (s.track n).flickers + 1, failed := true } :=
  (State.countMark_outside n _ _).tracks_eq (by decide)

theorem State.countMark_store (n : Nat) (present : Bool) (s : State) :
    (s.countMark n present).store =
      if present then s.store else s.store.putCounter (.mark n) (s.store.counter (.mark n)).increment := by
  unfold State.countMark; split <;> rfl

theorem Outside.store_eq (h : Outside ps s u) (hp : .configuration ∉ ps ∧ .counters ∉ ps ∧ .storeFault ∉ ps) :
    u.store = s.store := by
  obtain ⟨hc, hk, hf⟩ := hp
  obtain ⟨h1, h2, h3, h4⟩ := h _ hc
  obtain ⟨h5, h6, h7⟩ := h _ hk
  have h8 : u.store.fault = s.store.fault := h _ hf
  cases hu : u.store; cases hs : s.store
  simp_all

theorem State.drafts_of_emitted (h : s.emitted = []) : s.drafts = [] := by simp [State.drafts, h]

/-- Where the list has room a raised alert stands in it, unacknowledged, with its priority and the time of the raise. -/
theorem State.mem_raise (k : AlertKind) (o : Nat) (h : s.panel.alerts.length < 16) :
    ∃ a ∈ (s.raise k o).panel.alerts, a.kind = k ∧ a.object = o ∧ a.priority = k.priority s.control.box ∧
      a.acked = false ∧ a.stamp = s.stamp := by
  obtain ⟨n, hn⟩ := mem_raiseOf (a := s.newAlert k o (k.priority s.control.box)) h
  exact ⟨_, (s.raise_makes k o).alerts ▸ hn, rfl, rfl, rfl, rfl, rfl⟩

/-- An event of a relay that replaces a track and reaches no other unit. -/
theorem relay_event_changes_track_alone {v f : State} {n : Nat} {k : Track} {ns : List (NoticeEvent × Nat)}
    (hv : Outside [.now, .inputs] s v) (hm : s.control.mode ≠ .start) (hf : Outside [.emitted] (v.putTrack n k) f)
    (hd : f.drafts = ns) :
    f.close.tracks = s.tracks.put n k ∧ s.announces f.close ns ∧ ChangesOnly [.inputs, .tracks] s f.close := by
  have hall : Outside [.now, .inputs, .tracks, .emitted] s f :=
    Outside.trans (t := v.putTrack n k) (by simpa using hv.mono (by simp)) (hf.mono (by simp))
  refine ⟨?_, State.announces_of_outside hall (by decide) hm hd, changesOnly_close (hall.mono (by simp [closing]))⟩
  rw [(State.close_outside f).tracks_eq (by decide), hf.tracks_eq (by decide), State.putTrack_tracks,
    hv.tracks_eq (by decide)]

/-- A track that reaches its flicker limit (R8, R10). -/
theorem flicker_reached_event {v : State} {n k : Nat} (hv : Outside [.now, .inputs] s v) (he : v.emitted = [])
    (hm : s.control.mode ≠ .start) (h : (v.conf.track n).flicker = .limit k) (hk : (v.track n).flickers + 1 = 2 ^ k) :
    (v.flicker n).close.tracks =
        v.tracks.put n { (v.track n).dropped with flickers := (v.track n).flickers + 1, failed := true } ∧
      (v.flicker n).close.store = (if (v.track n).failed then v.store
        else v.store.putCounter (.mark n) (v.store.counter (.mark n)).increment) ∧
      s.announcesFirst (v.flicker n).close [(.trackFailed, n)] ∧
      (v.panel.alerts.length < 16 →
        ∃ a ∈ (v.flicker n).close.panel.alerts, a.kind = .trackFailed ∧ a.object = n ∧ a.acked = false) ∧
      ChangesOnly [.inputs, .tracks, .counters, .alerts, .sounder] s (v.flicker n).close := by
  rw [State.flicker_reached h hk]
  have hset := v.setFailed_outside n
  have hraise := State.raise_outside .trackFailed n ((v.setFailed n).emit .trackFailed n [])
  have hclose := State.close_outside (((v.setFailed n).emit .trackFailed n []).raise .trackFailed n)
  have hall := ((hv.mono (ps := [.now, .inputs, .tracks, .counters, .alerts, .sounder, .emitted]) (by simp)).trans
    (hset.mono (by simp))).trans (((State.emit_outside _ _ _ _).mono (by simp)).trans (hraise.mono (by simp)))
  refine ⟨?_, ?_, ?_, fun hroom => ?_, changesOnly_close (hall.mono (by simp [closing]))⟩
  · rw [hclose.tracks_eq (by decide), hraise.tracks_eq (by decide)]
    exact v.setFailed_tracks n
  · rw [hclose.store_eq (by decide), hraise.store_eq (by decide)]
    exact State.countMark_store n _ _
  · refine State.announcesFirst_of_outside hall (by decide) hm (List.IsPrefix.trans ?_ ((State.Appends.refl _).raise _ _).drafts)
    have hd : (v.setFailed n).drafts = [] := State.drafts_of_emitted ((hset .emitted (by decide)).trans he)
    rw [State.drafts_emit, hd]; exact List.prefix_rfl
  · obtain ⟨a, ha, hkind, hobj, -, hack, -⟩ := State.mem_raise (s := (v.setFailed n).emit .trackFailed n []) .trackFailed n
      (by rwa [show ((v.setFailed n).emit .trackFailed n []).panel.alerts = v.panel.alerts from hset .alerts (by decide)])
    exact ⟨a, by rwa [show _ = _ from hclose .alerts (by decide)], hkind, hobj, hack⟩

/-- Settles O24: each flicker mode by its equation for `State.flicker`, under the frame of the event. -/
theorem flickersAreCountedByMode : Obligations.FlickersAreCountedByMode := by
  intro s tm n hw hn hfit hpick hpicking
  obtain ⟨hp, hemit, hmode⟩ := State.started_of_working hw
  have hv := s.withRelay_outside tm n false
  have hdrop : (s.withRelay tm n false).relayDrops n = (s.withRelay tm n false).flicker n :=
    State.relayDrops_picking ((State.filtering_iff n).2 ⟨hw.2, hfit⟩) hpicking
  have hdrafts : (s.withRelay tm n false).drafts = [] := State.drafts_of_emitted hemit
  have plain {k : Track} (he : (s.withRelay tm n false).flicker n = (s.withRelay tm n false).putTrack n k) :=
    relay_event_changes_track_alone (f := (s.withRelay tm n false).flicker n) (k := k) (ns := []) hv hmode
      (by rw [he]; exact .refl _ _) (by rw [he]; exact hdrafts)
  refine ⟨_, exec_trackRelayDrop hp hn hpick, ?_⟩
  rw [hdrop]
  refine ⟨?_, fun h => ?_, fun h => ?_, fun k h hk => ?_, fun k h hk => ?_, fun k h hk => ?_⟩
  · exact (State.close_outside _ .inputs (by decide)).trans (State.flicker_outside n _ .inputs (by decide))
  · exact plain (State.flicker_off h)
  · rw [State.flicker_each (s := s.withRelay tm n false) h]
    refine relay_event_changes_track_alone hv hmode (State.emit_outside _ _ _ _) ?_
    rw [State.drafts_emit]
    exact congrArg (· ++ [(NoticeEvent.trackFlicker, n)]) hdrafts
  · exact plain (State.flicker_below h hk)
  · exact flicker_reached_event hv hemit hmode h hk
  · exact plain (State.flicker_past h hk)

/-! ### Picking up (R5, R6, R7) -/

/-- A relay change that the filter does not take moves the terminal alone (R7, R17, R18). -/
theorem relay_event_unfiltered {n : Nat} {picked : Bool} {tm : Time} (he : s.emitted = []) :
    (s.withRelay tm n picked).close.inputs = { s.inputs with relays := s.inputs.relays.put n picked } ∧
      (s.withRelay tm n picked).close.link.outbox = s.link.outbox ∧
      (s.withRelay tm n picked).close.link.lost = s.link.lost ∧ ChangesOnly [.inputs] s (s.withRelay tm n picked).close := by
  obtain ⟨hout, hlost, -⟩ := State.close_places_nothing (s := s.withRelay tm n picked) he
  exact ⟨State.close_outside _ .inputs (by decide), hout, hlost,
    changesOnly_close ((s.withRelay_outside tm n picked).mono (by simp [closing]))⟩

theorem State.not_filtering {n : Nat}
    (h : s.control.mode = .start ∨ s.control.mode = .held .invalid ∨ s.conf.fitted n = false) : s.filtering n = false := by
  rcases h with h | h | h <;> simp [State.filtering, State.live, h]

/-- Track `n` is CLEAR with no flickers (R6). -/
def State.setClear (n : Nat) (s : State) : State :=
  s.putTrack n { s.track n with filter := .clear, timer := none, flickers := 0 }

theorem State.pickUpExpires_eq {n : Nat} {e : Time} (hf : s.filtering n = true) (hp : (s.track n).filter = .picking)
    (ht : (s.track n).timer = some e) (he : e ≤ s.now) :
    s.pickUpExpires n = if (s.track n).marked then s.setClear n
      else (((s.setClear n).emit .trackClear n []).becomesClear n).settle := by
  unfold State.pickUpExpires
  rw [if_pos (by simp [hf, hp, ht, due, he])]; rfl

theorem State.becomesClear_settled_outside (n : Nat) (e : NoticeEvent) (x : List Byte) (s : State) :
    Outside [.holds, .sections, .register, .levers, .choices, .emitted] s ((s.emit e n x).becomesClear n).settle := by simp

/-- The clearing of a track is announced before what other units make of it. -/
theorem State.becomesClear_settled_drafts_first {n : Nat} {e : NoticeEvent} (x : List Byte) (h : s.emitted = [])
    (he : e ≠ .holdRemoved) : [(e, n)] <+: ((s.emit e n x).becomesClear n).settle.drafts := by
  have h0 : (s.emit e n x).drafts = [(e, n)] := by simp [State.drafts, h, Draft.key]
  refine State.prefix_settle (by simpa using he) ?_
  rw [← h0]
  exact ((State.Appends.refl _).becomesClear n).drafts

/-- Settles O25: a relay change that no filter takes, the start of a pick-up, and its end with and without a mark. -/
theorem pickUpTakesTheDelay : Obligations.PickUpTakesTheDelay := by
  refine ⟨fun s tm n hb hn hmode => ⟨fun hpick => ?_, fun hpick => ?_⟩, fun s tm n hw hn hfit => ⟨fun hpick hocc => ?_,
    fun e hpicking ht he => ?_⟩⟩
  · refine ⟨_, exec_trackRelayDrop hb.1 hn hpick, ?_⟩
    rw [State.relayDrops_unfiltered (s := s.withRelay tm n false) (State.not_filtering hmode)]
    exact relay_event_unfiltered hb.2
  · refine ⟨_, exec_trackRelayPickUp hb.1 hn hpick, ?_⟩
    rw [State.relayPicksUp_unfiltered (s := s.withRelay tm n true) (State.not_filtering hmode)]
    exact relay_event_unfiltered hb.2
  · obtain ⟨hp, hemit, hmode⟩ := State.started_of_working hw
    refine ⟨_, exec_trackRelayPickUp hp hn hpick, ?_⟩
    rw [State.relayPicksUp_occupied (s := s.withRelay tm n true) ((State.filtering_iff n).2 ⟨hw.2, hfit⟩) hocc]
    exact ⟨State.close_outside _ .inputs (by decide), relay_event_changes_track_alone (s.withRelay_outside tm n true)
      hmode (.refl _ _) (State.drafts_of_emitted hemit)⟩
  · obtain ⟨hp, hemit, hmode⟩ := State.started_of_working hw
    refine ⟨_, exec_pickUpTimerExpiry hp, ?_⟩
    rw [State.pickUpExpires_eq (s := s.advance tm) ((State.filtering_iff n).2 ⟨hw.2, hfit⟩) hpicking ht he]
    have hset : Outside [.now, .tracks] s ((s.advance tm).setClear n) := by simp [State.setClear]
    cases hmark : ((s.advance tm).track n).marked with
    | true =>
      have honly : ChangesOnly [.tracks] s ((s.advance tm).setClear n).close :=
        changesOnly_close (hset.mono (by simp [closing]))
      exact ⟨(State.close_outside _).tracks_eq (by decide), fun _ => honly,
        fun hu => absurd (hmark.symm.trans hu) (by simp), honly.mono (by simp [closing])⟩
    | false =>
      have hall := (hset.mono (ps := [.now, .tracks, .holds, .sections, .register, .levers, .choices, .emitted])
        (by simp)).trans ((State.becomesClear_settled_outside n .trackClear [] _).mono (by simp))
      refine ⟨?_, fun hu => absurd (hmark.symm.trans hu) (by simp), fun _ => ?_,
        changesOnly_close (hall.mono (by simp [closing]))⟩
      · exact ((State.close_outside _).tracks_eq (by decide)).trans
          ((State.becomesClear_settled_outside n .trackClear [] _).tracks_eq (by decide))
      · exact State.announcesFirst_of_outside hall (by decide) hmode
          (State.becomesClear_settled_drafts_first [] hemit (by simp))

end Sys2Proof.Machine

namespace Sys2Proof

/-- What a table holds at a number, put there again, changes nothing. -/
theorem Tab.put_get {n : Nat} {α : Type} (t : Tab n α) (d : α) (k : Nat) : t.put k (t.get d k) = t := by
  cases k with
  | zero => rfl
  | succ k =>
    simp only [Tab.put]
    split
    · next h =>
      rw [Tab.get_eq t d k h]
      ext i hi
      by_cases e : k = i
      · subst e; simp [Vector.get]
      · simp [e]
    · rfl

namespace Machine

variable {ps : List Part} {s t u : State}

/-! ### Requests that are served at once (R185, R190) -/

/-- A reply fills the slot (R186). -/
def State.replied (k : Reply) (s : State) : State := s.putLink { s.link with slot := some k }

theorem State.replied_outside (k : Reply) (s : State) : Outside [.slot] s (s.replied k) := by simp [State.replied]

theorem State.replies_close (kind tag : Byte) (r : Result) (rest : List Byte) (s : State) :
    (s.replied ⟨kind, tag, r, rest⟩).close.replies kind tag r rest :=
  State.close_outside (s.replied ⟨kind, tag, r, rest⟩) .slot (by decide)

theorem State.emitted_of_ready (h : s.ready) : s.emitted = [] := by
  obtain ⟨⟨⟨-, he⟩, -⟩, -⟩ := h
  exact he

/-- A request that passes the tests of R185 is answered by its owner. -/
theorem State.request_own (tm : Time) (tag : Byte) {r : Request} (h : s.ready) (hf : s.requestFail r = none) :
    s.request tm tag r = (((s.advance tm).own r).2.2.replied
      ⟨r.replyKind, tag, ((s.advance tm).own r).1, ((s.advance tm).own r).2.1⟩).close := by
  have hserve : (s.advance tm).serve r = (s.advance tm).own r := by
    unfold State.serve
    rw [show (s.advance tm).requestFail r = s.requestFail r from rfl, hf]
  rw [State.request_ready tm tag r h, hserve]; rfl

/-- A request that its owner does not grant is answered, and changes nothing else. -/
theorem State.onlyReplies_close {tm : Time} {kind tag : Byte} {r : Result} {rest : List Byte} (he : s.emitted = [])
    (hr : r ≠ .ok) : s.onlyReplies ((s.advance tm).replied ⟨kind, tag, r, rest⟩).close kind tag r rest := by
  obtain ⟨hout, hlost, hsince⟩ := State.close_places_nothing (s := (s.advance tm).replied ⟨kind, tag, r, rest⟩) he
  refine ⟨State.replies_close .., hout, hlost, ?_, changesOnly_close ?_⟩
  · rw [if_neg fun h => hr h.2]; exact hsince
  · exact ((State.advance_outside tm s).mono (by simp [closing])).trans ((State.replied_outside _ _).mono (by simp [closing]))

/-! ### TRACK_RESTORE (R12) -/

theorem State.requestFail_trackRestore {n : Byte} (hk : s.inputs.key = true) (hn : isTrack n.toNat = true) :
    s.requestFail (.trackRestore n) = none := by simp [State.requestFail, Request.fits, hk, hn]

/-- A track with its marks and its count cleared (R12). -/
def State.setRestored (n : Nat) (s : State) : State :=
  s.putTrack n { s.track n with failed := false, suspect := false, flickers := 0 }

theorem State.trackRestore_clear {n : Nat} (h : (s.track n).filter = .clear) :
    ∃ x : List Byte, s.trackRestore n = (.ok, [], if (s.track n).marked
      then (((s.setRestored n).emit .trackRestored n x).becomesClear n).settle
      else (s.setRestored n).emit .trackRestored n x) := by
  unfold State.trackRestore
  rw [if_pos h]; exact ⟨_, rfl⟩

theorem State.trackRestore_refused {n : Nat} (h : (s.track n).filter ≠ .clear) :
    s.trackRestore n = (.conditions, b1 1 ++ bObject (.track n), s) := if_neg h

/-- A restored track, its notice first, with what the other units make of a track that becomes effectively clear. -/
theorem State.trackRestore_makes {n : Nat} (h : (s.track n).filter = .clear) (he : s.emitted = []) :
    ∃ v, s.trackRestore n = (.ok, [], v) ∧
      Outside [.holds, .sections, .register, .levers, .choices, .emitted] (s.setRestored n) v ∧
      [(.trackRestored, n)] <+: v.drafts := by
  obtain ⟨x, hx⟩ := State.trackRestore_clear h
  refine ⟨_, hx, ?_, ?_⟩ <;> split
  · exact State.becomesClear_settled_outside n .trackRestored x _
  · simp
  · exact State.becomesClear_settled_drafts_first x he (by simp)
  · rw [State.drafts_emit, State.drafts_of_emitted (s := s.setRestored n) he]; exact List.prefix_rfl

/-! ### CLEAR_STICKY (R39) -/

theorem State.requestFail_clearSticky {n : Byte} (hk : s.inputs.key = true) (hn : n.toNat ≤ 24) :
    s.requestFail (.clearSticky n) = none := by simp [State.requestFail, Request.fits, hk, hn]

/-- A lever whose fault mark CLEAR_STICKY has cleared, where it is not in FAULT (R39). -/
def Lever.unstuck (l : Lever) : Lever := { l with faultMark := l.faultMark && decide (l.phase = .fault) }

theorem State.clearMark_levers (n : Nat) (s : State) :
    (s.clearMark n).levers = s.levers.put n (s.lever n).unstuck := by
  have hsame (h : (s.lever n).unstuck = s.lever n) : s.levers = s.levers.put n (s.lever n).unstuck := by
    rw [h]; exact (Tab.put_get s.levers {} n).symm
  unfold State.clearMark; dsimp only
  split
  · next h =>
    simp only [Bool.and_eq_true, decide_eq_true_eq] at h
    simp [Lever.unstuck, h]
  · next h =>
    refine hsame ?_
    unfold Lever.unstuck
    cases hl : s.lever n
    by_cases hf : (s.lever n).phase = .fault <;> simp_all

theorem State.clearMark_lever (n j : Nat) (s : State) :
    (s.clearMark n).lever j = if j = n ∧ 1 ≤ n ∧ n ≤ 24 then (s.lever n).unstuck else s.lever j := by
  rw [State.lever, State.clearMark_levers]; exact Tab.get_put ..

theorem State.clearMarks_lever (s : State) {n : Nat} (hn : n ∈ Tab.numbers 24) :
    ((Tab.numbers 24).foldl State.clearMark s).lever n = (s.lever n).unstuck := by
  have := foldl_read (f := State.clearMark) (g := fun n v => v.lever n) (F := fun n v => (v.lever n).unstuck)
    (Tab.nodup_numbers 24) (fun a ha v => by rw [State.clearMark_lever, if_pos ⟨rfl, Tab.mem_numbers.1 ha⟩])
    (fun v a n h => by rw [State.clearMark_lever, if_neg fun e => h e.1])
    (fun v a n h => by rw [State.clearMark_lever, if_neg fun e => h e.1]) s n
  exact this.trans (if_pos hn)

/-- The bytes of CONDITIONS for a track or a lever that a byte of the request names (log 15, log 19). -/
theorem conditionBytes_track (n : Byte) : b1 1 ++ bObject (.track n.toNat) = [1, 2, n] := by simp [b1, bObject]
theorem conditionBytes_lever (n : Byte) : b1 1 ++ bObject (.lever n.toNat) = [1, 1, n] := by simp [b1, bObject]

theorem trackRestore_granted {tm : Time} {tag n : Byte} (hr : s.ready) (hk : s.inputs.key = true)
    (hn : isTrack n.toNat = true) (hc : (s.track n.toNat).filter = .clear) :
    ∃ u, exec (.trackRestore tm tag n) s = .next u ∧ u.replies 0xA3 tag .ok [] ∧
      u.tracks = s.tracks.put n.toNat { s.track n.toNat with failed := false, suspect := false, flickers := 0 } ∧
      s.announcesFirst u [(.trackRestored, n.toNat)] ∧
      ChangesOnly [.tracks, .slot, .holds, .sections, .register, .levers, .choices] s u := by
  obtain ⟨v, hv, hframe, hfirst⟩ := State.trackRestore_makes (s := s.advance tm) hc (State.emitted_of_ready hr)
  refine ⟨_, congrArg Host.Outcome.next (State.request_own tm tag hr (State.requestFail_trackRestore hk hn)), ?_⟩
  rw [show (s.advance tm).own (.trackRestore n) = _ from hv]
  have hslot := State.replied_outside ⟨(Request.trackRestore n).replyKind, tag, .ok, []⟩ v
  have hall : Outside [.now, .tracks, .holds, .sections, .register, .levers, .choices, .emitted, .slot] s
      (v.replied ⟨(Request.trackRestore n).replyKind, tag, .ok, []⟩) :=
    (Outside.trans (t := (s.advance tm).setRestored n.toNat) (by simp [State.setRestored]) (hframe.mono (by simp))).trans
      (hslot.mono (by simp))
  refine ⟨State.replies_close _ _ _ _ _, ?_, State.announcesFirst_of_outside hall (by decide) hr.1.2 hfirst,
    changesOnly_close (hall.mono (by simp [closing]))⟩
  rw [(State.close_outside _).tracks_eq (by decide), hslot.tracks_eq (by decide), hframe.tracks_eq (by decide)]
  rfl

/-- CLEAR_STICKY where it is granted, with the levers as it leaves them. -/
theorem clearSticky_granted {tm : Time} {tag n : Byte} {v : State} (hr : s.ready) (hk : s.inputs.key = true)
    (hn : n.toNat ≤ 24) (hv : (s.advance tm).clearSticky n.toNat = (.ok, [], v)) :
    ∃ u, exec (.clearSticky tm tag n) s = .next u ∧ u.replies 0xA4 tag .ok [] ∧ u.levers = v.levers ∧
      ChangesOnly [.levers, .slot] s u := by
  have hframe := State.clearSticky_outside n.toNat (s.advance tm)
  rw [hv] at hframe
  refine ⟨_, congrArg Host.Outcome.next (State.request_own tm tag hr (State.requestFail_clearSticky hk hn)), ?_⟩
  rw [show (s.advance tm).own (.clearSticky n) = _ from hv]
  have hslot := State.replied_outside ⟨(Request.clearSticky n).replyKind, tag, .ok, []⟩ v
  refine ⟨State.replies_close _ _ _ _ _, ?_, changesOnly_close ?_⟩
  · exact (State.close_outside _ .levers (by decide)).trans (hslot .levers (by decide))
  · exact (((State.advance_outside tm s).mono (by simp [closing])).trans (hframe.mono (by simp [closing]))).trans
      (hslot.mono (by simp [closing]))

theorem lever_of_levers {n : Nat} (h : u.levers = s.levers) : u.lever n = s.lever n :=
  congrArg (fun l : Tab 24 Lever => l.get {} n) h

/-- Settles O26: TRACK_RESTORE and CLEAR_STICKY by what their owners answer, granted and refused. -/
theorem technicianClearsMarks : Obligations.TechnicianClearsMarks := by
  refine ⟨fun s tm tag n hr hk hn => ⟨trackRestore_granted hr hk hn, fun hc => ?_⟩,
    fun s tm tag n hr hk => ⟨fun hn hf => ?_, fun hn hf => ?_, fun hn => ?_⟩⟩
  · refine ⟨_, congrArg Host.Outcome.next (State.request_own tm tag hr (State.requestFail_trackRestore hk hn)), ?_⟩
    rw [show (s.advance tm).own (.trackRestore n) = _ from State.trackRestore_refused (s := s.advance tm) hc,
      conditionBytes_track]
    exact State.onlyReplies_close (State.emitted_of_ready hr) (by simp)
  · simp only [isLever, Bool.and_eq_true, decide_eq_true_eq] at hn
    have hv : (s.advance tm).clearSticky n.toNat = (.ok, [], (s.advance tm).clearMark n.toNat) := by
      unfold State.clearSticky
      rw [if_neg (by omega), if_neg (show ¬ ((s.advance tm).lever n.toNat).phase = .fault from hf)]
    obtain ⟨u, hu, hreply, hlevers, honly⟩ := clearSticky_granted hr hk hn.2 hv
    refine ⟨u, hu, hreply, ?_, honly⟩
    have hmark : (s.lever n.toNat).unstuck = { s.lever n.toNat with faultMark := false } := by simp [Lever.unstuck, hf]
    rw [hlevers, State.clearMark_levers, ← hmark]; rfl
  · simp only [isLever, Bool.and_eq_true, decide_eq_true_eq] at hn
    have hv : (s.advance tm).clearSticky n.toNat = (.conditions, b1 1 ++ bObject (.lever n.toNat), s.advance tm) := by
      unfold State.clearSticky
      rw [if_neg (by omega), if_pos (show ((s.advance tm).lever n.toNat).phase = .fault from hf)]
    refine ⟨_, congrArg Host.Outcome.next (State.request_own tm tag hr (State.requestFail_clearSticky hk hn.2)), ?_⟩
    rw [show (s.advance tm).own (.clearSticky n) = _ from hv, conditionBytes_lever]
    exact State.onlyReplies_close (State.emitted_of_ready hr) (by simp)
  · subst hn
    have hv : (s.advance tm).clearSticky (0 : Byte).toNat =
        (.ok, [], (Tab.numbers 24).foldl State.clearMark (s.advance tm)) := rfl
    obtain ⟨u, hu, hreply, hlevers, honly⟩ := clearSticky_granted hr hk (by decide) hv
    exact ⟨u, hu, hreply, fun m hm => (lever_of_levers hlevers).trans (State.clearMarks_lever _ hm), honly⟩

end Machine
end Sys2Proof

namespace Sys2Proof.Machine

variable {ps : List Part} {s t u : State}

/-! ### Suspect marks (R11) -/

/-- A track with the suspect mark (R11). -/
def Track.suspected (k : Track) : Track := { k with suspect := true }

@[simp] theorem Track.suspected_suspect (k : Track) : k.suspected.suspect = true := rfl

theorem Track.suspected_eq {k : Track} (h : k.suspect = true) : k.suspected = k := by
  cases k; simp_all [Track.suspected]

/-- Track `n` with the suspect mark, counted and reported (R10, R11). -/
def State.setSuspect (n : Nat) (s : State) : State :=
  ((s.putTrack n (s.track n).suspected).countMark n false).emit .trackSuspect n []

theorem State.suspectRequest_marks {n : Nat} (hf : s.conf.fitted n = true) (h : (s.track n).suspect = false) :
    s.suspectRequest n = if s.clear n then (s.setSuspect n).becomesOccupied n else s.setSuspect n := by
  unfold State.suspectRequest; dsimp only
  rw [if_pos (by simp [hf, h])]; rfl

theorem State.suspectRequest_idle {n : Nat} (h : ¬ (s.conf.fitted n = true ∧ (s.track n).suspect = false)) :
    s.suspectRequest n = s := by
  unfold State.suspectRequest; dsimp only
  exact if_neg (by simpa using h)

/-- Beyond the mark and its count, a suspect request reaches holds and sections alone, with the alerts they raise. -/
theorem State.suspectRequest_after (n : Nat) (s : State) (hf : s.conf.fitted n = true)
    (h : (s.track n).suspect = false) :
    Outside [.holds, .sections, .alerts, .sounder, .emitted] (s.setSuspect n) (s.suspectRequest n) := by
  rw [State.suspectRequest_marks hf h]
  split
  · exact State.becomesOccupied_outside n _
  · exact .refl _ _

theorem State.setSuspect_outside (n : Nat) (s : State) : Outside [.tracks, .counters, .emitted] s (s.setSuspect n) := by
  simp [State.setSuspect]

theorem State.setSuspect_track (a n : Nat) (s : State) (hn : n ∈ Tab.numbers 16) :
    (s.setSuspect a).track n = if n = a then (s.track n).suspected else s.track n := by
  have hput : (s.setSuspect a).tracks = (s.putTrack a (s.track a).suspected).tracks :=
    (State.countMark_outside a false _).tracks_eq (by decide)
  have hn := Tab.mem_numbers.1 hn
  rw [State.track, hput]
  refine (State.track_putTrack (s := s) ..).trans ?_
  by_cases h : n = a
  · subst h; rw [if_pos ⟨rfl, hn⟩, if_pos rfl]
  · rw [if_neg fun e => h e.1, if_neg h]

theorem State.setSuspect_counter (a n : Nat) (s : State) (hn : n ∈ Tab.numbers 16) :
    (s.setSuspect a).store.counter (.mark n) =
      if n = a then (s.store.counter (.mark n)).increment else s.store.counter (.mark n) := by
  have hn := Tab.mem_numbers.1 hn
  have hput : (s.setSuspect a).store = s.store.putCounter (.mark a) (s.store.counter (.mark a)).increment :=
    State.countMark_store ..
  rw [hput, Store.counter_putCounter]
  by_cases h : n = a
  · subst h; rw [if_pos ⟨rfl, by simpa [CounterName.wellFormed, isTrack] using hn⟩, if_pos rfl]
  · rw [if_neg fun e => h (by injection e.1), if_neg h]

theorem State.suspectRequest_track (a n : Nat) (s : State) (hn : n ∈ Tab.numbers 16) :
    (s.suspectRequest a).track n =
      if n = a ∧ s.conf.fitted n = true then (s.track n).suspected else s.track n := by
  by_cases h : s.conf.fitted a = true ∧ (s.track a).suspect = false
  · have htrack : (s.suspectRequest a).track n = (s.setSuspect a).track n :=
      congrArg (fun l : Tab 16 Track => l.get {} n) ((State.suspectRequest_after a s h.1 h.2).tracks_eq (by decide))
    rw [htrack, State.setSuspect_track a n s hn]
    by_cases e : n = a
    · subst e; simp [h.1]
    · simp [e]
  · rw [State.suspectRequest_idle h]
    split
    · next e =>
      obtain ⟨rfl, hf⟩ := e
      have hs : (s.track n).suspect = true := by simpa [hf] using h
      exact (Track.suspected_eq hs).symm
    · rfl

theorem State.suspectRequest_counter (a n : Nat) (s : State) (hn : n ∈ Tab.numbers 16) :
    (s.suspectRequest a).store.counter (.mark n) =
      if n = a ∧ s.conf.fitted n = true ∧ (s.track n).suspect = false then (s.store.counter (.mark n)).increment
      else s.store.counter (.mark n) := by
  by_cases h : s.conf.fitted a = true ∧ (s.track a).suspect = false
  · rw [(State.suspectRequest_after a s h.1 h.2).counter_eq (by decide), State.setSuspect_counter a n s hn]
    by_cases e : n = a
    · subst e; rw [if_pos rfl, if_pos ⟨rfl, h⟩]
    · rw [if_neg e, if_neg fun k => e k.1]
  · rw [State.suspectRequest_idle h, if_neg]
    rintro ⟨rfl, hf⟩; exact h hf

/-- Suspect requests for a list of tracks. -/
def State.suspectAll (l : List Nat) (s : State) : State := l.foldl (fun s n => s.suspectRequest n) s

theorem State.suspectAll_outside (l : List Nat) (s : State) :
    Outside [.tracks, .counters, .holds, .sections, .alerts, .sounder, .emitted] s (s.suspectAll l) := by
  induction l generalizing s with
  | nil => exact .refl _ _
  | cons a l ih => exact (State.suspectRequest_outside a s).trans (ih _)

/-- Requests mark and count each fitted track of the list once. -/
theorem State.suspectAll_marks {n : Nat} (l : List Nat) (s : State) (hn : n ∈ Tab.numbers 16) :
    (s.suspectAll l).track n =
        (if n ∈ l ∧ s.conf.fitted n = true then (s.track n).suspected else s.track n) ∧
      (s.suspectAll l).store.counter (.mark n) =
        if n ∈ l ∧ s.conf.fitted n = true ∧ (s.track n).suspect = false then (s.store.counter (.mark n)).increment
        else s.store.counter (.mark n) := by
  induction l generalizing s with
  | nil => simp [State.suspectAll]
  | cons a l ih =>
    obtain ⟨htrack, hcounter⟩ := ih (s.suspectRequest a)
    have hconf : (s.suspectRequest a).conf = s.conf := (State.suspectRequest_outside a s).conf_eq (by decide)
    rw [hconf, State.suspectRequest_track a n s hn] at htrack hcounter
    rw [State.suspectRequest_counter a n s hn] at hcounter
    by_cases hf : s.conf.fitted n = true
    · by_cases e : n = a
      · subst e
        refine ⟨htrack.trans ?_, hcounter.trans ?_⟩
        · simp [hf, Track.suspected_eq (Track.suspected_suspect _)]
        · simp [hf]
      · exact ⟨htrack.trans (by simp [e]), hcounter.trans (by simp [e])⟩
    · exact ⟨htrack.trans (by simp [hf]), hcounter.trans (by simp [hf])⟩

/-! ### Sections fouled by the marks (R82) -/

/-- The sections whose accepting half is at LC. -/
def State.atLc (s : State) : Finset Nat := (Finset.Icc 1 6).filter fun x => (s.sec x).acc.state = .lc

theorem State.card_atLc_le (s : State) : s.atLc.card ≤ 6 := (Finset.card_filter_le ..).trans (by simp)

theorem State.atLc_eq (h : ∀ x, (u.sec x).acc.state = (s.sec x).acc.state) : u.atLc = s.atLc := by
  simp only [State.atLc, h]

theorem State.sec_of_outside (h : Outside ps s u) (hp : .sections ∉ ps) (x : Nat) : u.sec x = s.sec x :=
  congrArg (fun l : Tab 6 Sec => l.get {} x) (h .sections hp)

/-- A clearing track that is occupied at LB or TOL changes neither the state of a section nor another unit (R81). -/
theorem State.clearingOccupied_quiet {x : Nat} (h : (s.sec x).acc.state ≠ .lc) :
    Outside [.sections] s (s.clearingOccupied x) ∧
      ∀ y, ((s.clearingOccupied x).sec y).acc.state = (s.sec y).acc.state := by
  unfold State.clearingOccupied; dsimp only
  split
  · refine ⟨by simp, fun y => ?_⟩
    rw [State.sec_putAcc]; split
    · next e => rw [e.1]
    · rfl
  · next hlc => exact absurd hlc h
  · exact ⟨.refl _ _, fun _ => rfl⟩

/-- A clearing track that is occupied at LC brings the section to TOL (R82). -/
theorem State.clearingOccupied_fouls {x : Nat} (h : (s.sec x).acc.state = .lc) : s.clearingOccupied x = s.foul x := by
  unfold State.clearingOccupied; simp only [h]

theorem State.foul_atLc {x : Nat} (hx : 1 ≤ x ∧ x ≤ 6) (s : State) : (s.foul x).atLc = s.atLc.erase x := by
  have hsec (y : Nat) : ((s.foul x).sec y).acc.state = if y = x then .tol else (s.sec y).acc.state := by
    have hraise : (s.foul x).sec y = (s.putAcc x { (s.sec x).acc.enterTol true with disagreement := true }).sec y :=
      State.sec_of_outside (State.raise_outside .clearingFouled x _) (by decide) y
    rw [hraise, State.sec_putAcc]
    by_cases e : y = x <;> simp [e, hx, Accepting.enterTol]
  ext y
  simp only [State.atLc, Finset.mem_filter, Finset.mem_erase, hsec]
  by_cases e : y = x <;> simp [e]

/-- An entry that no raise of another kind removes stays in a list with room. -/
theorem mem_raiseOf_of_mem {a b : Alert} {l : List Alert} (hl : l.length < 16) (hb : b ∈ l) (hk : b.kind ≠ a.kind) :
    b ∈ (raiseOf a l).1 := by
  unfold raiseOf
  cases hfind : l.find? a.same with
  | none => simp [hl, hb]
  | some old =>
    have hsame := (Alert.same_iff.1 (List.find?_some hfind)).1
    refine List.mem_append_left _ (List.mem_filter.2 ⟨hb, ?_⟩)
    rw [Bool.not_eq_true', Bool.eq_false_iff]
    exact fun h => hk ((Alert.same_iff.1 h).1.symm.trans hsame.symm)

theorem raiseOf_length_le {a : Alert} {l : List Alert} (hl : l.length < 16) : (raiseOf a l).1.length ≤ l.length + 1 := by
  unfold raiseOf
  cases l.find? a.same with
  | none => simp [hl]
  | some old => simpa [dropAlert] using List.length_filter_le _ l

/-- The alert `a` stands in a list that has room for an alert of each section at LC. -/
structure State.KeepsAlert (a : Alert) (s : State) : Prop where
  mem : a ∈ s.panel.alerts
  room : s.panel.alerts.length + s.atLc.card ≤ 16

theorem State.KeepsAlert.of_outside {a : Alert} (h : s.KeepsAlert a) (k : Outside ps s u)
    (hp : .alerts ∉ ps ∧ .sections ∉ ps) : u.KeepsAlert a := by
  have ha : u.panel.alerts = s.panel.alerts := k .alerts hp.1
  have hlc : u.atLc = s.atLc := State.atLc_eq fun x => by rw [State.sec_of_outside k hp.2]
  exact ⟨ha ▸ h.mem, by rw [ha, hlc]; exact h.room⟩

theorem State.KeepsAlert.clearingOccupied {a : Alert} {x : Nat} (h : s.KeepsAlert a) (hk : a.kind ≠ .clearingFouled)
    (hx : 1 ≤ x ∧ x ≤ 6) : (s.clearingOccupied x).KeepsAlert a := by
  by_cases hlc : (s.sec x).acc.state = .lc
  · rw [State.clearingOccupied_fouls hlc]
    have hmem : x ∈ s.atLc := Finset.mem_filter.2 ⟨Finset.mem_Icc.2 hx, hlc⟩
    have hcard : (s.atLc.erase x).card + 1 = s.atLc.card := Finset.card_erase_add_one hmem
    have hroom : s.panel.alerts.length < 16 := by have := h.room; omega
    obtain ⟨k, hmakes⟩ : ∃ k, k.kind = .clearingFouled ∧ (s.foul x).panel.alerts = (raiseOf k s.panel.alerts).1 :=
      ⟨_, rfl, (State.raise_makes .clearingFouled x _).alerts⟩
    refine ⟨?_, ?_⟩
    · rw [hmakes.2]; exact mem_raiseOf_of_mem hroom h.mem (hmakes.1 ▸ hk)
    · have := raiseOf_length_le (a := k) hroom
      have := h.room
      rw [hmakes.2, State.foul_atLc hx]; omega
  · obtain ⟨hframe, hstate⟩ := State.clearingOccupied_quiet hlc
    have ha : (s.clearingOccupied x).panel.alerts = s.panel.alerts := hframe .alerts (by decide)
    exact ⟨ha ▸ h.mem, by rw [ha, State.atLc_eq hstate]; exact h.room⟩

theorem State.mem_clearingSections {t x : Nat} (h : x ∈ s.clearingSections t) :
    x ∈ Tab.numbers 6 ∧ (s.conf.sec x).role = .accepting := by
  obtain ⟨hx, hrole⟩ := List.mem_filter.1 h
  rw [Bool.and_eq_true, decide_eq_true_eq] at hrole
  exact ⟨hx, hrole.1⟩

theorem State.KeepsAlert.becomesOccupied {a : Alert} (n : Nat) (h : s.KeepsAlert a) (hk : a.kind ≠ .clearingFouled) :
    (s.becomesOccupied n).KeepsAlert a := by
  have sections (l : List Nat) (hl : ∀ x ∈ l, x ∈ Tab.numbers 6) (v : State) (hv : v.KeepsAlert a) :
      (l.foldl State.clearingOccupied v).KeepsAlert a := by
    induction l generalizing v with
    | nil => exact hv
    | cons x l ih =>
      exact ih (fun y hy => hl y (List.mem_cons_of_mem _ hy)) _
        (hv.clearingOccupied hk (Tab.mem_numbers.1 (hl x (List.mem_cons_self ..))))
  exact sections _ (fun x hx => (State.mem_clearingSections hx).1) _
    (h.of_outside (State.holdsTrackOccupied_outside n s) (by decide))

theorem State.KeepsAlert.suspectAll {a : Alert} {l : List Nat} (h : s.KeepsAlert a) (hk : a.kind ≠ .clearingFouled) :
    (s.suspectAll l).KeepsAlert a := by
  induction l generalizing s with
  | nil => exact h
  | cons n l ih =>
    refine ih (s := s.suspectRequest n) ?_
    by_cases hn : s.conf.fitted n = true ∧ (s.track n).suspect = false
    · rw [State.suspectRequest_marks hn.1 hn.2]
      have hset : (s.setSuspect n).KeepsAlert a := h.of_outside (State.setSuspect_outside n s) (by decide)
      split
      · exact hset.becomesOccupied n hk
      · exact hset
    · rw [State.suspectRequest_idle hn]; exact h

/-! ### Marks that foul no section -/

/-- No accepting section is at LC. -/
def State.NoneAtLc (s : State) : Prop :=
  ∀ x ∈ Tab.numbers 6, (s.conf.sec x).role = .accepting → (s.sec x).acc.state ≠ .lc

/-- What becomes of the part where the marks foul no section: no section changes its state, and no alert is raised. -/
structure State.Unfouled (s u : State) : Prop where
  frame : Outside [.tracks, .counters, .holds, .sections, .emitted] s u
  state : ∀ x, (u.sec x).acc.state = (s.sec x).acc.state

theorem State.Unfouled.refl (s : State) : s.Unfouled s := ⟨.refl _ _, fun _ => rfl⟩

theorem State.Unfouled.trans (h : s.Unfouled t) (k : t.Unfouled u) : s.Unfouled u :=
  ⟨h.frame.trans k.frame, fun x => (k.state x).trans (h.state x)⟩

theorem State.Unfouled.of_outside (h : Outside [.tracks, .counters, .holds, .emitted] s u) : s.Unfouled u :=
  ⟨h.mono (by simp), fun x => by rw [State.sec_of_outside h (by decide)]⟩

theorem State.NoneAtLc.outside (h : s.NoneAtLc) (k : Outside ps s u) (hp : .sections ∉ ps ∧ .configuration ∉ ps) :
    u.NoneAtLc := fun x hx hr => by
  rw [k.conf_eq hp.2] at hr
  rw [State.sec_of_outside k hp.1]; exact h x hx hr

theorem State.Unfouled.noneAtLc (h : s.Unfouled u) (hs : s.NoneAtLc) : u.NoneAtLc := fun x hx hr => by
  rw [h.frame.conf_eq (by decide)] at hr
  rw [h.state x]; exact hs x hx hr

theorem State.sectionsTrackOccupied_unfouled (n : Nat) (h : s.NoneAtLc) :
    s.Unfouled (s.sectionsTrackOccupied n) ∧ (s.sectionsTrackOccupied n).holds = s.holds ∧
      (s.sectionsTrackOccupied n).emitted = s.emitted := by
  have sections (l : List Nat) (v : State) (hl : ∀ x ∈ l, (v.sec x).acc.state ≠ .lc) :
      Outside [.sections] v (l.foldl State.clearingOccupied v) ∧
        ∀ x, ((l.foldl State.clearingOccupied v).sec x).acc.state = (v.sec x).acc.state := by
    induction l generalizing v with
    | nil => exact ⟨.refl _ _, fun _ => rfl⟩
    | cons a l ih =>
      obtain ⟨hframe, hstate⟩ := State.clearingOccupied_quiet (hl a (List.mem_cons_self ..))
      obtain ⟨hframes, hstates⟩ := ih (v.clearingOccupied a) fun x hx => by
        rw [hstate x]; exact hl x (List.mem_cons_of_mem _ hx)
      exact ⟨hframe.trans hframes, fun x => (hstates x).trans (hstate x)⟩
  obtain ⟨hframe, hstate⟩ := sections (s.clearingSections n) s fun x hx =>
    h x (State.mem_clearingSections hx).1 (State.mem_clearingSections hx).2
  exact ⟨⟨hframe.mono (by simp), hstate⟩, hframe .holds (by decide), hframe .emitted (by decide)⟩

theorem State.suspectRequest_unfouled (n : Nat) (h : s.NoneAtLc) : s.Unfouled (s.suspectRequest n) := by
  by_cases hn : s.conf.fitted n = true ∧ (s.track n).suspect = false
  · have hset : s.Unfouled (s.setSuspect n) := .of_outside ((State.setSuspect_outside n s).mono (by simp))
    rw [State.suspectRequest_marks hn.1 hn.2]
    split
    · have hholds : s.Unfouled ((s.setSuspect n).holdsTrackOccupied n) :=
        hset.trans (.of_outside ((State.holdsTrackOccupied_outside n _).mono (by simp)))
      exact hholds.trans (State.sectionsTrackOccupied_unfouled n (hholds.noneAtLc h)).1
    · exact hset
  · rw [State.suspectRequest_idle hn]; exact .refl s

theorem State.suspectAll_unfouled (l : List Nat) (h : s.NoneAtLc) : s.Unfouled (s.suspectAll l) := by
  induction l generalizing s with
  | nil => exact .refl s
  | cons n l ih =>
    have hn := State.suspectRequest_unfouled n h
    exact hn.trans (ih (hn.noneAtLc h))

/-- With no hold and no section at LC a mark is reported and does nothing else. -/
theorem State.suspectRequest_drafts {n : Nat} (h : s.NoneAtLc) (hh : s.holds = []) (hf : s.conf.fitted n = true)
    (hs : (s.track n).suspect = false) :
    (s.suspectRequest n).holds = [] ∧ (s.suspectRequest n).drafts = s.drafts ++ [(.trackSuspect, n)] := by
  have hset : s.Unfouled (s.setSuspect n) := .of_outside ((State.setSuspect_outside n s).mono (by simp))
  have hholds : (s.setSuspect n).holds = [] := (State.setSuspect_outside n s .holds (by decide)).trans hh
  have hdrafts : (s.setSuspect n).drafts = s.drafts ++ [(.trackSuspect, n)] := by
    rw [State.setSuspect, State.drafts_emit]; rfl
  have hnone : (s.setSuspect n).holdsTrackOccupied n = s.setSuspect n := by
    rw [State.holdsTrackOccupied, hholds]; rfl
  rw [State.suspectRequest_marks hf hs]
  split
  · obtain ⟨-, hkeep, hemit⟩ := State.sectionsTrackOccupied_unfouled n (hset.noneAtLc h)
    rw [State.becomesOccupied, hnone]
    exact ⟨hkeep.trans hholds, (congrArg (List.map Draft.key) hemit).trans hdrafts⟩
  · exact ⟨hholds, hdrafts⟩

theorem State.suspectAll_drafts {l : List Nat} (hl : l.Nodup) (h : s.NoneAtLc) (hh : s.holds = [])
    (hm : ∀ n ∈ l, n ∈ Tab.numbers 16 ∧ s.conf.fitted n = true ∧ (s.track n).suspect = false) :
    (s.suspectAll l).drafts = s.drafts ++ l.map fun n => (.trackSuspect, n) := by
  induction l generalizing s with
  | nil => simp [State.suspectAll]
  | cons a l ih =>
    obtain ⟨ha, hl⟩ := List.nodup_cons.1 hl
    obtain ⟨-, hf, hs⟩ := hm a (List.mem_cons_self ..)
    have hone := State.suspectRequest_unfouled a h
    obtain ⟨hholds, hdrafts⟩ := State.suspectRequest_drafts h hh hf hs
    have hrest := ih (s := s.suspectRequest a) hl (hone.noneAtLc h) hholds fun n hn => by
      obtain ⟨hn16, hnf, hns⟩ := hm n (List.mem_cons_of_mem _ hn)
      rw [hone.frame.conf_eq (by decide), State.suspectRequest_track a n s hn16, if_neg]
      · exact ⟨hn16, hnf, hns⟩
      · rintro ⟨rfl, -⟩; exact ha hn
    rw [State.suspectAll, List.foldl_cons, ← State.suspectAll, hrest, hdrafts]
    simp

end Sys2Proof.Machine

namespace Sys2Proof.Machine

variable {ps : List Part} {s t u : State}

/-! ### Notices with their fields -/

/-- A notice of an enabled kind is in the outbox after the event where those before it leave it room (R192). -/
theorem State.mem_close_outbox {l : List Draft} {d : Draft} (hm : s.control.mode ≠ .start) (h : l ++ [d] <+: s.emitted)
    (hs : s.sends d.event.kind = true) (hroom : s.link.outbox.length + l.length + 1 ≤ 32) :
    s.noticeOf d ∈ s.close.link.outbox := by
  obtain ⟨rest, hrest⟩ := h
  have hle := List.length_filter_le (fun d : Draft => s.sends d.event.kind) l
  rw [State.close_outbox_take hm, ← hrest]
  refine List.mem_append_right _ (List.mem_take_iff_getElem.2 ⟨(l.filter fun d => s.sends d.event.kind).length, ?_, ?_⟩)
  · simp [hs]; omega
  · simp [hs]

/-- A raise sends ALERT notices alone (R178). -/
theorem raiseOf_events {a : Alert} {l : List Alert} {k : NoticeEvent × Nat} (h : k ∈ (raiseOf a l).2.1) :
    k.1.kind = .alert := by
  revert h k
  unfold raiseOf
  repeat' split
  all_goals simp [NoticeEvent.kind]

/-- The notices of a raise stay in front through an examination (R59). -/
theorem State.raise_drafts_kept {k : AlertKind} {o : Nat} {ns : List (NoticeEvent × Nat)}
    (h : (s.raise k o).drafts = s.drafts ++ ns) : ∀ n ∈ ns, n.1 ≠ .holdRemoved := fun n hn e => by
  rw [(s.raise_makes k o).drafts] at h
  rw [← List.append_cancel_left h] at hn
  have := raiseOf_events hn
  rw [e] at this; simp [NoticeEvent.kind] at this

/-! ### A lost record (R159) -/

/-- Record `r` with its grace over and the lost mark (R159). -/
def State.setLost (r : Nat) (s : State) : State := s.putRecord r { s.record r with grace := none, lost := true }

theorem State.setLost_outside (r : Nat) (s : State) : Outside [.register] s (s.setLost r) := by simp [State.setLost]

theorem State.lostRaise_outside (r h : Nat) (s : State) :
    Outside [.register, .alerts, .sounder, .emitted] s ((s.setLost r).raise .trackSuspect h) :=
  ((State.setLost_outside r s).mono (by simp)).trans ((State.raise_outside .trackSuspect h _).mono (by simp))

/-- The effectively clear neighbours of track `h`, in the order of its neighbour list. -/
def State.clearNeighbours (h : Nat) (s : State) : List Nat := (s.conf.track h).neighbours.filter s.clear

/-- What *lost* carries of a record that leaves no record fields of its own (log 15): head, marks and trail. -/
def State.lostFields (r h : Nat) (s : State) : List Byte :=
  b1 h ++ bList b1 (s.clearNeighbours h) ++ bList b1 (s.record r).trail

/-- A lost record before the examination: TRACK_SUSPECT raised, the neighbours marked, and *lost* sent. -/
def State.recordLost (r h : Nat) (s : State) : State :=
  (((s.setLost r).raise .trackSuspect h).suspectAll (s.clearNeighbours h)).emit .recLost r (s.lostFields r h)

theorem State.graceExpires_lost {r h : Nat} {e : Time} (hh : (s.record r).head = some h) (hg : (s.record r).grace = some e)
    (he : e ≤ s.now) : s.graceExpires r = (s.recordLost r h).settle := by
  have hraise := State.lostRaise_outside r h s
  have hneighbours : (((s.setLost r).raise .trackSuspect h).conf.track h).neighbours.filter
      ((s.setLost r).raise .trackSuspect h).clear = s.clearNeighbours h := by
    have htracks := hraise.tracks_eq (by decide)
    unfold State.clearNeighbours State.clear State.track
    rw [hraise.conf_eq (by decide), htracks]
  unfold State.graceExpires; dsimp only
  rw [hh]; dsimp only
  rw [if_pos (by simp [hg, due, he])]
  rw [show s.putRecord r { s.record r with grace := none, lost := true } = s.setLost r from rfl, hneighbours]
  rfl

theorem State.recordLost_outside (r h : Nat) (s : State) :
    Outside [.register, .alerts, .sounder, .tracks, .counters, .holds, .sections, .emitted] s (s.recordLost r h) := by
  refine ((State.setLost_outside r s).mono (by simp)).trans (((State.raise_outside .trackSuspect h _).mono (by simp)).trans
    (((State.suspectAll_outside _ _).mono (by simp)).trans ((State.emit_outside _ _ _ _).mono (by simp))))

theorem State.recordLost_register (r h : Nat) (s : State) :
    (s.recordLost r h).register = { s.register with
      records := s.register.records.put r { s.record r with grace := none, lost := true } } :=
  (State.suspectAll_outside _ _ .register (by decide)).trans (State.raise_outside .trackSuspect h _ .register (by decide))

/-- The track of a clear neighbour is one of the sixteen, and it carries no suspect mark. -/
theorem State.mem_clearNeighbours {h n : Nat} (hn : n ∈ s.clearNeighbours h) :
    n ∈ Tab.numbers 16 ∧ (s.track n).filter = .clear ∧ (s.track n).suspect = false := by
  obtain ⟨-, hc⟩ := List.mem_filter.1 hn
  obtain ⟨hclear, hmark⟩ : (s.track n).filter = .clear ∧ (s.track n).marked = false := by
    simpa [State.clear, Track.effectivelyClear] using hc
  refine ⟨?_, hclear, ?_⟩
  · by_contra hout
    rw [Tab.mem_numbers] at hout
    have hdefault : s.track n = {} := Tab.get_out _ _ (by omega)
    rw [hdefault] at hclear; cases hclear
  · rw [Track.marked, Bool.or_eq_false_iff] at hmark; exact hmark.2

theorem State.recordLost_marks {r h n : Nat} (s : State) (hn : n ∈ Tab.numbers 16) :
    (s.recordLost r h).track n =
        (if (s.conf.track h).neighbours.contains n && s.clear n && s.conf.fitted n
          then { s.track n with suspect := true } else s.track n) ∧
      (s.recordLost r h).store.counter (.mark n) =
        (if (s.conf.track h).neighbours.contains n && s.clear n && s.conf.fitted n
          then (s.store.counter (.mark n)).increment else s.store.counter (.mark n)) := by
  have hraise := State.lostRaise_outside r h s
  have htrack : ((s.setLost r).raise .trackSuspect h).track n = s.track n :=
    congrArg (fun l : Tab 16 Track => l.get {} n) (hraise.tracks_eq (by decide))
  obtain ⟨hmark, hcount⟩ := State.suspectAll_marks (s.clearNeighbours h) ((s.setLost r).raise .trackSuspect h) hn
  rw [hraise.conf_eq (by decide), htrack] at hmark hcount
  rw [hraise.counter_eq (by decide)] at hcount
  have hiff : ((s.conf.track h).neighbours.contains n && s.clear n && s.conf.fitted n) = true ↔
      n ∈ s.clearNeighbours h ∧ s.conf.fitted n = true := by simp [State.clearNeighbours]
  refine ⟨hmark.trans (if_congr hiff.symm rfl rfl), hcount.trans (if_congr ?_ rfl rfl)⟩
  rw [hiff]
  exact and_congr_right fun hc => and_iff_left (State.mem_clearNeighbours hc).2.2

/-- A raise into a list that has room for it and for an alert of every section. -/
theorem State.raise_keepsAlert (s : State) (k : AlertKind) (o : Nat) (h : s.panel.alerts.length ≤ 9) :
    ∃ n, (s.raise k o).KeepsAlert { s.newAlert k o (k.priority s.control.box) with count := n } := by
  have hroom : s.panel.alerts.length < 16 := by omega
  have hlist := (s.raise_makes k o).alerts
  obtain ⟨n, hn⟩ := mem_raiseOf (a := s.newAlert k o (k.priority s.control.box)) hroom
  refine ⟨n, hlist ▸ hn, ?_⟩
  have hle := raiseOf_length_le (a := s.newAlert k o (k.priority s.control.box)) hroom
  have hsections := (s.raise k o).card_atLc_le
  rw [hlist]; omega

/-- TRACK_SUSPECT of the head stands in a list that had room for it and for an alert of every section. -/
theorem State.recordLost_hasAlert {r h : Nat} (s : State) (hroom : s.panel.alerts.length ≤ 9) :
    (s.recordLost r h).hasAlert .trackSuspect h 14 := by
  have hf := s.recordLost_outside r h
  obtain ⟨n, hn⟩ := (s.setLost r).raise_keepsAlert .trackSuspect h hroom
  have hstamp : (s.recordLost r h).stamp = s.stamp := by
    have hclock : (s.recordLost r h).control.clock = s.control.clock := hf .clock (by decide)
    rw [State.stamp, State.stamp, hclock]
  exact ⟨_, (hn.suspectAll (l := s.clearNeighbours h) (by simp [State.newAlert])).mem, rfl, rfl, rfl, rfl, hstamp.symm⟩

/-- Where no accepting section is at LC a lost record raises one alert. -/
theorem State.recordLost_raises {r h : Nat} (ha : s.AlertsKept) (hs : s.SounderKept) (hlc : s.NoneAtLc) :
    ∃ ns, s.raises (s.recordLost r h).settle s.now (s.newAlert .trackSuspect h 14) ns ∧
      ((s.setLost r).raise .trackSuspect h).drafts = s.drafts ++ ns ∧ ∀ n ∈ ns, n.1 ≠ .holdRemoved := by
  have hlost := State.setLost_outside r s
  obtain ⟨ns, hraises, hdrafts⟩ := State.raise_raises (s := s.setLost r) .trackSuspect h
    (ha.outside hlost (by decide)) (hs.outside hlost (by decide))
  have hnone : ((s.setLost r).raise .trackSuspect h).NoneAtLc :=
    (hlc.outside hlost (by decide)).outside (State.raise_outside .trackSuspect h _) (by decide)
  have hafter := (State.suspectAll_unfouled (s.clearNeighbours h) hnone).frame
  refine ⟨ns, State.raises.of_outside hraises hlost (qs := [.tracks, .counters, .holds, .sections, .register, .levers,
    .choices, .emitted]) ?_ (by decide), hdrafts, State.raise_drafts_kept hdrafts⟩
  exact (hafter.mono (by simp)).trans (((State.emit_outside _ _ _ _).mono (by simp)).trans
    ((State.settle_outside _).mono (by simp)))

/-- With no hold either, the marks and *lost* are all that a lost record sends. -/
theorem State.recordLost_emitted {r h : Nat} {ns : List (NoticeEvent × Nat)} (ht : s.TracksKept) (hlc : s.NoneAtLc)
    (hh : s.holds = []) (hnodup : (s.clearNeighbours h).Nodup)
    (hns : ((s.setLost r).raise .trackSuspect h).drafts = ns) (hkept : ∀ n ∈ ns, n.1 ≠ .holdRemoved) :
    ∃ l : List Draft, l.map Draft.key = ns ++ (s.clearNeighbours h).map (fun n => (.trackSuspect, n)) ∧
      (∀ d ∈ l, d.event ≠ .holdRemoved) ∧
      (s.recordLost r h).emitted = l ++ [⟨.recLost, r, s.lostFields r h⟩] := by
  have hraise := State.lostRaise_outside r h s
  have hall := State.suspectAll_drafts (s := (s.setLost r).raise .trackSuspect h) hnodup (hlc.outside hraise (by decide))
    ((hraise .holds (by decide)).trans hh) fun n hn => by
      obtain ⟨hn16, hclear, hs⟩ := State.mem_clearNeighbours hn
      have htrack : ((s.setLost r).raise .trackSuspect h).track n = s.track n :=
        congrArg (fun l : Tab 16 Track => l.get {} n) (hraise.tracks_eq (by decide))
      rw [hraise.conf_eq (by decide), htrack]
      refine ⟨hn16, ?_, hs⟩
      by_contra hf
      have := (State.tracksKept_iff.1 ht n hn16).unfitted (by simpa using hf)
      rw [this.1] at hclear; cases hclear
  rw [hns] at hall
  refine ⟨_, hall, fun d hd => ?_, rfl⟩
  have hkey : d.key ∈ ns ++ (s.clearNeighbours h).map fun n => (.trackSuspect, n) := hall ▸ List.mem_map_of_mem hd
  rcases List.mem_append.1 hkey with hk | hk
  · exact hkept _ hk
  · obtain ⟨n, -, hn⟩ := List.mem_map.1 hk
    rw [show d.event = d.key.1 from rfl, ← hn]; simp

/-- Settles O27: the event is `State.recordLost` and an examination, which keeps the marks, the alert and the notices. -/
theorem lostRecordMarksTheNeighbours : Obligations.LostRecordMarksTheNeighbours := by
  intro s tm r h e hb _ hhead hgrace hle
  have hv : Outside [.register, .alerts, .sounder, .tracks, .counters, .holds, .sections, .levers, .choices, .emitted]
      (s.advance tm) (((s.advance tm).recordLost r h).settle) :=
    ((s.advance tm).recordLost_outside r h |>.mono (by simp)).trans ((State.settle_outside _).mono (by simp))
  have hall : Outside [.now, .register, .alerts, .sounder, .tracks, .counters, .holds, .sections, .levers, .choices,
      .emitted] s ((s.advance tm).recordLost r h).settle := ((s.advance_outside tm).mono (by simp)).trans (hv.mono (by simp))
  have hlast : Outside [.levers, .holds, .choices, .emitted, .outbox, .transmitter] ((s.advance tm).recordLost r h)
      ((s.advance tm).recordLost r h).settle.close :=
    ((State.settle_outside _).mono (by simp)).trans ((State.close_outside _).mono (by simp))
  refine ⟨((s.advance tm).recordLost r h).settle.close, ?_, ?_, fun t ht => ?_, fun hroom => ?_,
    fun hmode ha hs ht hlc => ?_, changesOnly_close (hall.mono (by simp [closing]))⟩
  · refine (congrArg Host.Outcome.next (State.event_powered tm _ hb.1)).trans ?_
    rw [State.graceExpires_lost (s := s.advance tm) hhead hgrace hle]
  · exact (hlast .register (by decide)).trans ((s.advance tm).recordLost_register r h)
  · obtain ⟨htrack, hcounter⟩ := (s.advance tm).recordLost_marks (r := r) (h := h) ht
    rw [hlast.counter_eq (by decide)]
    exact ⟨(congrArg (fun l : Tab 16 Track => l.get {} t) (hlast.tracks_eq (by decide))).trans htrack, hcounter⟩
  · obtain ⟨a, ha, hkind, hobj, hprio, hack, hstamp⟩ := (s.advance tm).recordLost_hasAlert (r := r) (h := h) hroom
    refine ⟨a, ?_, hkind, hobj, hprio, hack, ?_⟩
    · rw [show _ = _ from hlast .alerts (by decide)]; exact ha
    · rw [hstamp, State.stamp, State.stamp, show _ = _ from hlast .clock (by decide)]
  · obtain ⟨ns, hraises, hdrafts, hkept⟩ := State.recordLost_raises (s := s.advance tm) (r := r) (h := h)
      (ha.outside (s.advance_outside tm) (by decide)) (hs.outside (s.advance_outside tm) (by decide)) hlc
    refine ⟨ns, hraises.of_outside (s.advance_outside tm) (State.close_outside _) (by decide), ?_⟩
    rintro marked rfl hnodup hholds
    rw [State.drafts_of_emitted (s := s.advance tm) hb.2, List.nil_append] at hdrafts
    obtain ⟨l, hl, hevents, hemitted⟩ := State.recordLost_emitted (s := s.advance tm) (r := r) (h := h)
      (ht.outside (s.advance_outside tm) (by decide)) hlc hholds hnodup hdrafts hkept
    have hprefix := State.prefix_emitted_settle (s := (s.advance tm).recordLost r h)
      (l := l ++ [⟨.recLost, r, (s.advance tm).lostFields r h⟩])
      (List.forall_mem_append.2 ⟨hevents, by simp⟩) (hemitted ▸ List.prefix_rfl)
    refine ⟨State.announcesFirst_of_outside hall (by decide) hmode ?_, fun hsends hroom => ?_⟩
    · have := hprefix.map Draft.key
      rwa [List.map_append, hl] at this
    · have hlen : l.length = ns.length + ((s.advance tm).clearNeighbours h).length := by
        simpa using congrArg List.length hl
      have hlink := hall .outbox (by decide)
      refine ⟨_, State.mem_close_outbox (by rwa [hall.mode_eq (by decide)]) hprefix ?_ ?_, rfl, rfl, _, rfl⟩
      · rw [hall.sends_eq (by decide) (by decide)]; exact hsends
      · rw [hlink.1, hlen, ← Nat.add_assoc]; exact hroom

end Sys2Proof.Machine

namespace Sys2Proof.Machine

variable {ps qs : List Part} {s t u v w : State}

/-! ### Panel timers (R174, R175, R179) -/

theorem State.flasherTurns_eq {lit : Bool} {e : Time} (h : s.panel.flasher = some ⟨lit, e⟩) (he : e ≤ s.now) :
    s.flasherTurns = s.putPanel { s.panel with flasher := some ⟨!lit, e + 500⟩ } := by
  simp [State.flasherTurns, h, he]

theorem State.pulseExpires_eq {i : Nat} {e : Time} (h : s.pulse i = some e) (he : e ≤ s.now) :
    s.pulseExpires i = s.putPanel { s.panel with pulses := s.panel.pulses.put i none } := by
  simp [State.pulseExpires, h, due, he]

theorem State.lampTestExpires_eq {e : Time} (h : s.panel.lampTest = some e) (he : e ≤ s.now) :
    s.lampTestExpires = s.putPanel { s.panel with lampTest := none } := by
  simp [State.lampTestExpires, h, due, he]

theorem State.sounderTurns_eq {p : Pattern} {on : Bool} {e : Time} (h : s.panel.sounder = ⟨p, on, some e⟩) (he : e ≤ s.now) :
    s.sounderTurns = s.putPanel { s.panel with sounder := ⟨p, !on, (p.part !on).map (e + ·)⟩ } := by
  simp [State.sounderTurns, h, he]

/-- When the next part of a pattern ends (R179). -/
theorem Pattern.part_map (p : Pattern) (on : Bool) (e : Time) :
    (p.part !on).map (e + ·) = (match p with
      | .oneHz => some (e + 500)
      | .beep => some (if on then e + 4800 else e + 200)
      | _ => none) := by
  cases p with
  | beep => cases on <;> rfl
  | oneHz | silent | continuous => rfl

theorem State.putFlasher_outside (s : State) (f : Option Flasher) :
    Outside [.flasher] s (s.putPanel { s.panel with flasher := f }) := by simp

theorem State.putPulses_outside (s : State) (p : Tab 32 (Option Time)) :
    Outside [.pulses] s (s.putPanel { s.panel with pulses := p }) := by simp

theorem State.putLampTest_outside (s : State) (e : Option Time) :
    Outside [.lampTest] s (s.putPanel { s.panel with lampTest := e }) := by simp

theorem State.putSounder_outside (s : State) (k : Sounder) :
    Outside [.sounder] s (s.putPanel { s.panel with sounder := k }) := by simp

theorem State.withAlerts_outside (s : State) (l : List Alert) : Outside [.alerts] s (s.withAlerts l) := by
  simp [State.withAlerts]

/-- A timer of the panel replaces its own part of the panel and nothing else. -/
theorem panel_timer_event {f : State → State} {p : Part} {q : Panel} {tm : Time} (hb : s.between)
    (hf : f (s.advance tm) = (s.advance tm).putPanel q)
    (hq : Outside [p] (s.advance tm) ((s.advance tm).putPanel q)) :
    s.event tm f = ((s.advance tm).putPanel q).close ∧ ChangesOnly [p] s ((s.advance tm).putPanel q).close := by
  refine ⟨(State.event_powered tm f hb.1).trans (congrArg State.close hf), changesOnly_close ?_⟩
  exact ((State.advance_outside tm s).mono (by simp [closing])).trans (hq.mono (by simp [closing]))

theorem flasherHalf_turns {tm e : Time} {lit : Bool} (hb : s.between) (h : s.panel.flasher = some ⟨lit, e⟩)
    (he : e ≤ max s.now tm) :
    ∃ u, exec (.flasherHalf tm) s = .next u ∧ u.panel.flasher = some ⟨!lit, e + 500⟩ ∧ ChangesOnly [.flasher] s u := by
  obtain ⟨hevent, honly⟩ := panel_timer_event (p := .flasher) (tm := tm) hb (State.flasherTurns_eq (s := s.advance tm) h he)
    (State.putFlasher_outside _ _)
  exact ⟨_, congrArg Host.Outcome.next hevent, State.close_outside _ .flasher (by decide), honly⟩

theorem pulseTimerExpiry_ends {tm e : Time} {i : Nat} (hb : s.between) (h : s.pulse i = some e) (he : e ≤ max s.now tm) :
    ∃ u, exec (.pulseTimerExpiry tm i) s = .next u ∧ u.panel.pulses = s.panel.pulses.put i none ∧
      ChangesOnly [.pulses] s u := by
  obtain ⟨hevent, honly⟩ := panel_timer_event (p := .pulses) (tm := tm) hb (State.pulseExpires_eq (s := s.advance tm) h he)
    (State.putPulses_outside _ _)
  exact ⟨_, congrArg Host.Outcome.next hevent, State.close_outside _ .pulses (by decide), honly⟩

theorem lampTestTimerExpiry_ends {tm e : Time} (hb : s.between) (h : s.panel.lampTest = some e) (he : e ≤ max s.now tm) :
    ∃ u, exec (.lampTestTimerExpiry tm) s = .next u ∧ u.panel.lampTest = none ∧ ChangesOnly [.lampTest] s u := by
  obtain ⟨hevent, honly⟩ := panel_timer_event (p := .lampTest) (tm := tm) hb
    (State.lampTestExpires_eq (s := s.advance tm) h he) (State.putLampTest_outside _ _)
  exact ⟨_, congrArg Host.Outcome.next hevent, State.close_outside _ .lampTest (by decide), honly⟩

theorem sounderPatternTimer_turns {tm e : Time} {p : Pattern} {on : Bool} (hb : s.between)
    (h : s.panel.sounder = ⟨p, on, some e⟩) (he : e ≤ max s.now tm) :
    ∃ u, exec (.sounderPatternTimer tm) s = .next u ∧ u.panel.sounder = ⟨p, !on, (p.part !on).map (e + ·)⟩ ∧
      ChangesOnly [.sounder] s u := by
  obtain ⟨hevent, honly⟩ := panel_timer_event (p := .sounder) (tm := tm) hb
    (State.sounderTurns_eq (s := s.advance tm) h he) (State.putSounder_outside _ _)
  exact ⟨_, congrArg Host.Outcome.next hevent, State.close_outside _ .sounder (by decide), honly⟩

/-! ### Requests of the panel (R175, R180) -/

theorem State.requestFail_panel {r : Request} (h : r = .lampTest ∨ r = .ackAlerts ∨ r = .clearAlerts) (s : State) :
    s.requestFail r = none := by rcases h with rfl | rfl | rfl <;> rfl

/-- LAMP_TEST, served at once (R175). -/
theorem lampTest_request {tm : Time} {tag : Byte} (hr : s.ready) :
    ∃ u, s.request tm tag .lampTest = u ∧ u.replies Request.lampTest.replyKind tag .ok [] ∧
      u.panel.lampTest = some (max s.now tm + 5000) ∧ ChangesOnly [.lampTest, .slot] s u := by
  have hslot := State.replied_outside ⟨Request.lampTest.replyKind, tag, .ok, []⟩ (s.advance tm).startLampTest
  refine ⟨_, State.request_own tm tag hr (State.requestFail_panel (.inl rfl) s), State.replies_close _ _ _ _ _, ?_,
    changesOnly_close ?_⟩
  · exact (State.close_outside _ .lampTest (by decide)).trans (hslot .lampTest (by decide))
  · exact ((State.advance_outside tm s).mono (by simp [closing])).trans
      (((State.startLampTest_outside _).mono (by simp [closing])).trans (hslot.mono (by simp [closing])))

/-- With every entry acknowledged nothing sounds (R179). -/
theorem State.patternAsked_of_acked (h : ∀ a ∈ s.panel.alerts, a.acked = true) : s.patternAsked = .silent := by
  have hnone : s.panel.alerts.filter (fun a => !a.acked && decide (s.threshold ≤ a.priority)) = [] :=
    List.filter_eq_nil_iff.2 fun a ha => by simp [h a ha]
  rw [State.patternAsked, State.soundingPriority, hnone]
  split <;> rfl

/-- A sounder that is computed again plays what the list asks. -/
theorem State.recomputeSounder_pattern (b : Bool) (s : State) :
    (s.recomputeSounder b).panel.sounder.pattern = s.patternAsked := by
  rw [State.recomputeSounder_sounder]
  split
  · exact Pattern.begin_pattern ..
  · next h => simp_all

/-- A request on the alert list, served at once: its reply, its list, and its notice. -/
theorem alert_request {tm : Time} {tag : Byte} {r : Request} {n : NoticeEvent} {l : List Alert} {count : List Byte}
    (hr : s.ready) (hf : s.requestFail r = none)
    (ho : (s.advance tm).own r =
      (.ok, count, (((s.advance tm).withAlerts l).recomputeSounder false).emit n 0 count)) :
    ∃ u, s.request tm tag r = u ∧ u.replies r.replyKind tag .ok count ∧ u.panel.alerts = l ∧
      u.panel.sounder.pattern = ((s.advance tm).withAlerts l).patternAsked ∧ s.announces u [(n, 0)] ∧
      ChangesOnly [.alerts, .sounder, .slot] s u := by
  have hsounder := State.recomputeSounder_outside false ((s.advance tm).withAlerts l)
  have hslot := State.replied_outside ⟨r.replyKind, tag, .ok, count⟩
    ((((s.advance tm).withAlerts l).recomputeSounder false).emit n 0 count)
  have hlist : Outside [.now, .alerts, .sounder] s (((s.advance tm).withAlerts l).recomputeSounder false) :=
    ((State.advance_outside tm s).mono (by simp)).trans
      (((State.withAlerts_outside _ l).mono (by simp)).trans (hsounder.mono (by simp)))
  have hall : Outside [.now, .alerts, .sounder, .emitted, .slot] s
      (((((s.advance tm).withAlerts l).recomputeSounder false).emit n 0 count).replied ⟨r.replyKind, tag, .ok, count⟩) :=
    (hlist.mono (by simp)).trans (((State.emit_outside _ _ _ _).mono (by simp)).trans (hslot.mono (by simp)))
  have hclose := State.close_outside
    (((((s.advance tm).withAlerts l).recomputeSounder false).emit n 0 count).replied ⟨r.replyKind, tag, .ok, count⟩)
  refine ⟨_, (State.request_own tm tag hr hf).trans (by rw [ho]), State.replies_close _ _ _ _ _, ?_, ?_, ?_,
    changesOnly_close (hall.mono (by simp [closing]))⟩
  · exact (hclose .alerts (by decide)).trans (State.recomputeSounder_alerts ..)
  · exact (congrArg Sounder.pattern (hclose .sounder (by decide))).trans (State.recomputeSounder_pattern ..)
  · refine State.announces_of_outside hall (by decide) hr.1.2 ?_
    rw [State.drafts_of_outside hslot (by decide), State.drafts_emit, State.recomputeSounder_drafts]
    exact congrArg (· ++ [(n, 0)]) (State.drafts_of_emitted (State.emitted_of_ready hr))

/-! ### Events that raise an alert (R8, R25, R37, R63, R123, R124) -/

/-- What the events that raise an alert change before the raise. -/
def beforeRaise : List Part := [.now, .inputs, .tracks, .counters, .levers, .bells, .holds, .emitted]

/-- What they change after it: an examination and what it reports. -/
def afterRaise : List Part := [.levers, .holds, .choices, .emitted]

/-- A raise within an event is the raise of R178, read from the state before the event and the state after it. -/
theorem raise_event {k : AlertKind} {o p : Nat} (ha : s.AlertsKept) (hs : s.SounderKept) (hv : Outside beforeRaise s v)
    (hp : k.priority s.control.box = p) (hw : Outside afterRaise (v.raise k o) w) :
    ∃ ns, s.raises w.close v.now (s.newAlert k o p) ns ∧ (v.raise k o).drafts = v.drafts ++ ns ∧
      ∀ n ∈ ns, n.1 ≠ .holdRemoved := by
  obtain ⟨ns, hraises, hdrafts⟩ := State.raise_raises (s := v) k o (ha.outside hv (by decide)) (hs.outside hv (by decide))
  have hbox : v.control.box = s.control.box := (hv .box (by decide)).1
  have hclock : v.control.clock = s.control.clock := hv .clock (by decide)
  have hnew : v.newAlert k o (k.priority v.control.box) = s.newAlert k o p := by
    simp only [State.newAlert, State.stamp, hbox, hclock, hp]
  rw [hnew] at hraises
  refine ⟨ns, hraises.of_outside hv (qs := afterRaise ++ closing) ?_ (by decide), hdrafts, State.raise_drafts_kept hdrafts⟩
  exact (hw.mono (by simp)).trans ((State.close_outside w).mono (by simp [closing]))

/-- The frame of such an event. -/
theorem raise_event_outside {k : AlertKind} {o : Nat} (hv : Outside beforeRaise s v)
    (hw : Outside afterRaise (v.raise k o) w) :
    Outside (beforeRaise ++ [.alerts, .sounder, .choices]) s w :=
  (hv.mono (by simp)).trans (((State.raise_outside k o v).mono (by simp [beforeRaise])).trans
    (hw.mono (by simp [afterRaise, beforeRaise])))

/-- An event that reports a raise exactly, between other notices. -/
theorem raise_event_announces {k : AlertKind} {o p : Nat} {before after : List (NoticeEvent × Nat)} (ha : s.AlertsKept)
    (hs : s.SounderKept) (hm : s.control.mode ≠ .start) (hv : Outside beforeRaise s v) (hp : k.priority s.control.box = p)
    (hw : Outside afterRaise (v.raise k o) w) (hbefore : v.drafts = before)
    (hafter : w.drafts = (v.raise k o).drafts ++ after) :
    ∃ ns, s.raises w.close v.now (s.newAlert k o p) ns ∧ s.announces w.close (before ++ ns ++ after) := by
  obtain ⟨ns, hraises, hdrafts, -⟩ := raise_event ha hs hv hp hw
  refine ⟨ns, hraises, State.announces_of_outside (raise_event_outside hv hw) (by decide) hm ?_⟩
  rw [hafter, hdrafts, hbefore]

/-- An event that reports a raise and one notice more, before what the other units report and the examination. -/
theorem raise_event_announcesFirst {k : AlertKind} {o p : Nat} {n : NoticeEvent × Nat} (ha : s.AlertsKept)
    (hs : s.SounderKept) (hm : s.control.mode ≠ .start) (hv : Outside beforeRaise s v) (hp : k.priority s.control.box = p)
    (hw : Outside afterRaise (v.raise k o) w.settle) (hbefore : v.drafts = [])
    (hafter : (v.raise k o).drafts ++ [n] <+: w.drafts) (hn : n.1 ≠ .holdRemoved) :
    ∃ ns, s.raises w.settle.close v.now (s.newAlert k o p) ns ∧ s.announcesFirst w.settle.close (ns ++ [n]) := by
  obtain ⟨ns, hraises, hdrafts, hkept⟩ := raise_event ha hs hv hp hw
  rw [hdrafts, hbefore, List.nil_append] at hafter
  refine ⟨ns, hraises, State.announcesFirst_of_outside (raise_event_outside hv hw) (by decide) hm ?_⟩
  exact State.prefix_settle (List.forall_mem_append.2 ⟨hkept, by simpa using hn⟩) hafter

theorem State.travelExpires_due {n : Nat} {e : Time} (hp : (s.lever n).phase = .travel)
    (ht : (s.lever n).timer = .running e) (he : e ≤ s.now) :
    s.travelExpires n =
      ((s.putLever n { s.lever n with timer := .expired }).emit .leverOverdue n []).raise .travelOverdue n := by
  unfold State.travelExpires; dsimp only
  rw [ht]; dsimp only
  rw [if_pos (by simp [hp, he])]

theorem State.deadlineExpires_due {n : Nat} {o : Outstanding} (h : (s.bell n).outstanding = some o)
    (he : o.deadline ≤ s.now) :
    s.deadlineExpires n = ((s.putBell n { s.bell n with outstanding := none }).emit .repNoRepetition n
      (bCode o.code ++ b4 (s.timebase o.sentAt))).raise .noRepetition n := by
  unfold State.deadlineExpires
  rw [h]; dsimp only
  rw [if_pos he]

theorem State.reminderExpires_due {n : Nat} {o : Owed} (h : (s.bell n).owed = some o) (hx : o.expired = false)
    (he : o.reminder ≤ s.now) :
    ∃ x, s.reminderExpires n = ((s.putBell n { s.bell n with owed := some { o with expired := true } }).raise
      .repeatOwed n).emit .repRepetitionOwed n x := by
  unfold State.reminderExpires
  rw [h]; dsimp only
  rw [if_pos (by simp [hx, he])]; exact ⟨_, rfl⟩

theorem State.readyLapses_due {n : Nat} {k : Hold} {e : Time} (h : s.hold? n = some k) (hr : k.state = .ready)
    (ht : k.timer = some e) (he : e ≤ s.now) :
    s.readyLapses n =
      ((((s.putHold k.backToPrior).raise .releaseLapsed n).emit .holdLapsed n []).testRelease n).settle := by
  unfold State.readyLapses
  rw [h]; dsimp only
  rw [if_pos (by simp [hr, ht, due, he])]

/-- A lever that stands is forced by a detector that opens (R25). -/
theorem State.detectorOpens_forces {n : Nat} (hm : s.control.mode ≠ .start)
    (hp : (s.lever n).phase = .normal ∨ (s.lever n).phase = .normalCatch ∨ (s.lever n).phase = .reverse ∨
      (s.lever n).phase = .reverseCatch) : s.detectorOpens n = (s.forcedMovement n).settle := by
  unfold State.detectorOpens; dsimp only
  rw [if_neg hm]
  rcases hp with h | h | h | h <;> rw [h]

/-- A detector that opens is an event (R22). -/
theorem Inputs.setLever_ne {n : Nat} {f : LeverInputs → LeverInputs} (hn : isLever n = true)
    (h : s.leverInputs n ≠ f (s.leverInputs n)) : Inputs.setLever n f s.inputs ≠ s.inputs := fun e => by
  simp only [isLever, Bool.and_eq_true, decide_eq_true_eq] at hn
  have hread : (s.inputs.levers.put n (f (s.inputs.levers.get {} n))).get {} n = s.inputs.levers.get {} n :=
    congrArg (fun i : Inputs => i.levers.get {} n) e
  rw [Tab.get_put_self _ _ _ hn.1 hn.2] at hread
  exact h hread.symm

/-- An event of a powered part, by what its handler makes. -/
theorem exec_event {i : Instr} {tm : Time} {f : State → State} (hi : exec i s = .next (s.event tm f))
    (hp : s.powered = true) (hf : f (s.advance tm) = w) : exec i s = .next w.close := by
  rw [hi, State.event_powered tm f hp, hf]

section
variable {tm e : Time} {n : Nat} (hs : s.started) (ha : s.AlertsKept) (hk : s.SounderKept)
include hs ha hk

/-- An overdue travel (R37). -/
theorem travelTimerExpiry_raises (ht : (s.lever n).phase = .travel) (hr : (s.lever n).timer = .running e)
    (he : e ≤ max s.now tm) :
    ∃ u ns, exec (.travelTimerExpiry tm n) s = .next u ∧
      s.raises u (max s.now tm) (s.newAlert .travelOverdue n 6) ns ∧ s.announces u ((.leverOverdue, n) :: ns) := by
  have hexec := exec_event (i := .travelTimerExpiry tm n) rfl hs.1.1
    (State.travelExpires_due (s := s.advance tm) ht hr he)
  obtain ⟨ns, hraises, hannounces⟩ := raise_event_announces (before := [(.leverOverdue, n)]) (after := []) ha hk hs.2
    (v := ((s.advance tm).putLever n { s.lever n with timer := .expired }).emit .leverOverdue n []) (by simp [beforeRaise])
    rfl (.refl _ _) ((State.drafts_emit ..).trans (congrArg (· ++ _) (State.drafts_of_emitted hs.1.2)))
    (List.append_nil _).symm
  rw [List.append_nil] at hannounces
  exact ⟨_, ns, hexec, hraises, hannounces⟩

/-- A code that no repetition answered (R123). -/
theorem repetitionDeadlineExpiry_raises {o : Outstanding} (ho : (s.bell n).outstanding = some o)
    (he : o.deadline ≤ max s.now tm) :
    ∃ u ns, exec (.repetitionDeadlineExpiry tm n) s = .next u ∧
      s.raises u (max s.now tm) (s.newAlert .noRepetition n 9) ns ∧ s.announces u ((.repNoRepetition, n) :: ns) := by
  have hexec := exec_event (i := .repetitionDeadlineExpiry tm n) rfl hs.1.1
    (State.deadlineExpires_due (s := s.advance tm) ho he)
  obtain ⟨ns, hraises, hannounces⟩ := raise_event_announces (before := [(.repNoRepetition, n)]) (after := []) ha hk hs.2
    (v := ((s.advance tm).putBell n { s.bell n with outstanding := none }).emit .repNoRepetition n
      (bCode o.code ++ b4 ((s.advance tm).timebase o.sentAt))) (by simp [beforeRaise])
    rfl (.refl _ _) ((State.drafts_emit ..).trans (congrArg (· ++ _) (State.drafts_of_emitted hs.1.2)))
    (List.append_nil _).symm
  rw [List.append_nil] at hannounces
  exact ⟨_, ns, hexec, hraises, hannounces⟩

/-- A repetition that is owed too long (R124). -/
theorem owedReminderExpiry_raises {o : Owed} (ho : (s.bell n).owed = some o) (hx : o.expired = false)
    (he : o.reminder ≤ max s.now tm) :
    ∃ u ns, exec (.owedReminderExpiry tm n) s = .next u ∧
      s.raises u (max s.now tm) (s.newAlert .repeatOwed n 8) ns ∧ s.announces u (ns ++ [(.repRepetitionOwed, n)]) := by
  obtain ⟨x, hdue⟩ := State.reminderExpires_due (s := s.advance tm) ho hx he
  obtain ⟨ns, hraises, hannounces⟩ := raise_event_announces (before := []) (after := [(.repRepetitionOwed, n)]) ha hk hs.2
    (v := (s.advance tm).putBell n { s.bell n with owed := some { o with expired := true } }) (by simp [beforeRaise])
    rfl ((State.emit_outside .repRepetitionOwed n x _).mono (by simp [afterRaise])) (State.drafts_of_emitted hs.1.2)
    (State.drafts_emit ..)
  exact ⟨_, ns, exec_event (i := .owedReminderExpiry tm n) rfl hs.1.1 hdue, hraises, hannounces⟩

/-- A ready window that lapses (R63). -/
theorem readyWindowLapse_raises {k : Hold} (hh : s.hold? n = some k) (hr : k.state = .ready) (ht : k.timer = some e)
    (he : e ≤ max s.now tm) :
    ∃ u ns, exec (.readyWindowLapse tm n) s = .next u ∧
      s.raises u (max s.now tm) (s.newAlert .releaseLapsed n 4) ns ∧ s.announcesFirst u (ns ++ [(.holdLapsed, n)]) := by
  obtain ⟨ns, hraises, hannounces⟩ := raise_event_announcesFirst (k := .releaseLapsed) (o := n) (n := (.holdLapsed, n)) ha hk hs.2
    (v := (s.advance tm).putHold k.backToPrior) (w := ((((s.advance tm).putHold k.backToPrior).raise .releaseLapsed n).emit
      .holdLapsed n []).testRelease n) (by simp [beforeRaise]) rfl (by simp [afterRaise]) (State.drafts_of_emitted hs.1.2)
    (by rw [← State.drafts_emit]; exact ((State.Appends.refl _).testRelease n).drafts) (by simp)
  exact ⟨_, ns, exec_event (i := .readyWindowLapse tm n) rfl hs.1.1
    (State.readyLapses_due (s := s.advance tm) hh hr ht he), hraises, hannounces⟩

/-- A track that reaches its flicker limit (R8). -/
theorem trackRelayDrop_raises {k : Nat} (hl : s.live = true) (hn : isTrack n = true) (hf : s.conf.fitted n = true)
    (hp : s.relayPicked n = true) (hpick : (s.track n).filter = .picking) (hc : (s.conf.track n).flicker = .limit k)
    (hlim : (s.track n).flickers + 1 = 2 ^ k) :
    ∃ u ns, exec (.trackRelayDrop tm n) s = .next u ∧
      s.raises u (max s.now tm) (s.newAlert .trackFailed n 11) ns ∧ s.announces u ((.trackFailed, n) :: ns) := by
  have hset := (s.withRelay tm n false).setFailed_outside n
  have hv : Outside beforeRaise s (((s.withRelay tm n false).setFailed n).emit .trackFailed n []) :=
    ((s.withRelay_outside tm n false).mono (by simp [beforeRaise])).trans
      ((hset.mono (by simp [beforeRaise])).trans ((State.emit_outside _ _ _ _).mono (by simp [beforeRaise])))
  have hdrafts : ((s.withRelay tm n false).setFailed n).drafts = [] :=
    State.drafts_of_emitted ((hset .emitted (by decide)).trans hs.1.2)
  obtain ⟨ns, hraises, hannounces⟩ := raise_event_announces (k := .trackFailed) (o := n) (p := 11)
    (before := [(.trackFailed, n)]) (after := []) ha hk hs.2 hv rfl (.refl _ _)
    ((State.drafts_emit ..).trans (congrArg (· ++ _) hdrafts)) (List.append_nil _).symm
  rw [List.append_nil] at hannounces
  have hnow : (((s.withRelay tm n false).setFailed n).emit .trackFailed n []).now = max s.now tm := hset .now (by decide)
  rw [hnow] at hraises
  refine ⟨_, ns, (exec_trackRelayDrop hs.1.1 hn hp).trans ?_, hraises, hannounces⟩
  rw [State.relayDrops_picking (s := s.withRelay tm n false) ((State.filtering_iff n).2 ⟨hl, hf⟩) hpick,
    State.flicker_reached (s := s.withRelay tm n false) hc hlim]

/-- A forced movement (R25). -/
theorem detectorOpen_raises {side : Side} (hn : isLever n = true) (hi : s.leverInputs n ≠ (s.leverInputs n).setSide side false)
    (hp : (s.lever n).phase = .normal ∨ (s.lever n).phase = .normalCatch ∨ (s.lever n).phase = .reverse ∨
      (s.lever n).phase = .reverseCatch) :
    ∃ u ns, exec (.detectorOpen tm n side) s = .next u ∧
      s.raises u (max s.now tm) (s.newAlert .leverForced n 15) ns ∧ s.announcesFirst u (ns ++ [(.leverForced, n)]) := by
  have hin : Outside [.now, .inputs] s
      ((s.advance tm).putInputs (Inputs.setLever n (LeverInputs.setSide side false) s.inputs)) := by simp
  generalize hv : (s.advance tm).putInputs (Inputs.setLever n (LeverInputs.setSide side false) s.inputs) = v at hin
  have hfault : Outside [.levers, .counters] v ((v.putLever n (v.lever n).toFault).count (.forced n)) := by simp
  obtain ⟨ns, hraises, hannounces⟩ := raise_event_announcesFirst (k := .leverForced) (o := n) (p := 15)
    (n := (.leverForced, n)) (w := v.forcedMovement n) ha hk hs.2
    ((hin.mono (by simp [beforeRaise])).trans (hfault.mono (by simp [beforeRaise]))) rfl
    (((State.emit_outside _ _ _ _).mono (by simp [afterRaise])).trans ((State.settle_outside _).mono (by simp [afterRaise])))
    (State.drafts_of_emitted ((hfault .emitted (by decide)).trans ((hin .emitted (by decide)).trans hs.1.2)))
    (by rw [← State.drafts_emit]; exact List.prefix_rfl) (by simp)
  rw [show _ = v.now from hfault .now (by decide), show v.now = max s.now tm by subst hv; rfl] at hraises
  refine ⟨_, ns, ?_, hraises, hannounces⟩
  refine (congrArg Host.Outcome.next (State.terminal_powered tm _ _ hs.1.1 (Inputs.setLever_ne hn hi))).trans ?_
  rw [hv, State.detectorOpens_forces]
  · rw [hin.mode_eq (by decide)]; exact hs.2
  · have hlever : v.lever n = s.lever n := by subst hv; rfl
    rwa [hlever]

end

/-! ### Lamps (R173, R176) -/

/-- A section that carries a role is one of the six. -/
theorem State.isSection_of_role {n : Nat} {r : Role} (h : (s.conf.sec n).role = r) (hr : r ≠ .unused) :
    isSection n = true := by
  by_contra hout
  have hdefault : s.conf.sec n = {} := Tab.get_out _ _ (by simpa [isSection] using hout)
  rw [hdefault] at h; exact hr h.symm

theorem State.isAccepting_iff (n : Nat) : s.isAccepting n = true ↔ (s.conf.sec n).role = .accepting := by
  rw [State.isAccepting, Bool.and_eq_true, decide_eq_true_eq]
  exact and_iff_right_of_imp fun h => State.isSection_of_role h (by simp)

theorem State.isOffering_iff (n : Nat) : s.isOffering n = true ↔ (s.conf.sec n).role = .offering := by
  rw [State.isOffering, Bool.and_eq_true, decide_eq_true_eq]
  exact and_iff_right_of_imp fun h => State.isSection_of_role h (by simp)

theorem AccState.position_eq_some (a : AccState) :
    (a.position = some .lb ↔ a = .lb) ∧ (a.position = some .lc ↔ a = .lc) ∧ (a.position = some .tol ↔ a = .tol) := by
  cases a <;> simp [AccState.position]

theorem State.sectionReads_iff (n : Nat) (p : LineState) : s.sectionReads n p = true ↔
    (s.conf.sec n).role = .accepting ∧ (s.sec n).acc.state.position = some p ∨
      (s.conf.sec n).role = .offering ∧ (s.sec n).off.repeater = p := by
  unfold State.sectionReads
  cases (s.conf.sec n).role <;> simp

theorem State.hold?_isSome_iff (n : Nat) : (s.hold? n).isSome = true ↔ ∃ h ∈ s.holds, h.signal = n := by
  simp [State.hold?]

/-- What the model reads of a source is what R173 says of it. -/
theorem State.sourceTrue_iff_shows (i : Nat) :
    s.sourceTrue i (s.conf.indication i).source (s.conf.indication i).index = true ↔ s.shows i := by
  unfold State.sourceTrue State.shows; dsimp only
  generalize (s.conf.indication i).index = n
  cases (s.conf.indication i).source with
  | leverNormal | leverReverse =>
    unfold State.standing
    cases (s.lever n).phase <;> simp [LeverPhase.standing]
  | leverFree => simp [LeverPhase.isFree]
  | trackOccupied =>
    by_cases hc : (s.track n).filter = .clear <;> cases hf : (s.track n).failed <;>
      simp [State.clear, Track.effectivelyClear, Track.marked, hc, hf]
  | trackMarked => simp [Track.marked]
  | sectionLB => rw [State.sectionReads_iff, (AccState.position_eq_some _).1]
  | sectionLC => rw [State.sectionReads_iff, (AccState.position_eq_some _).2.1]
  | sectionTOL => rw [State.sectionReads_iff, (AccState.position_eq_some _).2.2]
  | sectionDisagreement | sectionThrough => simp [State.isAccepting_iff]
  | releaseAvailable => simp [State.isOffering_iff]
  | holdExists => exact State.hold?_isSome_iff n
  | timeReleaseReady => simp [Option.any_eq_true]
  | boxSwitchedOut => simp
  | alertActive => simp [State.alertActive]
  | leverFaultMark | codeOwed | codeOutstanding | codeReceived => exact Iff.rfl
  | none => simp

theorem State.litValue_dark (h : s.live = false) (i : Nat) : s.litValue i = false := by simp [State.litValue, h]

/-- When an indication is lit (R173, R174). -/
theorem State.litValue_iff (h : s.live = true) (i : Nat) :
    s.litValue i = true ↔ (s.conf.indication i).source ≠ .none ∧
      (s.shows i ↔ (s.conf.indication i).litWhenFalse = false) ∧
      ((s.conf.indication i).display = .flash → ∀ f, s.panel.flasher = some f → f.lit = true) := by
  have hshown : (s.sourceTrue i (s.conf.indication i).source (s.conf.indication i).index !=
      (s.conf.indication i).litWhenFalse) = true ↔ (s.shows i ↔ (s.conf.indication i).litWhenFalse = false) := by
    rw [← State.sourceTrue_iff_shows]
    cases s.sourceTrue i (s.conf.indication i).source (s.conf.indication i).index <;>
      cases (s.conf.indication i).litWhenFalse <;> simp
  have hflash : s.flasherDark = false ↔ ∀ f, s.panel.flasher = some f → f.lit = true := by
    unfold State.flasherDark; cases s.panel.flasher <;> simp
  rw [← hshown, ← hflash]
  unfold State.litValue; dsimp only
  by_cases hsource : (s.conf.indication i).source = .none
  · simp [hsource]
  · by_cases hdisplay : (s.conf.indication i).display = .flash <;> simp [hsource, h, hdisplay]

/-- Settles O56: the panel's timers and requests, the events that raise an alert, and the lamps, each by its own rule. -/
theorem panelTimersAndRequests : Obligations.PanelTimersAndRequests := by
  refine ⟨fun s tm hb => ⟨fun lit e h he => flasherHalf_turns hb h he, fun i e _ h he => pulseTimerExpiry_ends hb h he,
    fun e h he => lampTestTimerExpiry_ends hb h he, fun p on e h he => ?_⟩, fun s tm tag hr => ⟨?_, ?_, ?_⟩,
    fun s tm n hs ha hk => ⟨fun e _ ht hr he => travelTimerExpiry_raises hs ha hk ht hr he,
      fun o _ ho he => repetitionDeadlineExpiry_raises hs ha hk ho he,
      fun o _ ho hx he => owedReminderExpiry_raises hs ha hk ho hx he,
      fun h e hh hr ht he => readyWindowLapse_raises hs ha hk hh hr ht he,
      fun k hl hn hf hp hpick hc hlim => trackRelayDrop_raises hs ha hk hl hn hf hp hpick hc hlim,
      fun side hn hi hp => detectorOpen_raises hs ha hk hn hi hp⟩,
    fun s i _ => ⟨fun h => by simp [State.lampOutput, h], fun h => s.litValue_dark h i, fun h => s.litValue_iff h i⟩⟩
  · obtain ⟨u, hu, hsounder, honly⟩ := sounderPatternTimer_turns hb h he
    exact ⟨u, hu, hsounder.trans (congrArg (Sounder.mk p !on) (Pattern.part_map p on e)), honly⟩
  · obtain ⟨u, hu, hreply, hlamp, honly⟩ := lampTest_request (tm := tm) (tag := tag) hr
    exact ⟨u, congrArg Host.Outcome.next hu, hreply, hlamp, fun i => by simp [State.lampOutput, hlamp], honly⟩
  · obtain ⟨u, hu, hreply, hlist, hpattern, hannounces, honly⟩ := alert_request (tm := tm) (tag := tag) hr
      (State.requestFail_panel (.inr (.inl rfl)) s) rfl
    refine ⟨u, congrArg Host.Outcome.next hu, hreply, hlist, hpattern.trans ?_, hannounces, honly⟩
    refine State.patternAsked_of_acked fun a ha => ?_
    obtain ⟨b, -, rfl⟩ := List.mem_map.1 ha
    rfl
  · obtain ⟨u, hu, hreply, hlist, -, hannounces, honly⟩ := alert_request (tm := tm) (tag := tag) hr
      (State.requestFail_panel (.inr (.inr rfl)) s) rfl
    exact ⟨u, congrArg Host.Outcome.next hu, hreply, hlist, hannounces, honly⟩

end Sys2Proof.Machine

namespace Sys2Proof.Machine

variable {ps : List Part} {s t u v : State}

/-! ### Levers that the examination can move (R29, R32) -/

/-- A lever in a CATCH or a FREE state. -/
def LeverPhase.movable (p : LeverPhase) : Bool := p.isCatch || p.isFree

theorem LeverPhase.movable_freed (p : LeverPhase) : p.freed.movable = p.movable := by cases p <;> rfl

theorem LeverPhase.movable_caught {p : LeverPhase} (h : p.movable = true) : p.caught.movable = true := by
  revert h; cases p <;> decide

theorem LeverPhase.direction_freed (p : LeverPhase) : p.freed.direction = p.direction := by cases p <;> rfl

theorem LeverPhase.direction_caught (p : LeverPhase) : p.caught.direction = p.direction := by cases p <;> rfl

/-- A lever that stands stands on its own side. -/
theorem LeverPhase.direction_of_standing {p : LeverPhase} :
    (p.standing = .normal → p.direction = .toReverse) ∧ (p.standing = .reverse → p.direction = .toNormal) := by
  cases p <;> simp [LeverPhase.standing, LeverPhase.direction]

/-- The list of holds is such that no lever that the examination moves changes it: a hold of a lever on its normal side
is IRREGULAR, and one of a lever on its reverse side has its reversal set. -/
def State.HoldsBound (s : State) : Prop :=
  ∀ n h, (s.lever n).phase.movable = true → s.hold? n = some h →
    ((s.lever n).phase.direction = .toReverse → h.state = .irregular) ∧
      ((s.lever n).phase.direction = .toNormal → h.reversal = true)

/-- What an examination makes of `s` up to `v`: it moves levers between CATCH and FREE on their own sides alone, and where
the holds are bound it changes none. -/
structure State.MovesWithin (s v : State) : Prop where
  fixed : ∀ n, (s.lever n).phase.movable = false → v.lever n = s.lever n
  marks : ∀ n, (v.lever n).fresh = (s.lever n).fresh ∧ (v.lever n).timer = (s.lever n).timer ∧
    (v.lever n).faultMark = (s.lever n).faultMark
  side : ∀ n, (v.lever n).phase.movable = (s.lever n).phase.movable ∧
    (v.lever n).phase.direction = (s.lever n).phase.direction
  holds : s.HoldsBound → ∀ n, v.hold? n = s.hold? n

theorem State.MovesWithin.refl (s : State) : s.MovesWithin s :=
  ⟨fun _ _ => rfl, fun _ => ⟨rfl, rfl, rfl⟩, fun _ => ⟨rfl, rfl⟩, fun _ _ => rfl⟩

theorem State.lever_of_outside (h : Outside ps s u) (hp : .levers ∉ ps) (n : Nat) : u.lever n = s.lever n :=
  lever_of_levers (h .levers hp)

theorem State.hold?_of_outside (h : Outside ps s u) (hp : .holds ∉ ps) (n : Nat) : u.hold? n = s.hold? n :=
  congrArg (fun l : List Hold => l.find? fun k : Hold => k.signal == n) (h .holds hp)

theorem State.MovesWithin.outside (h : s.MovesWithin v) (k : Outside ps v u) (hp : .levers ∉ ps ∧ .holds ∉ ps) :
    s.MovesWithin u := by
  have hlever := State.lever_of_outside k hp.1
  exact ⟨fun n hn => (hlever n).trans (h.fixed n hn), fun n => by rw [hlever]; exact h.marks n,
    fun n => by rw [hlever]; exact h.side n, fun hb n => (State.hold?_of_outside k hp.2 n).trans (h.holds hb n)⟩

/-! ### A standing position that a lever comes back to (R52, R56) -/

/-- An IRREGULAR hold passes no release test (R57, R58). -/
theorem State.testRelease_irregular {n : Nat} {h : Hold} (hh : s.hold? n = some h) (hs : h.state = .irregular) :
    s.testRelease n = s := by
  simp [State.testRelease, State.testSequential, State.testApproach, hh, Hold.testable, hs]

theorem State.signalStandsNormal_irregular {n : Nat} (hb : ∀ h, s.hold? n = some h → h.state = .irregular) :
    s.signalStandsNormal n = s := by
  unfold State.signalStandsNormal; split
  · rfl
  · next h hh => rw [if_neg (by simp [hb h hh]), State.testRelease_irregular hh (hb h hh)]

theorem State.signalStandsReverse_reversed {n : Nat} (hb : ∀ h, s.hold? n = some h → h.reversal = true) (m : Nat) :
    (s.signalStandsReverse n).hold? m = s.hold? m := by
  unfold State.signalStandsReverse; split
  · rfl
  · next h hh =>
    have hset : ({ h with reversal := true } : Hold) = h := by
      have := hb h hh; cases h; simp_all
    rw [hset, State.hold?_putHold, State.hold?_signal hh]
    split
    · next e => rw [e, hh]; rfl
    · rfl

theorem State.present_outside_holds (n : Nat) (old : Standing) (s : State) :
    Outside [.holds, .emitted] s (s.present n old false) := by
  unfold State.present; dsimp only; repeat' split
  all_goals simp_all

theorem State.present_hold? {n : Nat} {old : Standing}
    (hb : ∀ h, s.hold? n = some h →
      (s.standing n = .normal → h.state = .irregular) ∧ (s.standing n = .reverse → h.reversal = true)) (m : Nat) :
    (s.present n old false).hold? m = s.hold? m := by
  unfold State.present; dsimp only
  split
  · rfl
  · cases hstand : s.standing n with
    | normal => exact congrArg (·.hold? m) (State.signalStandsNormal_irregular fun h hh => (hb h hh).1 hstand)
    | reverse => exact State.signalStandsReverse_reversed (fun h hh => (hb h hh).2 hstand) m
    | nowhere => rfl

/-! ### The examination moves levers on their own sides (R29, R32) -/

theorem State.MovesWithin.moveLever {n : Nat} {l : Lever} {e : NoticeEvent} {x : List Byte} (h : s.MovesWithin v)
    (hn : (s.lever n).phase.movable = true) (hl : l.phase.movable = true)
    (hd : l.phase.direction = (v.lever n).phase.direction)
    (hm : l.fresh = (v.lever n).fresh ∧ l.timer = (v.lever n).timer ∧ l.faultMark = (v.lever n).faultMark) :
    s.MovesWithin (v.moveLever n l e x false) := by
  have hlever (k : Nat) : (v.moveLever n l e x false).lever k = (v.putLever n l).lever k :=
    State.lever_of_outside (((State.emit_outside e n x (v.putLever n l)).mono (by simp)).trans
      (State.present_outside_holds n (v.standing n) _)) (by decide) k
  have hput (k : Nat) : (v.putLever n l).lever k = v.lever k ∨ k = n ∧ (v.putLever n l).lever k = l := by
    rw [State.lever_putLever]; split
    · next e => exact .inr ⟨e.1, rfl⟩
    · exact .inl rfl
  refine ⟨fun k hk => ?_, fun k => ?_, fun k => ?_, fun hb k => ?_⟩
  · rcases hput k with e | ⟨rfl, -⟩
    · rw [hlever, e, h.fixed k hk]
    · rw [hn] at hk; cases hk
  · rw [hlever]
    rcases hput k with e | ⟨rfl, e⟩
    · rw [e]; exact h.marks k
    · rw [e, hm.1, hm.2.1, hm.2.2]; exact h.marks k
  · rw [hlever]
    rcases hput k with e | ⟨rfl, e⟩
    · rw [e]; exact h.side k
    · rw [e, hl, hn, hd]; exact ⟨rfl, (h.side k).2⟩
  · have hdir : ((v.putLever n l).lever n).phase.direction = (s.lever n).phase.direction := by
      rcases hput n with e | ⟨-, e⟩
      · rw [e]; exact (h.side n).2
      · rw [e, hd]; exact (h.side n).2
    refine (State.present_hold? (s := (v.putLever n l).emit e n x) (fun g hg => ?_) k).trans (h.holds hb k)
    obtain ⟨hirregular, hreversal⟩ := hb n g hn ((h.holds hb n).symm.trans hg)
    exact ⟨fun hs => hirregular (hdir.symm.trans (LeverPhase.direction_of_standing.1 hs)),
      fun hs => hreversal (hdir.symm.trans (LeverPhase.direction_of_standing.2 hs))⟩

theorem State.MovesWithin.withdraw {n : Nat} (f : GrantFail) (h : s.MovesWithin v)
    (hn : (s.lever n).phase.movable = true) : s.MovesWithin (v.withdraw n f) :=
  h.moveLever hn (LeverPhase.movable_caught ((h.side n).1.trans hn)) (LeverPhase.direction_caught _) ⟨rfl, rfl, rfl⟩

theorem State.MovesWithin.grantLever {n : Nat} (h : s.MovesWithin v) (hn : (s.lever n).phase.movable = true) :
    s.MovesWithin (v.grantLever n) :=
  h.moveLever hn ((LeverPhase.movable_freed _).trans ((h.side n).1.trans hn)) (LeverPhase.direction_freed _) ⟨rfl, rfl, rfl⟩

theorem State.mem_failing {n : Nat} {f : GrantFail} (h : (n, f) ∈ s.failing) : (s.lever n).phase.movable = true := by
  obtain ⟨m, -, hm⟩ := List.mem_filterMap.1 h
  split at hm
  · next hfree =>
    obtain ⟨g, -, hg⟩ := Option.map_eq_some_iff.1 hm
    cases hg
    simp [LeverPhase.movable, hfree]
  · cases hm

theorem State.mem_grantable {n : Nat} (h : n ∈ s.grantable) : (s.lever n).phase.movable = true := by
  obtain ⟨-, hn⟩ := List.mem_filter.1 h
  rw [Bool.and_eq_true] at hn
  simp [LeverPhase.movable, hn.1]

theorem State.MovesWithin.withdrawPass (h : s.MovesWithin v) : s.MovesWithin v.withdrawPass := by
  have withdrawals (l : List (Nat × GrantFail)) (w : State) (hw : s.MovesWithin w)
      (hl : ∀ k ∈ l, (s.lever k.1).phase.movable = true) :
      s.MovesWithin (l.foldl (fun s k => s.withdraw k.1 k.2) w) := by
    induction l generalizing w with
    | nil => exact hw
    | cons k l ih =>
      exact ih _ (hw.withdraw k.2 (hl k (List.mem_cons_self ..))) fun j hj => hl j (List.mem_cons_of_mem _ hj)
  exact withdrawals v.failing v h fun k hk => (h.side k.1).1.symm.trans (State.mem_failing hk)

/-- One free choice more is counted (R29). -/
theorem State.nextChoice_outside (s : State) : Outside [.choices] s { s with choices := s.choices + 1 } := fun p hp => by
  cases p <;> simp_all [Part.Same]

theorem State.MovesWithin.settleLevers (fuel : Nat) (h : s.MovesWithin v) : s.MovesWithin (v.settleLevers fuel) := by
  induction fuel generalizing v with
  | zero => exact h.withdrawPass
  | succ fuel ih =>
    have hw := h.withdrawPass
    have hmem {n : Nat} (hn : n ∈ v.withdrawPass.grantable) : (s.lever n).phase.movable = true :=
      (hw.side n).1.symm.trans (State.mem_grantable hn)
    unfold State.settleLevers; dsimp only
    split
    · exact hw
    · next n hl => exact ih (hw.grantLever (hmem (by simp [hl])))
    · next n m rest hl =>
      have hchosen : ((n :: m :: rest)[Config.grantChoice v.withdrawPass.choices % (n :: m :: rest).length]?).getD n ∈
          v.withdrawPass.grantable := by
        rw [hl, List.getElem?_eq_getElem (Nat.mod_lt _ (by simp))]
        exact List.getElem_mem _
      exact ih ((hw.outside (v.withdrawPass.nextChoice_outside) (by decide)).grantLever (hmem hchosen))

/-- The examination that ends an event. -/
theorem State.settle_movesWithin (s : State) : s.MovesWithin s.settle :=
  ((State.MovesWithin.refl s).settleLevers 48).outside (State.removalsLast_outside _) (by decide)

/-- An examination that finds no lever to move changes nothing. -/
theorem State.settle_of_idle (hf : s.failing = []) (hg : s.grantable = []) : s.settle = s.removalsLast := by
  have hpass : s.withdrawPass = s := by rw [State.withdrawPass, hf]; rfl
  unfold State.settle State.settleLevers; dsimp only
  rw [hpass, hg]

end Sys2Proof.Machine

namespace Sys2Proof.Machine

variable {ps : List Part} {s t u v : State}

/-! ### Levers at the end of a start interval (R45) -/

/-- What the end of a start interval makes of lever `n` (R45). -/
def State.leverStarted (s : State) (n : Nat) : Lever :=
  { s.lever n with
    fresh := !(s.leverInputs n).catchLifted
    timer := if (s.lever n).phase = .travel then .running (s.now + 10000) else .stopped
    faultMark := (s.lever n).faultMark || decide ((s.lever n).phase = .fault) }

theorem State.leverStarts_lever (s : State) (a n : Nat) :
    (s.leverStarts a).lever n = if n = a ∧ 1 ≤ a ∧ a ≤ 24 then s.leverStarted a else s.lever n :=
  State.lever_putLever ..

theorem State.leversStart_lever (s : State) (n : Nat) :
    s.leversStart.lever n = if n ∈ Tab.numbers 24 then s.leverStarted n else s.lever n := by
  refine foldl_read (f := State.leverStarts) (g := fun n v => v.lever n) (F := fun n v => v.leverStarted n)
    (Tab.nodup_numbers 24) (fun a ha v => ?_) (fun v a n h => ?_) (fun v a n h => ?_) s n
  · rw [State.leverStarts_lever, if_pos ⟨rfl, Tab.mem_numbers.1 ha⟩]
  · rw [State.leverStarts_lever, if_neg fun e => h e.1]
  · have hf := v.leverStarts_outside a
    have hin : (v.leverStarts a).leverInputs n = v.leverInputs n :=
      congrArg (fun i : Inputs => i.levers.get {} n) (hf .inputs (by decide))
    rw [State.leverStarted, State.leverStarted, hin, State.leverStarts_lever, if_neg fun e => h e.1,
      show (v.leverStarts a).now = v.now from hf .now (by decide)]

/-! ### Levers that a new hold holds (R33, R68) -/

/-- From `s` to `v` a lever in TRAVEL may lose its lock, and no lever changes else. -/
def State.Unlocks (s v : State) : Prop :=
  ∀ n, v.lever n = s.lever n ∨ (s.lever n).phase = .travel ∧ v.lever n = { s.lever n with solenoid := false }

theorem State.Unlocks.trans (h : s.Unlocks t) (k : t.Unlocks u) : s.Unlocks u := fun n => by
  rcases h n with e | ⟨hp, e⟩ <;> rcases k n with e' | ⟨hp', e'⟩
  · exact .inl (e'.trans e)
  · exact .inr ⟨e ▸ hp', by rw [e', e]⟩
  · exact .inr ⟨hp, e'.trans e⟩
  · exact .inr ⟨hp, by rw [e', e]⟩

theorem State.Unlocks.of_outside (h : Outside ps s u) (hp : .levers ∉ ps) : s.Unlocks u := fun n =>
  .inl (State.lever_of_outside h hp n)

theorem State.Unlocks.foldl {α : Type} {f : State → α → State} (hf : ∀ v a, State.Unlocks v (f v a)) (l : List α) (s : State) :
    s.Unlocks (l.foldl f s) := by
  induction l generalizing s with
  | nil => exact .of_outside (.refl [] s) (by decide)
  | cons a l ih => exact (hf s a).trans (ih _)

theorem State.Unlocks.phase (h : s.Unlocks u) (n : Nat) : (u.lever n).phase = (s.lever n).phase := by
  rcases h n with e | ⟨-, e⟩ <;> rw [e]

theorem State.Unlocks.marks (h : s.Unlocks u) (n : Nat) : (u.lever n).fresh = (s.lever n).fresh ∧
    (u.lever n).timer = (s.lever n).timer ∧ (u.lever n).faultMark = (s.lever n).faultMark := by
  rcases h n with e | ⟨-, e⟩ <;> rw [e] <;> exact ⟨rfl, rfl, rfl⟩

theorem State.Unlocks.eq_of_not_travel (h : s.Unlocks u) {n : Nat} (hn : (s.lever n).phase ≠ .travel) :
    u.lever n = s.lever n := (h n).resolve_right fun e => hn e.1

/-- A held lever in TRAVEL loses its lock (R33). -/
def State.unlockTravel (s : State) (k : Nat) : State :=
  if (s.lever k).phase = .travel then s.putLever k { s.lever k with solenoid := false } else s

theorem State.unlockTravel_unlocks (s : State) (k : Nat) : s.Unlocks (s.unlockTravel k) := by
  unfold State.unlockTravel; split
  · next hp =>
    intro n
    rw [State.lever_putLever]; split
    · next e => rw [e.1]; exact .inr ⟨hp, rfl⟩
    · exact .inl rfl
  · exact .of_outside (.refl [] s) (by decide)

/-- A hold as it is created (R50, R68). -/
def createdHold (n : Nat) (d : HoldDef) (st : HoldState) (r : Bool) : Hold :=
  { signal := n, stages := List.replicate d.holding.length .waiting, state := st, reversal := r }

theorem State.createHold_eq (n : Nat) (d : HoldDef) (st : HoldState) (r : Bool) (c : HoldCause) (s : State) :
    s.createHold n d st r c =
      (d.held.foldl State.unlockTravel (s.putHolds (insertHold (createdHold n d st r) s.holds))).emit .holdCreated n
        (b1 c.ord) := by
  rw [State.createHold, createdHold, ← List.map_const']; rfl

theorem State.createHold_unlocks (n : Nat) (d : HoldDef) (st : HoldState) (r : Bool) (c : HoldCause) (s : State) :
    s.Unlocks (s.createHold n d st r c) := by
  rw [State.createHold_eq]
  have hput : Outside [.holds] s (s.putHolds (insertHold (createdHold n d st r) s.holds)) := by simp
  exact (State.Unlocks.of_outside hput (by decide)).trans ((State.Unlocks.foldl State.unlockTravel_unlocks d.held _).trans
    (.of_outside (State.emit_outside _ _ _ _) (by decide)))

/-! ### The start-up holds (R68) -/

theorem find?_insertHold {h : Hold} {l : List Hold} (hl : ∀ k ∈ l, k.signal ≠ h.signal) (m : Nat) :
    (insertHold h l).find? (fun k => k.signal == m) = if m = h.signal then some h else l.find? fun k => k.signal == m := by
  induction l with
  | nil =>
    by_cases e : m = h.signal
    · subst e; simp [insertHold]
    · simp [insertHold, e, Ne.symm e]
  | cons k l ih =>
    have hk : (k.signal == h.signal) = false := beq_eq_false_iff_ne.2 (hl k (List.mem_cons_self ..))
    unfold insertHold; split
    · by_cases e : m = h.signal
      · subst e; simp
      · simp [e, Ne.symm e]
    · rw [List.find?_cons, List.find?_cons, ih fun j hj => hl j (List.mem_cons_of_mem _ hj)]
      by_cases e : m = h.signal
      · subst e; simp [hk]
      · simp [e]

theorem State.createHold_hold? {n : Nat} {d : HoldDef} {st : HoldState} {r : Bool} {c : HoldCause} (h : s.hold? n = none)
    (m : Nat) : (s.createHold n d st r c).hold? m = if m = n then some (createdHold n d st r) else s.hold? m := by
  rw [State.createHold_eq]
  have hlevers : Outside [.levers, .emitted] (s.putHolds (insertHold (createdHold n d st r) s.holds))
      ((d.held.foldl State.unlockTravel (s.putHolds (insertHold (createdHold n d st r) s.holds))).emit .holdCreated n
        (b1 c.ord)) := by
    refine Outside.trans ?_ ((State.emit_outside _ _ _ _).mono (by simp))
    generalize s.putHolds (insertHold (createdHold n d st r) s.holds) = v
    induction d.held generalizing v with
    | nil => exact .refl _ _
    | cons k l ih =>
      refine Outside.trans ?_ (ih (v.unlockTravel k))
      unfold State.unlockTravel; split <;> simp
  have hnew : ∀ k ∈ s.holds, k.signal ≠ n := fun k hk e => List.find?_eq_none.1 h k hk (beq_iff_eq.2 e)
  exact (State.hold?_of_outside hlevers (by decide) m).trans (find?_insertHold (h := createdHold n d st r) hnew m)

/-- The hold that the start-up rule names for lever `n` (R68). -/
def State.startUpHoldOf (s : State) (n : Nat) : Option Hold :=
  (s.conf.holdDef n).bind fun d =>
    if s.standing n ≠ .normal then some (createdHold n d .active (s.standing n = .reverse))
    else if (d.approach.any fun t => !s.clear t) || d.holding.any fun t => !s.clear t then
      some (createdHold n d .irregular false)
    else none

theorem State.startUpHold_hold? {n : Nat} (h : s.hold? n = none) (m : Nat) :
    (s.startUpHold n).hold? m = if m = n then s.startUpHoldOf n else s.hold? m := by
  unfold State.startUpHold State.startUpHoldOf
  cases s.conf.holdDef n with
  | none => by_cases e : m = n <;> simp [e, h]
  | some d =>
    dsimp only [Option.bind_some]
    split
    · exact State.createHold_hold? h m
    · split
      · exact State.createHold_hold? h m
      · by_cases e : m = n <;> simp [e, h]

theorem State.startUpHold_unlocks (s : State) (n : Nat) : s.Unlocks (s.startUpHold n) := by
  unfold State.startUpHold
  repeat' split
  case h_2.isTrue => exact State.createHold_unlocks _ _ _ _ _ s
  case h_2.isFalse.isTrue => exact State.createHold_unlocks _ _ _ _ _ s
  all_goals exact .of_outside (.refl [] s) (by decide)

theorem State.startUpHoldOf_eq (h : Outside ps s u) (hp : .tracks ∉ ps ∧ .configuration ∉ ps) {n : Nat}
    (hl : (u.lever n).phase = (s.lever n).phase) : u.startUpHoldOf n = s.startUpHoldOf n := by
  have hclear : u.clear = s.clear := funext fun t =>
    congrArg (fun l : Tab 16 Track => (l.get {} t).effectivelyClear) (h.tracks_eq hp.1)
  have hstand : u.standing n = s.standing n := congrArg LeverPhase.standing hl
  simp only [State.startUpHoldOf, h.conf_eq hp.2, hclear, hstand]

theorem State.startUpHolds_hold? (hs : s.holds = []) {n : Nat} (hn : n ∈ Tab.numbers 24) :
    s.startUpHolds.hold? n = s.startUpHoldOf n := by
  have each (l : List Nat) (hl : l.Nodup) (v : State) (hv : ∀ m ∈ l, v.hold? m = none) (m : Nat) :
      (l.foldl (fun s n => s.startUpHold n) v).hold? m = if m ∈ l then v.startUpHoldOf m else v.hold? m := by
    induction l generalizing v with
    | nil => simp
    | cons a l ih =>
      obtain ⟨ha, hl⟩ := List.nodup_cons.1 hl
      have hone := State.startUpHold_hold? (s := v) (hv a (List.mem_cons_self ..))
      have hrest := ih hl (v.startUpHold a) fun k hk => by
        rw [hone, if_neg (show ¬ k = a from fun e => ha (e ▸ hk))]; exact hv k (List.mem_cons_of_mem _ hk)
      rw [List.foldl_cons, hrest,
        State.startUpHoldOf_eq (State.startUpHold_outside a v) (by decide) ((v.startUpHold_unlocks a).phase m), hone]
      by_cases e : m = a
      · subst e; simp [ha]
      · simp [e]
  have hnone (m : Nat) : s.hold? m = none := by rw [State.hold?, hs]; rfl
  exact (each _ (Tab.nodup_numbers 24) s (fun m _ => hnone m) n).trans (if_pos hn)

theorem State.startUpHolds_unlocks (s : State) : s.Unlocks s.startUpHolds :=
  .foldl State.startUpHold_unlocks _ s

end Sys2Proof.Machine

namespace Sys2Proof.Machine

variable {ps : List Part} {s t u v : State}

/-! ### Sections and bells at the end of a start interval (R85, R90, R110, R126) -/

/-- What the end of a start interval makes of section `x` (R85, R90). -/
def State.sectionStarted (s : State) (x : Nat) : Sec :=
  match (s.conf.sec x).role with
  | .accepting => { s.sec x with
      acc := { (if (s.sec x).acc.state = .through then (s.sec x).acc else (s.sec x).acc.compare) with forced := false } }
  | .offering => { s.sec x with off := { (s.sec x).off with timer := some (s.now + 100) } }
  | .unused => s.sec x

theorem State.sectionStarts_self (s : State) {x : Nat} (hx : x ∈ Tab.numbers 6) :
    (s.sectionStarts x).sec x = s.sectionStarted x := by
  have hx := Tab.mem_numbers.1 hx
  unfold State.sectionStarts State.sectionStarted; dsimp only
  cases (s.conf.sec x).role with
  | accepting => exact (State.sec_putAcc ..).trans (if_pos ⟨rfl, hx⟩)
  | offering => exact (State.sec_putOff ..).trans (if_pos ⟨rfl, hx⟩)
  | unused => rfl

theorem State.sectionStarts_ne (s : State) {x a : Nat} (h : x ≠ a) : (s.sectionStarts a).sec x = s.sec x := by
  unfold State.sectionStarts; dsimp only
  cases (s.conf.sec a).role with
  | accepting => exact (State.sec_putAcc ..).trans (if_neg fun e => h e.1)
  | offering => exact (State.sec_putOff ..).trans (if_neg fun e => h e.1)
  | unused => rfl

theorem State.sectionsStart_sec (s : State) {x : Nat} (hx : x ∈ Tab.numbers 6) :
    s.sectionsStart.sec x = s.sectionStarted x := by
  have := foldl_read (f := State.sectionStarts) (g := fun n v => v.sec n) (F := fun n v => v.sectionStarted n)
    (Tab.nodup_numbers 6) (fun a ha v => v.sectionStarts_self ha) (fun v a n h => v.sectionStarts_ne h)
    (fun v a n h => ?_) s x
  · exact this.trans (if_pos hx)
  · have hf := v.sectionStarts_outside a
    simp only [State.sectionStarted, v.sectionStarts_ne h, hf.conf_eq (by decide),
      show (v.sectionStarts a).now = v.now from hf .now (by decide)]

/-- What the end of a start interval makes of line `l` (R110, R126). -/
def State.bellStarted (s : State) (l : Nat) : Bell :=
  { s.bell l with
    rx := { (s.bell l).rx with detector := if s.earOn l .receive then .ignored else .off }
    man := { (s.bell l).man with detector := if s.earOn l .manual then .ignored else .off }
    plunger := if s.earOn l .manual then .spent else .off }

theorem State.bellStarts_bell (s : State) (a l : Nat) :
    (s.bellStarts a).bell l = if l = a ∧ 1 ≤ a ∧ a ≤ 3 then s.bellStarted a else s.bell l := State.bell_putBell ..

theorem State.bellsStart_bell (s : State) {l : Nat} (hl : l ∈ Tab.numbers 3) : s.bellsStart.bell l = s.bellStarted l := by
  have := foldl_read (f := State.bellStarts) (g := fun n v => v.bell n) (F := fun n v => v.bellStarted n)
    (Tab.nodup_numbers 3) (fun a ha v => by rw [State.bellStarts_bell, if_pos ⟨rfl, Tab.mem_numbers.1 ha⟩])
    (fun v a n h => by rw [State.bellStarts_bell, if_neg fun e => h e.1]) (fun v a n h => ?_) s l
  · exact this.trans (if_pos hl)
  · have hear (e : Ear) : (v.bellStarts a).earOn n e = v.earOn n e := by cases e <;> rfl
    simp only [State.bellStarted, hear, State.bellStarts_bell, if_neg fun e : n = a ∧ 1 ≤ a ∧ a ≤ 3 => h e.1]

/-! ### Switching at the end of a start interval (R172) -/

theorem State.switchingStarts_opened (h : s.control.box = .opened) : s.switchingStarts = s := if_pos h

/-- A box that the record in force allows to stay switched out. -/
def State.staysOut (s : State) : State := s.putControl { s.control with relayOn := true }

theorem State.switchingStarts_stays (h : s.control.box = .switchedOut)
    (hr : s.conf.switchOut.may = true ∧ s.throughSections = s.pairAccepting) : s.switchingStarts = s.staysOut := by
  unfold State.switchingStarts
  rw [if_neg (by simp [h]), if_pos (by simp [hr])]; rfl

/-- A box that comes back OPEN: its set is A, and its sections leave THROUGH. -/
def State.comesBack (s : State) : State :=
  s.throughSections.foldl State.throughToTol ((s.putControl { s.control with box := .opened }).putSet .a)

theorem State.switchingStarts_returns (h : s.control.box = .switchedOut)
    (hr : s.conf.switchOut.may = false ∨ s.throughSections ≠ s.pairAccepting) :
    ∃ x, s.switchingStarts = s.comesBack.emit .modeSwitchedIn 0 x := by
  unfold State.switchingStarts
  rw [if_neg (by simp [h]), if_neg (by simpa using fun hm => hr.resolve_left (by simp [hm]))]
  exact ⟨_, rfl⟩

theorem State.throughToTol_sec (s : State) (a x : Nat) : (s.throughToTol a).sec x = if x = a ∧ 1 ≤ a ∧ a ≤ 6
    then { s.sec a with acc := { (s.sec a).acc.enterTol false with assumed := true } } else s.sec x := State.sec_putAcc ..

theorem State.throughToTol_off (s : State) (a x : Nat) : ((s.throughToTol a).sec x).off = (s.sec x).off := by
  rw [State.throughToTol_sec]; split
  · next e => rw [e.1]
  · rfl

theorem State.comesBack_off (s : State) (x : Nat) : (s.comesBack.sec x).off = (s.sec x).off := by
  have each (l : List Nat) (v : State) : ((l.foldl State.throughToTol v).sec x).off = (v.sec x).off := by
    induction l generalizing v with
    | nil => rfl
    | cons a l ih => exact (ih _).trans (v.throughToTol_off a x)
  exact each _ _

theorem State.throughSections_eq (h : Outside ps s u) (hp : .sections ∉ ps) : u.throughSections = s.throughSections := by
  simp only [State.throughSections, State.sec_of_outside h hp]

theorem State.pairAccepting_eq (h : Outside ps s u) (hp : .configuration ∉ ps) : u.pairAccepting = s.pairAccepting := by
  simp only [State.pairAccepting, State.inPair, h.conf_eq hp]

theorem State.comesBack_outside (s : State) : Outside [.box, .set, .sections, .emitted] s s.comesBack := by
  simp [State.comesBack]

/-- The box is open, its relay as it was, and set A in force. -/
theorem State.comesBack_control (s : State) : s.comesBack.control.box = .opened ∧
    s.comesBack.control.relayOn = s.control.relayOn ∧ s.comesBack.set = .a := by
  have hf : Outside [.sections, .emitted] ((s.putControl { s.control with box := .opened }).putSet .a) s.comesBack := by
    simp [State.comesBack]
  obtain ⟨hbox, hrelay, -⟩ := hf .box (by decide)
  exact ⟨hbox, hrelay, hf .set (by decide)⟩

/-- A section that was in THROUGH is in TOL, assumed (R74). -/
theorem State.comesBack_acc {x : Nat} (hx : x ∈ s.throughSections) :
    (s.comesBack.sec x).acc = { (s.sec x).acc.enterTol false with assumed := true } := by
  have hmem {a : Nat} (ha : a ∈ s.throughSections) := Tab.mem_numbers.1 (List.mem_filter.1 ha).1
  have := foldl_read (f := State.throughToTol) (g := fun n v => v.sec n)
    (F := fun n v => { v.sec n with acc := { (v.sec n).acc.enterTol false with assumed := true } })
    ((Tab.nodup_numbers 6).filter _) (fun a ha v => by rw [State.throughToTol_sec, if_pos ⟨rfl, hmem ha⟩])
    (fun v a n h => by rw [State.throughToTol_sec, if_neg fun e => h e.1])
    (fun v a n h => by rw [State.throughToTol_sec, if_neg fun e => h e.1])
    ((s.putControl { s.control with box := .opened }).putSet .a) x
  exact congrArg Sec.acc (this.trans (if_pos hx))

/-! ### What RUNNING begins with (R196) -/

/-- The units that begin once the tracks have begun and the box is open or switched out. -/
def State.unitsBegin (s : State) : State := s.leversStart.startUpHolds.sectionsStart.bellsStart.panelStarts

theorem State.unitsStart_begins (h : s.control.mode = .running) : s.unitsStart = s.tracksStart.switchingStarts.unitsBegin :=
  State.unitsStart_running h

theorem State.unitsBegin_outside (s : State) :
    Outside [.levers, .holds, .sections, .bells, .flasher, .sounder, .emitted] s s.unitsBegin := by
  simp [State.unitsBegin]

theorem State.bellStarted_eq (h : Outside ps s u) (hp : .bells ∉ ps ∧ .inputs ∉ ps) (l : Nat) :
    u.bellStarted l = s.bellStarted l := by
  have hbell : u.bell l = s.bell l := congrArg (fun b : Tab 3 Bell => b.get {} l) (h .bells hp.1)
  have hin : u.inputs = s.inputs := h .inputs hp.2
  have hear (e : Ear) : u.earOn l e = s.earOn l e := by cases e <;> simp only [State.earOn, hin]
  simp only [State.bellStarted, hbell, hear]

theorem State.unitsBegin_bell (s : State) {l : Nat} (hl : l ∈ Tab.numbers 3) : s.unitsBegin.bell l = s.bellStarted l := by
  have hpanel := State.panelStarts_outside s.leversStart.startUpHolds.sectionsStart.bellsStart
  have hbefore : Outside [.levers, .holds, .sections, .emitted] s s.leversStart.startUpHolds.sectionsStart := by simp
  calc s.unitsBegin.bell l = s.leversStart.startUpHolds.sectionsStart.bellsStart.bell l :=
        congrArg (fun b : Tab 3 Bell => b.get {} l) (hpanel .bells (by decide))
    _ = s.leversStart.startUpHolds.sectionsStart.bellStarted l := State.bellsStart_bell _ hl
    _ = s.bellStarted l := State.bellStarted_eq hbefore (by decide) l

theorem State.sectionStarted_eq (h : Outside ps s u) (hp : .sections ∉ ps ∧ .configuration ∉ ps ∧ .now ∉ ps) (x : Nat) :
    u.sectionStarted x = s.sectionStarted x := by
  simp only [State.sectionStarted, State.sec_of_outside h hp.1, h.conf_eq hp.2.1, show u.now = s.now from h .now hp.2.2]

theorem State.unitsBegin_sec (s : State) {x : Nat} (hx : x ∈ Tab.numbers 6) : s.unitsBegin.sec x = s.sectionStarted x := by
  have hafter : Outside [.bells, .flasher, .sounder] s.leversStart.startUpHolds.sectionsStart s.unitsBegin := by
    simp [State.unitsBegin]
  have hbefore : Outside [.levers, .holds, .emitted] s s.leversStart.startUpHolds := by simp
  calc s.unitsBegin.sec x = s.leversStart.startUpHolds.sectionsStart.sec x := State.sec_of_outside hafter (by decide) x
    _ = s.leversStart.startUpHolds.sectionStarted x := State.sectionsStart_sec _ hx
    _ = s.sectionStarted x := State.sectionStarted_eq hbefore (by decide) x

theorem State.panelStarts_flasher (h : s.control.mode = .running) :
    s.panelStarts.panel.flasher = some ⟨true, s.now + 500⟩ := by
  unfold State.panelStarts; dsimp only
  rw [if_pos h]
  exact State.recomputeSounder_outside true _ .flasher (by decide)

theorem State.unitsBegin_flasher (h : s.control.mode = .running) :
    s.unitsBegin.panel.flasher = some ⟨true, s.now + 500⟩ := by
  have hbefore : Outside [.levers, .holds, .sections, .bells, .emitted] s
      s.leversStart.startUpHolds.sectionsStart.bellsStart := by simp
  rw [State.unitsBegin, State.panelStarts_flasher (by rw [hbefore.mode_eq (by decide)]; exact h),
    show _ = s.now from hbefore .now (by decide)]

/-- After `leversStart` a lever may lose its lock to a hold, and nothing else of it changes. -/
theorem State.unitsBegin_unlocks (s : State) : s.leversStart.Unlocks s.unitsBegin := by
  have hafter : Outside [.sections, .bells, .flasher, .sounder, .emitted] s.leversStart.startUpHolds s.unitsBegin := by
    simp [State.unitsBegin]
  exact s.leversStart.startUpHolds_unlocks.trans (.of_outside hafter (by decide))

theorem State.leversStart_phase (s : State) (n : Nat) : (s.leversStart.lever n).phase = (s.lever n).phase := by
  rw [State.leversStart_lever]; split <;> rfl

theorem State.unitsBegin_hold? (hs : s.holds = []) {n : Nat} (hn : n ∈ Tab.numbers 24) :
    s.unitsBegin.hold? n = s.startUpHoldOf n := by
  have hafter : Outside [.sections, .bells, .flasher, .sounder, .emitted] s.leversStart.startUpHolds s.unitsBegin := by
    simp [State.unitsBegin]
  have hlevers := s.leversStart_outside
  calc s.unitsBegin.hold? n = s.leversStart.startUpHolds.hold? n := State.hold?_of_outside hafter (by decide) n
    _ = s.leversStart.startUpHoldOf n := State.startUpHolds_hold? ((hlevers .holds (by decide)).trans hs) hn
    _ = s.startUpHoldOf n := State.startUpHoldOf_eq hlevers (by decide) (s.leversStart_phase n)

theorem State.startUpHoldOf_of_normal {n : Nat} {g : Hold} (hs : s.standing n = .normal)
    (h : s.startUpHoldOf n = some g) : g.state = .irregular := by
  obtain ⟨d, -, hd⟩ := Option.bind_eq_some_iff.1 h
  rw [if_neg (by simp [hs])] at hd
  split at hd <;> cases hd
  rfl

theorem State.startUpHoldOf_of_reverse {n : Nat} {g : Hold} (hs : s.standing n = .reverse)
    (h : s.startUpHoldOf n = some g) : g.reversal = true := by
  obtain ⟨d, -, hd⟩ := Option.bind_eq_some_iff.1 h
  rw [if_pos (by simp [hs])] at hd
  cases hd
  simp [createdHold, hs]

/-- A lever in a CATCH state stands on the side that it is on. -/
theorem LeverPhase.standing_of_movable {p : LeverPhase} (hm : p.movable = true) (hf : p.isFree = false) :
    (p.direction = .toReverse → p.standing = .normal) ∧ (p.direction = .toNormal → p.standing = .reverse) := by
  cases p <;> simp_all [LeverPhase.movable, LeverPhase.isCatch, LeverPhase.isFree, LeverPhase.direction, LeverPhase.standing]

/-- The holds that start-up names are bound, where no lever is FREE. -/
theorem State.unitsBegin_holdsBound (hs : s.holds = [])
    (hfree : ∀ n ∈ Tab.numbers 24, (s.lever n).phase.isFree = false) : s.unitsBegin.HoldsBound := by
  intro n g hmov hg
  rw [(s.unitsBegin_unlocks.phase n).trans (s.leversStart_phase n)] at hmov ⊢
  by_cases hn : n ∈ Tab.numbers 24
  · rw [State.unitsBegin_hold? hs hn] at hg
    obtain ⟨hnormal, hreverse⟩ := LeverPhase.standing_of_movable hmov (hfree n hn)
    exact ⟨fun hd => State.startUpHoldOf_of_normal (hnormal hd) hg, fun hd => State.startUpHoldOf_of_reverse (hreverse hd) hg⟩
  · rw [Tab.mem_numbers] at hn
    have hdefault : s.lever n = {} := Tab.get_out _ _ (by omega)
    rw [hdefault] at hmov; cases hmov

/-! ### The event (R196) -/

/-- The end of a start interval that ends in mode `m`. -/
def State.intervalEnded (m : Mode) (s : State) : State := ((s.entered m).unitsStart.settle).startedFirst.close

theorem exec_startIntervalEnd {tm e : Time} {m : Mode} (hb : s.between) (hm : s.control.mode = .start)
    (hi : s.control.interval = some e) (he : e ≤ max s.now tm)
    (hends : (s.advance tm).intervalEnds = (((s.advance tm).entered m).unitsStart.settle).startedFirst) :
    exec (.startIntervalEnd tm) s = .next ((s.advance tm).intervalEnded m) := by
  refine (congrArg Host.Outcome.next (State.event_powered tm _ hb.1)).trans ?_
  have hover : (s.advance tm).intervalOver = true := by
    simp only [State.intervalOver, show (s.advance tm).control = s.control from rfl, hm, hi, due, Option.any_some,
      decide_true, Bool.true_and, decide_eq_true_eq]
    exact he
  rw [if_pos hover, hends]; rfl

/-- What comes after the units have begun. -/
theorem State.intervalEnded_outside (m : Mode) (s : State) :
    Outside [.levers, .holds, .choices, .emitted, .outbox, .transmitter] (s.entered m).unitsStart (s.intervalEnded m) :=
  ((State.settle_outside _).mono (by simp)).trans (((State.startedFirst_outside _).mono (by simp)).trans
    ((State.close_outside _).mono (by simp)))

/-- The notice *started* comes first (R196). -/
theorem State.startedFirst_announces {ps : List Part} (h : Outside ps s v)
    (hp : .outbox ∉ ps) (hm : v.control.mode ≠ .start) :
    s.announcesStart v.startedFirst.close := by
  intro hsends hroom
  have hc := State.close_outside v.startedFirst
  have hsent : v.startedFirst.sends NoticeEvent.modeStarted.kind = true := by
    rw [← hc.sends_eq (by decide) (by decide)]; exact hsends
  obtain ⟨k, hk⟩ : ∃ k, 32 - v.startedFirst.link.outbox.length = k + 1 := by
    have hout : v.startedFirst.link.outbox = s.link.outbox := (h .outbox hp).1
    rw [hout]; exact ⟨31 - s.link.outbox.length, by omega⟩
  obtain ⟨hmode, -, hbase, hcause⟩ : v.startedFirst.close.control.mode = v.control.mode ∧ _ ∧
    v.startedFirst.close.control.base = v.control.base ∧ v.startedFirst.close.control.cause = v.control.cause :=
    hc .mode (by decide)
  have hnow : v.startedFirst.close.now = v.now := hc .now (by decide)
  have hclock : v.startedFirst.close.control.clock = v.control.clock := hc .clock (by decide)
  have hbox : v.startedFirst.close.control.box = v.control.box := (hc .box (by decide)).1
  simp only [State.timebase, State.stamp, hbase, hnow, hclock, hmode, hcause, hbox]
  rw [State.close_outbox_take (s := v.startedFirst) hm, hk,
    show v.startedFirst.emitted = ⟨.modeStarted, 0, v.startedFields⟩ :: v.emitted from rfl,
    List.filter_cons_of_pos (p := fun d : Draft => v.startedFirst.sends d.event.kind) hsent, List.map_cons,
    List.take_succ_cons,
    show v.startedFirst.link.outbox = s.link.outbox from (h .outbox hp).1]
  exact ⟨_, rfl⟩

end Sys2Proof.Machine

namespace Sys2Proof.Machine

variable {ps : List Part} {s t u v w : State}

/-! ### The end of a start interval that ends in RUNNING (R196) -/

/-- What stands between the start interval and the units that begin: the mode, the tracks and the switching of the box. -/
def toBegin : List Part := [.now, .mode, .tracks, .box, .set, .sections, .emitted]

/-- What the end of the event changes after the units have begun. -/
def fromBegun : List Part := [.levers, .holds, .choices, .emitted, .outbox, .transmitter]

/-- The bell lines and the repeaters of the units that begin (R90, R110, R126). -/
theorem unitsBegin_linesBegin {now : Time} (hw : Outside toBegin s w) (hnow : w.now = now)
    (hoff : ∀ x, (w.sec x).off = (s.sec x).off) (hu : Outside fromBegun w.unitsBegin u) : s.linesBegin u now := by
  refine ⟨fun l hl => ?_, fun x hx hrole => ?_⟩
  · calc u.bell l = w.unitsBegin.bell l := congrArg (fun b : Tab 3 Bell => b.get {} l) (hu .bells (by decide))
      _ = w.bellStarted l := w.unitsBegin_bell hl
      _ = s.bellStarted l := State.bellStarted_eq hw (by decide) l
  · have hconf : (w.conf.sec x).role = .offering := by rw [hw.conf_eq (by decide)]; exact hrole
    rw [State.sec_of_outside hu (by decide), State.unitsBegin_sec w hx, State.sectionStarted, hconf, ← hoff, hnow]

/-- What the section of an accepting role has after the units have begun. -/
theorem unitsBegin_accepting {x : Nat} (hx : x ∈ Tab.numbers 6) (hu : Outside fromBegun w.unitsBegin u)
    (hrole : (w.conf.sec x).role = .accepting) : (u.sec x).acc =
      { (if (w.sec x).acc.state = .through then (w.sec x).acc else (w.sec x).acc.compare) with forced := false } := by
  rw [State.sec_of_outside hu (by decide), State.unitsBegin_sec w hx, State.sectionStarted, hrole]

/-- The event of a start interval that ends in RUNNING, up to the units that begin. -/
theorem startIntervalEnd_running {tm e : Time} (hb : s.between) (hm : s.control.mode = .start)
    (hi : s.control.interval = some e) (he : e ≤ max s.now tm) (hg : s.store.checkGood = true)
    (hw : ((s.advance tm).entered .running).tracksStart.switchingStarts = w) (hbegin : Outside toBegin s w) :
    ∃ u, exec (.startIntervalEnd tm) s = .next u ∧ Outside fromBegun w.unitsBegin u ∧ w.unitsBegin.MovesWithin u ∧
      (u.control.mode = .running ∧ u.control.interval = none ∧ u.control.base = max s.now tm) ∧ s.announcesStart u := by
  have hunits : ((s.advance tm).entered .running).unitsStart = w.unitsBegin := by rw [State.unitsStart_begins rfl, hw]
  have hu := State.intervalEnded_outside .running (s.advance tm)
  rw [hunits] at hu
  have hframe : Outside (toBegin ++ [.levers, .holds, .bells, .flasher, .sounder, .choices]) s w.unitsBegin.settle :=
    (hbegin.mono (by simp)).trans ((w.unitsBegin_outside.mono (by simp [toBegin])).trans
      ((State.settle_outside _).mono (by simp [toBegin])))
  have hmode : Outside [.tracks, .box, .set, .sections, .levers, .holds, .bells, .flasher, .sounder, .choices, .emitted]
      ((s.advance tm).entered .running) w.unitsBegin.settle := by
    rw [← hunits]
    exact ((State.unitsStart_outside _).mono (by simp [startParts])).trans ((State.settle_outside _).mono (by simp))
  have hu' : (s.advance tm).intervalEnded .running = w.unitsBegin.settle.startedFirst.close := by
    rw [State.intervalEnded, hunits]
  have hclosed := (State.startedFirst_outside w.unitsBegin.settle).mono (ps := [.emitted, .outbox, .transmitter]) (by simp)
    |>.trans (State.close_outside _)
  refine ⟨_, exec_startIntervalEnd hb hm hi he (State.intervalEnds_running hg), hu, ?_, ?_, ?_⟩
  · rw [hu']; exact w.unitsBegin.settle_movesWithin.outside hclosed (by decide)
  · obtain ⟨h1, h2, h3, -⟩ := hmode .mode (by decide)
    obtain ⟨h1', h2', h3', -⟩ := hclosed .mode (by decide)
    rw [hu']
    exact ⟨h1'.trans h1, h2'.trans h2, h3'.trans h3⟩
  · rw [hu']
    exact State.startedFirst_announces hframe (by decide) (by rw [hmode.mode_eq (by decide)]; simp [State.entered])

/-! ### The levers after the event (R45) -/

section
variable (hu : w.unitsBegin.MovesWithin u) {n : Nat} (hn : n ∈ Tab.numbers 24)
include hu

theorem begun_lever_phase (hm : (w.lever n).phase.movable = false) : (u.lever n).phase = (w.lever n).phase := by
  have hphase : (w.unitsBegin.lever n).phase = (w.lever n).phase :=
    (w.unitsBegin_unlocks.phase n).trans (w.leversStart_phase n)
  rw [hu.fixed n (by rw [hphase]; exact hm), hphase]

include hn

theorem begun_lever_marks : (u.lever n).fresh = (w.leverStarted n).fresh ∧ (u.lever n).timer = (w.leverStarted n).timer ∧
    (u.lever n).faultMark = (w.leverStarted n).faultMark := by
  obtain ⟨hf, ht, hm⟩ := hu.marks n
  obtain ⟨hf', ht', hm'⟩ := w.unitsBegin_unlocks.marks n
  rw [State.leversStart_lever, if_pos hn] at hf' ht' hm'
  exact ⟨hf.trans hf', ht.trans ht', hm.trans hm'⟩

/-- A lever at rest in its position is left as the start made it. -/
theorem begun_lever_at_rest (hp : (w.lever n).phase = .normal ∨ (w.lever n).phase = .reverse) :
    u.lever n = w.leverStarted n := by
  have hstart : w.leversStart.lever n = w.leverStarted n := (w.leversStart_lever n).trans (if_pos hn)
  have hphase : (w.leverStarted n).phase = .normal ∨ (w.leverStarted n).phase = .reverse := hp
  have hbegin : w.unitsBegin.lever n = w.leverStarted n := by
    rw [w.unitsBegin_unlocks.eq_of_not_travel, hstart]
    rcases hphase with h | h <;> simp [hstart, h]
  rw [hu.fixed n, hbegin]
  rw [hbegin]
  rcases hphase with h | h <;> rw [h] <;> rfl

end

/-- No lever is FREE in the start interval (R19, R22). -/
theorem State.LocksSafe.not_free (h : s.LocksSafe) (hm : s.control.mode = .start) {n : Nat} (hn : n ∈ Tab.numbers 24) :
    (s.lever n).phase.isFree = false := by
  obtain ⟨hlock, hfree, -⟩ := h n hn
  by_contra hf
  have hrun := (hlock (hfree (by simpa using hf)).1).1
  rw [hm] at hrun; cases hrun

/-! ### The start-up holds where no track is effectively clear (R68) -/

theorem State.startUpHoldOf_occupied (h : ∀ t, s.clear t = false) (n : Nat) :
    s.startUpHoldOf n = (s.conf.holdDef n).bind fun d =>
      if s.standing n ≠ .normal then some (createdHold n d .active (s.standing n = .reverse))
      else if d.holding ≠ [] ∨ d.approach ≠ none then some (createdHold n d .irregular false) else none := by
  have hcond (d : HoldDef) : ((d.approach.any fun t => !s.clear t) || d.holding.any fun t => !s.clear t) = true ↔
      d.holding ≠ [] ∨ d.approach ≠ none := by
    cases d.approach <;> cases d.holding <;> simp [h]
  simp only [State.startUpHoldOf, hcond]

/-- A track that starts is not effectively clear (R13, R18). -/
theorem State.tracksStart_not_clear (h : ∀ t ∈ Tab.numbers 16, (s.track t).filter = .occupied) (t : Nat) :
    s.tracksStart.clear t = false := by
  have hfilter : (s.tracksStart.track t).filter ≠ .clear := by
    by_cases ht : t ∈ Tab.numbers 16
    · rw [State.tracksStart_track s ht, State.trackStarted]
      repeat' split
      all_goals simp [h t ht]
    · rw [Tab.mem_numbers] at ht
      have hdefault : s.tracksStart.track t = {} := Tab.get_out _ _ (by omega)
      rw [hdefault]; decide
  simp [State.clear, Track.effectivelyClear, hfilter]

end Sys2Proof.Machine

namespace Sys2Proof.Machine

variable {ps : List Part} {s t u v w : State} {tm e : Time}

/-! ### Where the units begin (R196) -/

/-- The part with the tracks begun, before the switching of the box and the other units. -/
def State.tracksBegun (tm : Time) (s : State) : State := ((s.advance tm).entered .running).tracksStart

theorem State.tracksBegun_outside (tm : Time) (s : State) : Outside [.now, .mode, .tracks] s (s.tracksBegun tm) :=
  ((State.advance_outside tm s).mono (by simp)).trans
    (Outside.trans (t := (s.advance tm).entered .running) (by simp [State.entered])
      ((State.tracksStart_outside _).mono (by simp)))

theorem State.tracksBegun_now (tm : Time) (s : State) : (s.tracksBegun tm).now = max s.now tm :=
  State.tracksStart_outside ((s.advance tm).entered .running) .now (by decide)

theorem State.tracksBegun_mode (tm : Time) (s : State) : (s.tracksBegun tm).control.mode = .running := by
  rw [State.tracksBegun, (State.tracksStart_outside _).mode_eq (by decide)]; rfl

theorem State.tracksBegun_lever (tm : Time) (s : State) (n : Nat) : (s.tracksBegun tm).lever n = s.lever n :=
  State.lever_of_outside (s.tracksBegun_outside tm) (by decide) n

/-- A lever as it starts, by the state before the event. -/
theorem State.tracksBegun_leverStarted (tm : Time) (s : State) (n : Nat) :
    (s.tracksBegun tm).leverStarted n = { s.lever n with
      fresh := !(s.leverInputs n).catchLifted
      timer := if (s.lever n).phase = .travel then .running (max s.now tm + 10000) else .stopped
      faultMark := (s.lever n).faultMark || decide ((s.lever n).phase = .fault) } := by
  have hin : (s.tracksBegun tm).leverInputs n = s.leverInputs n :=
    congrArg (fun i : Inputs => i.levers.get {} n) ((s.tracksBegun_outside tm) .inputs (by decide))
  rw [State.leverStarted, State.tracksBegun_lever, hin, State.tracksBegun_now]

/-- The hold that start-up names, by the state before the event. -/
theorem State.tracksBegun_startUpHoldOf (h : ∀ t ∈ Tab.numbers 16, (s.track t).filter = .occupied) (tm : Time) (n : Nat) :
    (s.tracksBegun tm).startUpHoldOf n = (s.conf.holdDef n).bind fun d =>
      if s.standing n ≠ .normal then some (createdHold n d .active (s.standing n = .reverse))
      else if d.holding ≠ [] ∨ d.approach ≠ none then some (createdHold n d .irregular false) else none := by
  have hstand : (s.tracksBegun tm).standing n = s.standing n :=
    congrArg (fun l : Lever => l.phase.standing) (s.tracksBegun_lever tm n)
  rw [State.startUpHoldOf_occupied (s := s.tracksBegun tm)
      (fun t => State.tracksStart_not_clear (s := (s.advance tm).entered .running) h t),
    (s.tracksBegun_outside tm).conf_eq (by decide), hstand]

/-- A box that was open begins in RUNNING. -/
theorem startIntervalEnd_opened (hb : s.between) (hm : s.control.mode = .start) (hi : s.control.interval = some e)
    (he : e ≤ max s.now tm) (hg : s.store.checkGood = true) (hbox : s.control.box = .opened) :
    ∃ u, exec (.startIntervalEnd tm) s = .next u ∧ Outside fromBegun (s.tracksBegun tm).unitsBegin u ∧
      (s.tracksBegun tm).unitsBegin.MovesWithin u ∧
      (u.control.mode = .running ∧ u.control.interval = none ∧ u.control.base = max s.now tm) ∧ s.announcesStart u := by
  have hbegin := s.tracksBegun_outside tm
  have hopen : (s.tracksBegun tm).control.box = .opened := (hbegin .box (by decide)).1.trans hbox
  exact startIntervalEnd_running hb hm hi he hg (State.switchingStarts_opened (s := s.tracksBegun tm) hopen)
    (hbegin.mono (by simp [toBegin]))

/-! ### A box that was switched out (R172) -/

theorem startIntervalEnd_staysOut (hb : s.between) (hm : s.control.mode = .start) (hi : s.control.interval = some e)
    (he : e ≤ max s.now tm) (hg : s.store.checkGood = true) (hbox : s.control.box = .switchedOut)
    (hr : s.conf.switchOut.may = true ∧ s.throughSections = s.pairAccepting) :
    ∃ u, exec (.startIntervalEnd tm) s = .next u ∧ Outside fromBegun (s.tracksBegun tm).staysOut.unitsBegin u ∧
      u.control.mode = .running ∧ s.announcesStart u := by
  have hbegin := s.tracksBegun_outside tm
  have hout : (s.tracksBegun tm).control.box = .switchedOut := (hbegin .box (by decide)).1.trans hbox
  have hstay := State.switchingStarts_stays hout (by
    rw [State.throughSections_eq hbegin (by decide), State.pairAccepting_eq hbegin (by decide), hbegin.conf_eq (by decide)]
    exact hr)
  obtain ⟨u, hexec, hu, -, ⟨hmode, -⟩, hannounce⟩ := startIntervalEnd_running hb hm hi he hg hstay
    ((hbegin.mono (by simp [toBegin])).trans (by simp [State.staysOut, toBegin]))
  exact ⟨u, hexec, hu, hmode, hannounce⟩

theorem startIntervalEnd_comesBack (hb : s.between) (hm : s.control.mode = .start) (hi : s.control.interval = some e)
    (he : e ≤ max s.now tm) (hg : s.store.checkGood = true) (hbox : s.control.box = .switchedOut)
    (hr : s.conf.switchOut.may = false ∨ s.throughSections ≠ s.pairAccepting) :
    ∃ u x, exec (.startIntervalEnd tm) s = .next u ∧
      Outside fromBegun ((s.tracksBegun tm).comesBack.emit .modeSwitchedIn 0 x).unitsBegin u ∧
      u.control.mode = .running ∧ s.announcesStart u := by
  have hbegin := s.tracksBegun_outside tm
  have hout : (s.tracksBegun tm).control.box = .switchedOut := (hbegin .box (by decide)).1.trans hbox
  obtain ⟨x, hback⟩ := State.switchingStarts_returns hout (by
    rw [State.throughSections_eq hbegin (by decide), State.pairAccepting_eq hbegin (by decide), hbegin.conf_eq (by decide)]
    exact hr)
  obtain ⟨u, hexec, hu, -, ⟨hmode, -⟩, hannounce⟩ := startIntervalEnd_running hb hm hi he hg hback
    ((hbegin.mono (by simp [toBegin])).trans (((State.comesBack_outside _).mono (by simp [toBegin])).trans
      ((State.emit_outside _ _ _ _).mono (by simp [toBegin]))))
  exact ⟨u, x, hexec, hu, hmode, hannounce⟩

/-- What the whole event changes once the units begin. -/
theorem begun_outside (hu : Outside fromBegun w.unitsBegin u) :
    Outside [.levers, .holds, .sections, .bells, .flasher, .sounder, .choices, .emitted, .outbox, .transmitter] w u :=
  (w.unitsBegin_outside.mono (by simp)).trans (hu.mono (by simp [fromBegun]))

/-- A section that has come out of THROUGH begins so, whatever its role (R74). -/
theorem unitsBegin_out_of_through {x : Nat} {a : Accepting} (hx : x ∈ Tab.numbers 6)
    (hu : Outside fromBegun w.unitsBegin u) (ha : (w.sec x).acc = { a.enterTol false with assumed := true }) :
    (u.sec x).acc.state = .tol ∧ (u.sec x).acc.assumed = true ∧ (u.sec x).acc.seen = false ∧
      (u.sec x).acc.proof = false := by
  rw [State.sec_of_outside hu (by decide), State.unitsBegin_sec w hx, State.sectionStarted]
  cases (w.conf.sec x).role <;> simp [ha, Accepting.enterTol, Accepting.compare]

/-- Where the record in force allows it the box stays switched out, with its relay on. -/
theorem startIntervalEnd_stays (hb : s.between) (hm : s.control.mode = .start) (hi : s.control.interval = some e)
    (he : e ≤ max s.now tm) (hg : s.store.checkGood = true) (hbox : s.control.box = .switchedOut)
    (hmay : s.conf.switchOut.may = true) (hthrough : s.throughSections = s.pairAccepting) :
    ∃ u, exec (.startIntervalEnd tm) s = .next u ∧ u.control.mode = .running ∧ u.control.box = .switchedOut ∧
      u.control.relayOn = true ∧ u.set = s.set ∧ s.linesBegin u (max s.now tm) ∧ s.announcesStart u ∧
      ∀ x ∈ s.throughSections, (u.sec x).acc = { (s.sec x).acc with forced := false } := by
  obtain ⟨u, hexec, hu, hmode, hannounce⟩ := startIntervalEnd_staysOut hb hm hi he hg hbox ⟨hmay, hthrough⟩
  have hbegin := s.tracksBegun_outside tm
  have hnow := s.tracksBegun_now tm
  generalize s.tracksBegun tm = t at hu hbegin hnow
  have hstay : Outside [.box] t t.staysOut := by simp [State.staysOut]
  have hend := begun_outside hu
  obtain ⟨hbox', hrelay', -⟩ := hend .box (by decide)
  have hsec (x : Nat) : t.staysOut.sec x = s.sec x := State.sec_of_outside hbegin (by decide) x
  refine ⟨u, hexec, hmode, hbox'.trans ((hbegin .box (by decide)).1.trans hbox), hrelay',
    (hend .set (by decide)).trans (hbegin .set (by decide)), ?_, hannounce, fun x hx => ?_⟩
  · exact unitsBegin_linesBegin ((hbegin.mono (by simp [toBegin])).trans (hstay.mono (by simp [toBegin]))) hnow
      (fun x => by rw [hsec]) hu
  · have hpair : x ∈ s.pairAccepting := hthrough ▸ hx
    obtain ⟨hx6, hstate⟩ := List.mem_filter.1 hx
    have hrole : (s.conf.sec x).role = .accepting := by
      have := (List.mem_filter.1 hpair).2
      rw [Bool.and_eq_true, decide_eq_true_eq] at this
      exact this.1
    rw [unitsBegin_accepting hx6 hu (by rw [hstay.conf_eq (by decide), hbegin.conf_eq (by decide)]; exact hrole), hsec,
      if_pos (by simpa using hstate)]

/-- Else it comes back OPEN, and its sections leave THROUGH. -/
theorem startIntervalEnd_returns (hb : s.between) (hm : s.control.mode = .start) (hi : s.control.interval = some e)
    (he : e ≤ max s.now tm) (hg : s.store.checkGood = true) (hbox : s.control.box = .switchedOut)
    (hrelay : s.control.relayOn = false) (hr : s.conf.switchOut.may = false ∨ s.throughSections ≠ s.pairAccepting) :
    ∃ u, exec (.startIntervalEnd tm) s = .next u ∧ u.control.mode = .running ∧ u.control.box = .opened ∧
      u.control.relayOn = false ∧ u.set = .a ∧ s.linesBegin u (max s.now tm) ∧ s.announcesStart u ∧
      ∀ x ∈ s.throughSections, (u.sec x).acc.state = .tol ∧ (u.sec x).acc.assumed = true ∧
        (u.sec x).acc.seen = false ∧ (u.sec x).acc.proof = false := by
  obtain ⟨u, x, hexec, hu, hmode, hannounce⟩ := startIntervalEnd_comesBack hb hm hi he hg hbox hr
  have hbegin := s.tracksBegun_outside tm
  have hnow := s.tracksBegun_now tm
  generalize s.tracksBegun tm = t at hu hbegin hnow
  have hback : Outside [.box, .set, .sections, .emitted] t (t.comesBack.emit .modeSwitchedIn 0 x) :=
    t.comesBack_outside.trans ((State.emit_outside _ _ _ _).mono (by simp))
  have hend := begun_outside hu
  obtain ⟨hopen, hoff, hset⟩ := t.comesBack_control
  obtain ⟨hbox', hrelay', -⟩ := hend .box (by decide)
  refine ⟨u, hexec, hmode, hbox'.trans hopen, hrelay'.trans (hoff.trans ((hbegin .box (by decide)).2.1.trans hrelay)),
    (hend .set (by decide)).trans hset, ?_, hannounce, fun y hy => ?_⟩
  · exact unitsBegin_linesBegin ((hbegin.mono (by simp [toBegin])).trans (hback.mono (by simp [toBegin])))
      ((hback .now (by decide)).trans hnow)
      (fun y => (t.comesBack_off y).trans (congrArg Sec.off (State.sec_of_outside hbegin (by decide) y))) hu
  · exact unitsBegin_out_of_through (List.mem_filter.1 hy).1 hu
      (State.comesBack_acc (State.throughSections_eq hbegin (by decide) ▸ hy))

/-! ### A bad check word (R196) -/

/-- With no lever FREE and outside RUNNING the examination finds nothing to do. -/
theorem State.settle_of_not_running (hm : s.control.mode ≠ .running)
    (hfree : ∀ n ∈ Tab.numbers 24, (s.lever n).phase.isFree = false) : s.settle = s.removalsLast := by
  refine State.settle_of_idle ?_ ?_
  · refine List.filterMap_eq_nil_iff.2 fun n hn => ?_
    rw [if_neg (by simp [hfree n hn])]
  · refine List.filter_eq_nil_iff.2 fun n _ => ?_
    simp [State.grantFail, State.keepFail, hm]

theorem State.panelStarts_not_running (hm : s.control.mode ≠ .running) : Outside [.sounder] s s.panelStarts := by
  unfold State.panelStarts; dsimp only
  rw [if_neg hm]
  exact State.recomputeSounder_outside true s

/-- The levers and the sounder as they begin where the check word is bad. -/
def State.invalidBegun (tm : Time) (s : State) : State :=
  ((s.advance tm).entered (.held .invalid)).leversStart.panelStarts

theorem State.invalidBegun_panel (tm : Time) (s : State) :
    Outside [.sounder] ((s.advance tm).entered (.held .invalid)).leversStart (s.invalidBegun tm) := by
  refine State.panelStarts_not_running ?_
  rw [(State.leversStart_outside _).mode_eq (by decide)]; simp [State.entered]

theorem State.invalidBegun_outside (tm : Time) (s : State) : Outside [.now, .mode, .levers, .sounder] s (s.invalidBegun tm) :=
  ((State.advance_outside tm s).mono (by simp)).trans
    (Outside.trans (t := (s.advance tm).entered (.held .invalid)) (by simp [State.entered])
      (((State.leversStart_outside _).mono (by simp)).trans ((s.invalidBegun_panel tm).mono (by simp))))

theorem State.invalidBegun_mode (tm : Time) (s : State) :
    (s.invalidBegun tm).control.mode = .held .invalid ∧ (s.invalidBegun tm).control.interval = none := by
  obtain ⟨hmode, hinterval, -⟩ := (((State.leversStart_outside _).mono (ps := [.levers, .sounder]) (by simp)).trans
    ((s.invalidBegun_panel tm).mono (by simp))) .mode (by decide)
  exact ⟨hmode, hinterval⟩

/-- A lever keeps its phase and its lock. -/
theorem State.invalidBegun_lever (tm : Time) (s : State) (n : Nat) :
    ((s.invalidBegun tm).lever n).phase = (s.lever n).phase ∧
      ((s.invalidBegun tm).lever n).solenoid = (s.lever n).solenoid := by
  rw [State.lever_of_outside (s.invalidBegun_panel tm) (by decide), State.leversStart_lever]
  split <;> exact ⟨rfl, rfl⟩

theorem exec_startIntervalEnd_invalid (hb : s.between) (hm : s.control.mode = .start) (hi : s.control.interval = some e)
    (he : e ≤ max s.now tm) (hg : s.store.checkGood = false) (hlocks : s.LocksSafe) :
    exec (.startIntervalEnd tm) s = .next (s.invalidBegun tm).removalsLast.startedFirst.close := by
  have hends : (s.advance tm).intervalEnds = _ := State.intervalEnds_invalid hg
  have hsettle : (s.invalidBegun tm).settle = (s.invalidBegun tm).removalsLast := by
    refine State.settle_of_not_running ?_ fun n hn => ?_
    · rw [(s.invalidBegun_mode tm).1]; simp
    · rw [(s.invalidBegun_lever tm n).1]; exact hlocks.not_free hm hn
  rw [exec_startIntervalEnd hb hm hi he hends, State.intervalEnded, State.unitsStart_invalid rfl, ← hsettle]
  rfl

/-- A bad check word leads to HELD, where the levers and the sounder alone begin. -/
theorem startIntervalEnd_invalid (hb : s.between) (hm : s.control.mode = .start) (hi : s.control.interval = some e)
    (he : e ≤ max s.now tm) (hg : s.store.checkGood = false) (hlocks : s.LocksSafe) :
    ∃ u, exec (.startIntervalEnd tm) s = .next u ∧ u.control.mode = .held .invalid ∧ u.control.interval = none ∧
      (∀ n ∈ Tab.numbers 24, (u.lever n).solenoid = false ∧ (u.lever n).phase = (s.lever n).phase) ∧
      s.announcesStart u ∧ ChangesOnly [.levers, .sounder, .mode] s u := by
  have hbegin := s.invalidBegun_outside tm
  have hend : Outside [.emitted, .outbox, .transmitter] (s.invalidBegun tm)
      (s.invalidBegun tm).removalsLast.startedFirst.close :=
    ((State.removalsLast_outside _).mono (by simp)).trans (((State.startedFirst_outside _).mono (by simp)).trans
      (State.close_outside _))
  obtain ⟨hmode, hinterval⟩ := s.invalidBegun_mode tm
  obtain ⟨hmode', hinterval', -⟩ := hend .mode (by decide)
  refine ⟨_, exec_startIntervalEnd_invalid hb hm hi he hg hlocks, hmode'.trans hmode, hinterval'.trans hinterval,
    fun n hn => ?_, ?_, (hbegin.mono (by simp [closing])).trans (hend.mono (by simp [closing]))⟩
  · rw [State.lever_of_outside hend (by decide), (s.invalidBegun_lever tm n).1, (s.invalidBegun_lever tm n).2]
    refine ⟨?_, rfl⟩
    by_contra hlock
    have hrun := ((hlocks n hn).1 (by simpa using hlock)).1
    rw [hm] at hrun; cases hrun
  · refine State.startedFirst_announces ((hbegin.mono (ps := [.now, .mode, .levers, .sounder, .emitted]) (by simp)).trans
      ((State.removalsLast_outside _).mono (by simp))) (by decide) ?_
    rw [(State.removalsLast_outside _).mode_eq (by decide), hmode]; simp

/-- Settles O18: a box that was open, one that was switched out, and a part whose check word is bad. -/
theorem startIntervalEnds : Obligations.StartIntervalEnds := by
  refine ⟨fun s tm e hb hm hi he hg hbox hholds hlocks hocc => ?_, fun s tm e hb hm hi he hg hbox hrelay => ⟨?_, ?_⟩,
    fun s tm e hb hm hi he hg hlocks => ?_⟩
  · obtain ⟨u, hexec, hu, hmoves, ⟨hmode, hinterval, hbase⟩, hannounce⟩ := startIntervalEnd_opened hb hm hi he hg hbox
    have hbegin := s.tracksBegun_outside tm
    have hunits := (s.tracksBegun tm).unitsBegin_outside
    have hall : Outside [.now, .mode, .tracks, .levers, .holds, .sections, .bells, .flasher, .sounder, .choices, .emitted,
        .outbox, .transmitter] s u :=
      (hbegin.mono (by simp)).trans ((hunits.mono (by simp)).trans (hu.mono (by simp [fromBegun])))
    have hmarks {n : Nat} (hn : n ∈ Tab.numbers 24) := begun_lever_marks hmoves hn
    simp only [State.tracksBegun_leverStarted] at hmarks
    have hbound : (s.tracksBegun tm).unitsBegin.HoldsBound :=
      State.unitsBegin_holdsBound ((hbegin .holds (by decide)).trans hholds) fun n hn => by
        rw [State.tracksBegun_lever]; exact hlocks.not_free hm hn
    have hhold {n : Nat} (hn : n ∈ Tab.numbers 24) : u.hold? n = (s.tracksBegun tm).startUpHoldOf n :=
      (hmoves.holds hbound n).trans (State.unitsBegin_hold? ((hbegin .holds (by decide)).trans hholds) hn)
    simp only [State.tracksBegun_startUpHoldOf hocc] at hhold
    refine ⟨u, hexec, hmode, hinterval, hbase, (hall .box (by decide)).1.trans hbox, fun t ht hfit => ?_,
      fun n hn hp => ?_, fun n hn => (hmarks hn).1, fun n hn hp => ⟨?_, ?_⟩, fun n hn hp => ?_, fun n hn => ?_,
      fun n hn d hd => ⟨fun hs => ?_, fun hs hd' => ?_⟩, fun x hx hrole hx' => ?_, ?_, ?_, ?_, hannounce⟩
    · have htrack : u.track t = (s.tracksBegun tm).track t := congrArg (fun l : Tab 16 Track => l.get {} t)
        ((hu.tracks_eq (by decide)).trans (hunits.tracks_eq (by decide)))
      rw [htrack, State.tracksBegun, State.tracksStart_track _ ht]
      exact if_pos hfit
    · rw [begun_lever_at_rest hmoves hn (by rwa [State.tracksBegun_lever]), State.tracksBegun_leverStarted]
      rcases hp with hp | hp <;> simp [hp]
    · rw [begun_lever_phase hmoves (by rw [State.tracksBegun_lever, hp]; rfl), State.tracksBegun_lever, hp]
    · rw [(hmarks hn).2.1, if_pos hp]
    · rw [(hmarks hn).2.2]; simp [hp]
    · rw [hhold hn]
      cases s.conf.holdDef n with
      | none => simp
      | some d => by_cases hs : s.standing n = .normal <;> simp [hs]
    · rw [hhold hn, hd, Option.bind_some, if_pos hs]; rfl
    · rw [hhold hn, hd, Option.bind_some, if_neg (by simp [hs]), if_pos hd']; rfl
    · have hsec := State.sec_of_outside hbegin (by decide) x
      rw [unitsBegin_accepting hx hu (by rw [hbegin.conf_eq (by decide)]; exact hrole), hsec, if_neg hx']
      rfl
    · exact unitsBegin_linesBegin (hbegin.mono (by simp [toBegin])) (s.tracksBegun_now tm)
        (fun x => by rw [State.sec_of_outside hbegin (by decide)]) hu
    · rw [show _ = _ from hu .flasher (by decide), State.unitsBegin_flasher (s.tracksBegun_mode tm), State.tracksBegun_now]
    · exact hall .pulses (by decide)
  · exact fun hmay hthrough => startIntervalEnd_stays hb hm hi he hg hbox hmay hthrough
  · exact fun hr => startIntervalEnd_returns hb hm hi he hg hbox hrelay hr
  · exact startIntervalEnd_invalid hb hm hi he hg hlocks

end Sys2Proof.Machine

namespace Sys2Proof.Machine

/-! ### The part right after reset (R195) -/

/-- An empty alert list asks for silence, which the silent sounder plays (R177, R179). -/
theorem State.silent_of_no_alert {s : State} (ha : s.panel.alerts = []) (hs : s.panel.sounder = {}) :
    s.AlertsKept ∧ s.SounderKept := by
  unfold State.AlertsKept State.SounderKept
  rw [ha, hs]
  refine ⟨by simp, .inr fun p h => ?_, rfl, rfl⟩
  obtain ⟨-, ⟨a, hmem, -⟩, -⟩ := h
  simp [ha] at hmem

/-- The levers at reset stand in TRAVEL with no lock, no grant record and no travel (R44). -/
theorem reset_locksSafe : State.reset.LocksSafe := fun n _ => by
  simp [State.reset_lever, LeverPhase.isFree]

/-- The box at reset is open, and no line sends, owes or awaits a code (R164). -/
theorem reset_boxKept : State.reset.BoxKept := by
  refine ⟨rfl, by decide, by decide, fun _ => rfl, fun h => ?_, by decide, fun l _ _ => by simp [State.reset_bell]⟩
  simp [State.throughSections, State.reset_sec] at h

/-- The bells at reset: the factory beats fit, and every recognizer is idle (R95, R99). -/
theorem reset_bells : State.reset.RecognizersKept ∧ State.reset.BellsQuiet := by
  have hfit : BeatsFit {} := by unfold BeatsFit; decide
  refine ⟨⟨hfit, hfit, fun l _ => by simp [State.reset_bell, Recognizer.Kept]⟩, fun _ l _ ear => ?_⟩
  cases ear <;> simp [State.recognizer, State.reset_bell, Bell.recognizer]

/-- The tracks at reset are OCCUPIED with their timers stopped and no mark (R16). -/
theorem reset_tracksKept : State.reset.TracksKept :=
  State.tracksKept_of_reset rfl fun t _ => by simp [State.reset_track]

/-- Settles O4: every unit stands in its power-on state, and the lists are empty. -/
theorem resetMeetsTheInvariants : Obligations.ResetMeetsTheInvariants := by
  obtain ⟨halerts, hsounder⟩ := State.silent_of_no_alert (s := State.reset) rfl rfl
  obtain ⟨hrecognizers, hquiet⟩ := reset_bells
  refine ⟨reset_locksSafe, ⟨by decide, by simp [State.reset], by simp [State.reset], fun l _ => ?_⟩, fun r _ => ?_,
    ⟨.nil, nofun, fun _ => rfl⟩, reset_boxKept, fun x _ _ h => ?_, fun _ => ⟨fun n hn => ?_, fun t ht => ?_⟩,
    hrecognizers, hquiet, halerts, hsounder, by unfold State.LinkKept; decide, reset_tracksKept⟩
  · simp [State.owedOffer, State.outstandingOffer, State.reset, Tab.get_rep]
  · simp [State.record, State.reset, Tab.get_rep]
  · simp [State.reset_sec] at h
  · simp [Store.counter, State.reset, Tab.get_rep, PCounter.value]
  · simp [Store.counter, State.reset, Tab.get_rep, PCounter.value]
end Sys2Proof.Machine

namespace Sys2Proof.Machine

variable {ps : List Part} {s t u v : State}

/-! ### What a command does, event by event -/

/-- What an event changes that reaches the panel timers, the frame gap and the box clock alone. -/
def asideParts : List Part := [.sounder, .lampTest, .pulses, .flasher, .assembler, .linkCounts, .clock]

/-- What a command does to a powered part whose terminals have followed it, before its notices are placed. -/
inductive EventOf : (State → State) → Prop
  | aside {f : State → State} (h : ∀ s, Outside asideParts s (f s)) : EventOf f
  | relayDrops (t : Nat) : EventOf (State.relayDrops t)
  | relayPicksUp (t : Nat) : EventOf (State.relayPicksUp t)
  | pickUpExpires (t : Nat) : EventOf (State.pickUpExpires t)
  | graceExpires (r : Nat) : EventOf (State.graceExpires r)
  | catchLifts (n : Nat) : EventOf (State.catchLifts n)
  | catchLowers (n : Nat) : EventOf (State.catchLowers n)
  | detectorOpens (n : Nat) : EventOf (State.detectorOpens n)
  | detectorMakes (n : Nat) : EventOf (State.detectorMakes n)
  | travelExpires (n : Nat) : EventOf (State.travelExpires n)
  | countdownExpires (n : Nat) : EventOf (State.countdownExpires n)
  | readyLapses (n : Nat) : EventOf (State.readyLapses n)
  | switchMoves (x : Nat) : EventOf (State.switchMoves x)
  | blockLineChanged (x : Nat) : EventOf (State.blockLineChanged x)
  | stabilityExpires (x : Nat) : EventOf (State.stabilityExpires x)
  | inputOn (l : Nat) (ear : Ear) : EventOf (State.inputOn l ear)
  | inputOff (l : Nat) (ear : Ear) : EventOf (State.inputOff l ear)
  | testExpires (l : Nat) (ear : Ear) : EventOf (State.testExpires l ear)
  | relayOff (l : Nat) : EventOf (State.relayOff l)
  | endGapExpires (l : Nat) (ear : Ear) : EventOf (State.endGapExpires l ear)
  | strokeStarts (l : Nat) : EventOf (State.strokeStarts l)
  | strokeEnds (l : Nat) : EventOf (State.strokeEnds l)
  | plungerPressed (l : Nat) : EventOf (State.plungerPressed l)
  | plungerReleased (l : Nat) : EventOf (State.plungerReleased l)
  | plungerExpires (l : Nat) : EventOf (State.plungerExpires l)
  | deadlineExpires (l : Nat) : EventOf (State.deadlineExpires l)
  | reminderExpires (l : Nat) : EventOf (State.reminderExpires l)
  | throughExpires : EventOf State.throughExpires
  | intervalEnds : EventOf fun s => if s.intervalOver then s.intervalEnds else s
  | resetLineReset : EventOf State.resetLineReset
  | resetLineReleased : EventOf State.resetLineReleased
  | restartReset : EventOf State.restartReset
  | storeWriteBegins : EventOf State.storeWriteBegins
  | storeWriteEnds : EventOf State.storeWriteEnds
  | submit (tag : Byte) (r : Request) : EventOf (State.submit tag r)
  | byteArrives (b : Byte) (framingError : Bool) : EventOf (State.byteArrives b framingError)
  | frameGoes : EventOf State.frameGoes

/-- Steps keep `Q`, from states that meet `P`: time and the terminals keep `P`, every event of a powered part leads from
`P` to `Q`, the close of an event keeps `Q`, and so does the supply. -/
structure Keeps (P Q : State → Prop) : Prop where
  moves : ∀ (s : State) (tm : Time) (i : Inputs) (l : List Instr), P s →
    P (State.putInputs i (State.advance tm { s with pending := l }))
  stays : ∀ s : State, P s → Q s
  event : ∀ f, EventOf f → ∀ s : State, P s → Q (f s)
  close : ∀ s : State, Q s → Q s.close
  powersUp : ∀ s : State, P s → Q s.powerUp
  restores : ∀ s : State, P s → Q (s.powerLost none).powerUp
  powerLost : ∀ (cut : Option CounterCut) (s : State), P s → Q (s.powerLost cut)

variable {P Q : State → Prop}

theorem Keeps.of_event (h : Keeps P Q) (tm : Time) {f : State → State} (hf : EventOf f) (l : List Instr) (hs : P s) :
    Q (State.event tm f { s with pending := l }) := by
  have hmoved := h.moves s tm s.inputs l hs
  unfold State.event; dsimp only; split
  · exact h.close _ (h.event f hf _ hmoved)
  · exact h.stays _ hmoved

theorem Keeps.of_terminal (h : Keeps P Q) (tm : Time) (i : Inputs → Inputs) {f : State → State} (hf : EventOf f)
    (l : List Instr) (hs : P s) : Q (State.terminal tm i f { s with pending := l }) := by
  unfold State.terminal; dsimp only; split
  · exact h.stays _ (h.moves s tm s.inputs l hs)
  · split
    · exact h.close _ (h.event f hf _ (h.moves s tm (i s.inputs) l hs))
    · exact h.stays _ (h.moves s tm (i s.inputs) l hs)

/-- Every command leads from `P` to `Q`. -/
theorem Keeps.exec (h : Keeps P Q) (c : Instr) (l : List Instr) (hs : P s) :
    ∃ u, exec c { s with pending := l } = .next u ∧ Q u := by
  cases c with
  | powerOn tm =>
    refine ⟨_, rfl, ?_⟩
    split
    · exact h.restores _ (h.moves s tm s.inputs l hs)
    · exact h.powersUp _ (h.moves s tm s.inputs l hs)
  | lossOfPower tm cut =>
    refine ⟨_, rfl, ?_⟩
    split
    · exact h.powerLost cut _ (h.moves s tm s.inputs l hs)
    · exact h.stays _ (h.moves s tm s.inputs l hs)
  | trackRelayDrop tm t => exact ⟨_, rfl, h.of_terminal tm _ (.relayDrops t) l hs⟩
  | trackRelayPickUp tm t => exact ⟨_, rfl, h.of_terminal tm _ (.relayPicksUp t) l hs⟩
  | pickUpTimerExpiry tm t => exact ⟨_, rfl, h.of_event tm (.pickUpExpires t) l hs⟩
  | headGraceExpiry tm r => exact ⟨_, rfl, h.of_event tm (.graceExpires r) l hs⟩
  | catchLift tm n => exact ⟨_, rfl, h.of_terminal tm _ (.catchLifts n) l hs⟩
  | catchLower tm n => exact ⟨_, rfl, h.of_terminal tm _ (.catchLowers n) l hs⟩
  | detectorOpen tm n side => exact ⟨_, rfl, h.of_terminal tm _ (.detectorOpens n) l hs⟩
  | detectorMake tm n side => exact ⟨_, rfl, h.of_terminal tm _ (.detectorMakes n) l hs⟩
  | travelTimerExpiry tm n => exact ⟨_, rfl, h.of_event tm (.travelExpires n) l hs⟩
  | timeReleaseTimerExpiry tm n => exact ⟨_, rfl, h.of_event tm (.countdownExpires n) l hs⟩
  | readyWindowLapse tm n => exact ⟨_, rfl, h.of_event tm (.readyLapses n) l hs⟩
  | instrumentSwitchMove tm x k => exact ⟨_, rfl, h.of_terminal tm _ (.switchMoves x) l hs⟩
  | blockLineChange tm x k => exact ⟨_, rfl, h.of_terminal tm _ (.blockLineChanged x) l hs⟩
  | stabilityTimerExpiry tm x => exact ⟨_, rfl, h.of_event tm (.stabilityExpires x) l hs⟩
  | bellInputOn tm k ear => exact ⟨_, rfl, h.of_terminal tm _ (.inputOn k ear) l hs⟩
  | bellInputOff tm k ear => exact ⟨_, rfl, h.of_terminal tm _ (.inputOff k ear) l hs⟩
  | strokeTestExpiry tm k ear => exact ⟨_, rfl, h.of_event tm (.testExpires k ear) l hs⟩
  | relayOutputOff tm k => exact ⟨_, rfl, h.of_event tm (.relayOff k) l hs⟩
  | endGapExpiry tm k ear => exact ⟨_, rfl, h.of_event tm (.endGapExpires k ear) l hs⟩
  | sendStrokeStart tm k => exact ⟨_, rfl, h.of_event tm (.strokeStarts k) l hs⟩
  | sendStrokeEnd tm k => exact ⟨_, rfl, h.of_event tm (.strokeEnds k) l hs⟩
  | plungerPress tm k => exact ⟨_, rfl, h.of_event tm (.plungerPressed k) l hs⟩
  | plungerRelease tm k => exact ⟨_, rfl, h.of_event tm (.plungerReleased k) l hs⟩
  | plungerOutputTimerExpiry tm k => exact ⟨_, rfl, h.of_event tm (.plungerExpires k) l hs⟩
  | repetitionDeadlineExpiry tm k => exact ⟨_, rfl, h.of_event tm (.deadlineExpires k) l hs⟩
  | owedReminderExpiry tm k => exact ⟨_, rfl, h.of_event tm (.reminderExpires k) l hs⟩
  | pendingThroughCodeExpiry tm => exact ⟨_, rfl, h.of_event tm .throughExpires l hs⟩
  | startIntervalEnd tm => exact ⟨_, rfl, h.of_event tm .intervalEnds l hs⟩
  | resetLineLow tm => exact ⟨_, rfl, h.of_terminal tm _ .resetLineReset l hs⟩
  | resetLineRelease tm => exact ⟨_, rfl, h.of_terminal tm _ .resetLineReleased l hs⟩
  | restartReset tm => exact ⟨_, rfl, h.of_event tm .restartReset l hs⟩
  | storeWrite tm => exact ⟨_, rfl, h.of_event tm .storeWriteBegins l hs⟩
  | storeWriteCompleted tm => exact ⟨_, rfl, h.of_event tm .storeWriteEnds l hs⟩
  | byteReceived tm b e => exact ⟨_, rfl, h.of_event tm (.byteArrives b e) l hs⟩
  | frameSent tm => exact ⟨_, rfl, h.of_event tm .frameGoes l hs⟩
  | technicianKeyChange tm on => exact ⟨_, rfl, h.of_terminal tm _ (.aside fun s => by simp) l hs⟩
  | clockSecond | flasherHalf | pulseTimerExpiry | lampTestTimerExpiry | sounderPatternTimer | frameGapTimeout =>
    exact ⟨_, rfl, h.of_event _ (.aside fun s => by simp [asideParts]) l hs⟩
  | _ => exact ⟨_, rfl, h.of_event _ (.submit _ _) l hs⟩

/-- A step idles, or takes the command at the front of the queue. -/
theorem Keeps.step (h : Keeps P Q) (hs : P s) (hu : Machine.step s = .next u) : Q u := by
  unfold Machine.step at hu
  split at hu
  · obtain rfl := Host.Outcome.next.inj hu
    exact h.stays _ hs
  · next c rest _ =>
    obtain ⟨v, hv, hq⟩ := h.exec c rest hs
    obtain rfl : v = u := Host.Outcome.next.inj (hv.symm.trans hu)
    exact hq

/-! ### The ways of a request (R184 to R187) -/

/-- The arrivals of requests keep `Q`, from states that meet `P`, where the link may change freely and every request that
the part takes leads from `P` to `Q`. -/
structure Serves (P Q : State → Prop) : Prop where
  weaker : ∀ s : State, P s → Q s
  link : ∀ (s : State) (k : Link), P s → P (s.putLink k)
  reply : ∀ (s : State) (k : Link), Q s → Q (s.putLink k)
  own : ∀ (r : Request) (s : State), P s → Q (s.own r).2.2

theorem Serves.takeNext (h : Serves P Q) (hs : P s) : Q s.takeNext := by
  have hserve (r : Request) (v : State) (hv : P v) : Q (v.serve r).2.2 := by
    unfold State.serve; split
    · exact h.weaker _ hv
    · exact h.own r v hv
  unfold State.takeNext; dsimp only
  repeat' split
  · exact h.weaker _ hs
  · exact h.weaker _ hs
  · exact h.reply _ _ (hserve _ _ (h.link _ _ hs))

theorem Serves.submit (h : Serves P Q) (tag : Byte) (r : Request) (hs : P s) : Q (s.submit tag r) := by
  unfold State.submit State.enqueue; split
  · exact h.weaker _ hs
  · refine h.takeNext ?_
    split <;> exact h.link _ _ hs

theorem Serves.byteArrives (h : Serves P Q) (b : Byte) (e : Bool) (hs : P s) : Q (s.byteArrives b e) := by
  have hlink (k : Link) : Q (s.putLink k) := h.weaker _ (h.link _ k hs)
  have ends : Q (s.frameEnds b) := by
    unfold State.frameEnds; dsimp only
    repeat' split
    case h_1.isTrue => exact h.submit _ _ (h.link _ _ hs)
    all_goals exact hlink _
  unfold State.byteArrives State.assemble State.abandonFrame; dsimp only
  repeat' split
  case h_6.isFalse => exact ends
  case h_1.isFalse | isTrue => exact h.weaker _ hs
  case isTrue => exact h.reply _ _ (hlink _)
  all_goals exact hlink _

theorem Serves.frameGoes (h : Serves P Q) (hs : P s) : Q s.frameGoes := by
  unfold State.frameGoes; split
  · exact h.weaker _ hs
  · exact h.takeNext (h.link _ _ hs)
  · exact h.weaker _ (h.link _ _ hs)

end Sys2Proof.Machine

namespace Sys2Proof.Machine

variable {ps : List Part} {s t u v : State}

/-! ### Holds come with an arrival at REVERSE or a start alone (R50, R68) -/

/-- From `s` to `u` no signal gets a hold that had none. -/
def State.NoNewHold (s u : State) : Prop := u.holds.map (·.signal) ⊆ s.holds.map (·.signal)

theorem State.NoNewHold.refl (s : State) : s.NoNewHold s := List.Subset.refl _

theorem State.NoNewHold.trans (h : s.NoNewHold t) (k : t.NoNewHold u) : s.NoNewHold u := List.Subset.trans k h

theorem State.NoNewHold.outside (k : Outside ps t u) (hp : .holds ∉ ps) (h : s.NoNewHold t) : s.NoNewHold u := by
  unfold State.NoNewHold
  rw [show u.holds = t.holds from k .holds hp]
  exact h

theorem State.NoNewHold.foldl {α : Type} {f : State → α → State} (hf : ∀ v a, s.NoNewHold v → s.NoNewHold (f v a))
    {l : List α} (h : s.NoNewHold t) : s.NoNewHold (l.foldl f t) := by
  induction l generalizing t with
  | nil => exact h
  | cons a l ih => exact ih (hf t a h)

@[simp] theorem signals_replaceHold (h : Hold) (l : List Hold) :
    (replaceHold h l).map (·.signal) = l.map (·.signal) := by
  rw [replaceHold, List.map_map]
  refine List.map_congr_left fun k _ => ?_
  rw [Function.comp_apply]
  split
  · next e => exact (beq_iff_eq.1 e).symm
  · rfl

theorem State.NoNewHold.putHold (k : Hold) (h : s.NoNewHold t) : s.NoNewHold (t.putHold k) := by
  unfold State.NoNewHold State.putHold
  rw [State.putHolds_holds, signals_replaceHold]
  exact h

theorem State.NoNewHold.emit (e : NoticeEvent) (o : Nat) (x : List Byte) (h : s.NoNewHold t) :
    s.NoNewHold (t.emit e o x) := h

theorem State.NoNewHold.removeHold (n : Nat) (c : HoldCause) (h : s.NoNewHold t) : s.NoNewHold (t.removeHold n c) :=
  List.Subset.trans (List.map_subset _ (List.filter_sublist (l := t.holds)).subset) h

theorem State.NoNewHold.testSequential (n : Nat) (h : s.NoNewHold t) : s.NoNewHold (t.testSequential n) := by
  unfold State.testSequential; repeat' split
  case _ => exact h
  · exact h.removeHold ..
  · exact h

theorem State.NoNewHold.testApproach (n : Nat) (h : s.NoNewHold t) : s.NoNewHold (t.testApproach n) := by
  unfold State.testApproach; repeat' split
  case _ => exact h
  · exact h.removeHold ..
  · exact h

theorem State.NoNewHold.testRelease (n : Nat) (h : s.NoNewHold t) : s.NoNewHold (t.testRelease n) :=
  (h.testSequential n).testApproach n

theorem State.NoNewHold.cancelTimeRelease (k : Hold) (c : HoldCause) (h : s.NoNewHold t) :
    s.NoNewHold (t.cancelTimeRelease k c) := .emit _ _ _ (h.putHold _)

theorem State.NoNewHold.signalStandsReverse (n : Nat) (h : s.NoNewHold t) : s.NoNewHold (t.signalStandsReverse n) := by
  unfold State.signalStandsReverse; split
  · exact h
  · exact h.putHold _

theorem State.NoNewHold.signalStandsNormal (n : Nat) (h : s.NoNewHold t) : s.NoNewHold (t.signalStandsNormal n) := by
  unfold State.signalStandsNormal; dsimp only; split
  · exact h
  · split
    · exact .testRelease n (.emit _ _ _ (h.putHold _))
    · exact h.testRelease n

theorem State.NoNewHold.stageDone (a i : Nat) (r : Hold × Bool) (h : s.NoNewHold t) : s.NoNewHold (t.stageDone a i r) := by
  unfold State.stageDone; dsimp only; split
  · exact .emit _ _ _ (h.putHold _)
  · exact h.putHold _

theorem State.NoNewHold.holdsTrackOccupied (a : Nat) (h : s.NoNewHold t) : s.NoNewHold (t.holdsTrackOccupied a) := by
  refine .foldl (fun v n hv => ?_) h
  unfold State.holdTrackOccupied; repeat' split
  case _ => exact hv
  · exact hv.stageDone ..
  · exact .testRelease n (hv.cancelTimeRelease ..)
  · exact hv

theorem State.NoNewHold.holdsTrackCleared (a : Nat) (h : s.NoNewHold t) : s.NoNewHold (t.holdsTrackCleared a) := by
  refine .foldl (fun v n hv => ?_) h
  unfold State.holdTrackCleared; dsimp only; repeat' split
  case _ => exact hv
  · exact .testSequential n (hv.stageDone ..)
  · exact hv.testApproach n
  · exact hv

/-- A standing position presented makes no hold but by an arrival. -/
theorem State.NoNewHold.present (n : Nat) (old : Standing) (h : s.NoNewHold t) : s.NoNewHold (t.present n old false) := by
  unfold State.present; dsimp only; repeat' split
  · exact h
  · exact h.signalStandsNormal n
  · next e => cases e
  · exact h.signalStandsReverse n
  · exact h

theorem State.NoNewHold.moveLever (n : Nat) (l : Lever) (e : NoticeEvent) (x : List Byte) (h : s.NoNewHold t) :
    s.NoNewHold (t.moveLever n l e x false) := State.NoNewHold.present n _ h

theorem State.NoNewHold.becomesOccupied (a : Nat) (h : s.NoNewHold t) : s.NoNewHold (t.becomesOccupied a) :=
  (h.holdsTrackOccupied a).outside (ps := [.sections, .alerts, .sounder, .emitted]) (by simp [State.becomesOccupied])
    (by decide)

theorem State.NoNewHold.becomesClear (a : Nat) (h : s.NoNewHold t) : s.NoNewHold (t.becomesClear a) :=
  (h.holdsTrackCleared a).outside (ps := [.sections, .register, .emitted]) (by simp [State.becomesClear]) (by decide)

theorem State.NoNewHold.suspectRequest (a : Nat) (h : s.NoNewHold t) : s.NoNewHold (t.suspectRequest a) := by
  unfold State.suspectRequest; dsimp only
  split
  · have hset : s.NoNewHold (((t.putTrack a { t.track a with suspect := true }).countMark a false).emit .trackSuspect a []) :=
      h.outside (ps := [.tracks, .counters, .emitted]) (by simp) (by decide)
    split
    · exact hset.becomesOccupied a
    · exact hset
  · exact h

theorem State.NoNewHold.holdsOnHold (h : s.NoNewHold t) : s.NoNewHold t.holdsOnHold :=
  .foldl (fun _ k hv => hv.cancelTimeRelease k .partHeld) h

/-! ### What each lever's lock asks (R19, R21, R22, R33) -/

/-- Lever `n` may be unlocked: the part runs, no hold names the lever, and it is not SPARE. -/
structure State.Unlockable (s : State) (n : Nat) : Prop where
  running : s.control.mode = .running
  unheld : s.holdNaming n = none
  fitted : s.conf.leverKind n ≠ .spare

/-- The levers that a hold of signal `k` holds (R47). -/
def heldBy (c : Conf) (k : Nat) : List Nat := ((c.holdDef k).map (·.held)).getD []

theorem State.holdNaming_eq_none {n : Nat} : s.holdNaming n = none ↔ ∀ k ∈ s.holds.map (·.signal), n ∉ heldBy s.conf k := by
  simp [State.holdNaming, State.heldOf, heldBy]

theorem State.Unlockable.of_eq {n : Nat} (h : s.Unlockable n) (hm : u.control.mode = s.control.mode) (hc : u.conf = s.conf)
    (hn : s.NoNewHold u) : u.Unlockable n where
  running := hm.trans h.running
  unheld := State.holdNaming_eq_none.2 fun k hk => hc ▸ State.holdNaming_eq_none.1 h.unheld k (hn hk)
  fitted := hc ▸ h.fitted

/-- A lever that fails none of the conditions 1 to 4 may be unlocked. -/
theorem State.unlockable_of_keepFail {n : Nat} (h : s.keepFail n = none) : s.Unlockable n := by
  unfold State.keepFail at h
  split at h
  · cases h
  · next hm =>
    split at h
    · cases h
    · next he =>
      split at h
      · cases h
      · next hh =>
        refine ⟨not_not.1 hm, hh, fun hk => ?_⟩
        unfold State.entryFail at he
        split at he
        · cases he
        · rw [if_pos hk] at he; cases he

/-- What `State.LocksSafe` asks of the content `l` of lever `n`; a released lever may lack what unlocking asks where an
examination is still to come, and `settled` says that none is. -/
structure State.LockKept (s : State) (settled : Prop) (n : Nat) (l : Lever) : Prop where
  lock : l.solenoid = true → l.phase.isFree = true ∨ l.phase = .travel ∧ s.Unlockable n
  free : l.phase.isFree = true → l.solenoid = true ∧ l.grant.isSome = true ∧ (settled → s.Unlockable n)
  grant : l.grant.isSome = true → s.control.mode ≠ .start ∧ (l.phase.isFree = true ∨ l.phase = .travel)
  idle : s.control.mode = .start ∨ l.phase ≠ .travel → l.origin = .none ∧ l.timer = .stopped

/-- Every lever's lock is kept. -/
def State.LocksKept (s : State) (settled : Prop) : Prop := ∀ n ∈ Tab.numbers 24, s.LockKept settled n (s.lever n)

theorem State.locksSafe_iff : s.LocksSafe ↔ s.LocksKept True := by
  refine ⟨fun h n hn => ?_, fun h n hn => ?_⟩
  · obtain ⟨hlock, hfree, hgrant, hidle⟩ := h n hn
    have hunlockable (hs : (s.lever n).solenoid = true) : s.Unlockable n := by
      obtain ⟨hm, -, hn, hk⟩ := hlock hs
      exact ⟨hm, hn, hk⟩
    refine ⟨fun hs => ?_, fun hf => ⟨(hfree hf).1, (hfree hf).2, fun _ => hunlockable (hfree hf).1⟩, hgrant, hidle⟩
    obtain ⟨-, hphase, -⟩ := hlock hs
    exact hphase.imp_right fun hp => ⟨hp, hunlockable hs⟩
  · obtain ⟨hlock, hfree, hgrant, hidle⟩ := h n hn
    refine ⟨fun hs => ?_, fun hf => ⟨(hfree hf).1, (hfree hf).2.1⟩, hgrant, hidle⟩
    have hunlockable : s.Unlockable n := (hlock hs).elim (fun hf => (hfree hf).2.2 trivial) fun hp => hp.2
    exact ⟨hunlockable.running, (hlock hs).imp_right fun hp => hp.1, hunlockable.unheld, hunlockable.fitted⟩

variable {settled : Prop}

theorem State.LockKept.of_eq {n : Nat} {l : Lever} (h : s.LockKept settled n l) (hm : u.control.mode = s.control.mode)
    (hc : u.conf = s.conf) (hn : s.NoNewHold u) : u.LockKept settled n l where
  lock hs := (h.lock hs).imp_right fun hp => ⟨hp.1, hp.2.of_eq hm hc hn⟩
  free hf := by
    obtain ⟨hs, hg, hu⟩ := h.free hf
    exact ⟨hs, hg, fun e => (hu e).of_eq hm hc hn⟩
  grant hg := hm ▸ h.grant hg
  idle := hm ▸ h.idle

theorem State.LockKept.weaken {n : Nat} {l : Lever} (h : s.LockKept settled n l) : s.LockKept False n l :=
  ⟨h.lock, fun hf => ⟨(h.free hf).1, (h.free hf).2.1, False.elim⟩, h.grant, h.idle⟩

theorem State.LocksKept.weaken (h : s.LocksKept settled) : s.LocksKept False := fun n hn => (h n hn).weaken

theorem State.LocksKept.of_eq (h : s.LocksKept settled) (hl : u.levers = s.levers) (hm : u.control.mode = s.control.mode)
    (hc : u.conf = s.conf) (hn : s.NoNewHold u) : u.LocksKept settled := fun n hmem => by
  rw [show u.lever n = s.lever n from lever_of_levers hl]
  exact (h n hmem).of_eq hm hc hn

/-- A frame that keeps levers, mode and configuration, and makes no hold, keeps the locks. -/
theorem State.LocksKept.frame (k : Outside ps s u) (hp : .levers ∉ ps ∧ .mode ∉ ps ∧ .configuration ∉ ps)
    (hn : s.NoNewHold u) (h : s.LocksKept settled) : u.LocksKept settled :=
  h.of_eq (k .levers hp.1) (k.mode_eq hp.2.1) (k.conf_eq hp.2.2) hn

theorem State.LocksKept.outside (k : Outside ps s u)
    (hp : .levers ∉ ps ∧ .mode ∉ ps ∧ .configuration ∉ ps ∧ .holds ∉ ps) (h : s.LocksKept settled) : u.LocksKept settled :=
  h.frame k ⟨hp.1, hp.2.1, hp.2.2.1⟩ ((State.NoNewHold.refl s).outside k hp.2.2.2)

/-- A lever is replaced by one whose lock is kept. -/
theorem State.LocksKept.putLever {n : Nat} {l : Lever} (h : s.LocksKept settled)
    (hl : n ∈ Tab.numbers 24 → s.LockKept settled n (s.lever n) → s.LockKept settled n l) :
    (s.putLever n l).LocksKept settled := fun j hj => by
  refine State.LockKept.of_eq (s := s) ?_ rfl rfl (State.NoNewHold.refl s)
  rw [State.lever_putLever]
  split
  · next e =>
    obtain ⟨rfl, he⟩ := e
    exact hl (Tab.mem_numbers.2 he) (h j hj)
  · exact h j hj

/-- A lever moves without an arrival at REVERSE. -/
theorem State.LocksKept.moveLever {n : Nat} {l : Lever} {e : NoticeEvent} {x : List Byte} (h : s.LocksKept settled)
    (hl : n ∈ Tab.numbers 24 → s.LockKept settled n (s.lever n) → s.LockKept settled n l) :
    (s.moveLever n l e x false).LocksKept settled := by
  have hput : ((s.putLever n l).emit e n x).LocksKept settled :=
    (h.putLever hl).outside (State.emit_outside _ _ _ _) (by decide)
  exact hput.frame (State.present_outside_holds n _ _) (by decide) ((State.NoNewHold.refl _).present n _)

/-! ### The examination makes the locks safe (R29, R32) -/

/-- A released lever whose release is withdrawn (R32). -/
def Lever.withdrawn (l : Lever) : Lever := { l with phase := l.phase.caught, solenoid := false, grant := none }

theorem State.moveLever_lever (n m : Nat) (l : Lever) (e : NoticeEvent) (x : List Byte) (s : State) :
    (s.moveLever n l e x false).lever m = if m = n ∧ 1 ≤ n ∧ n ≤ 24 then l else s.lever m :=
  (State.lever_of_outside (((State.emit_outside e n x (s.putLever n l)).mono (by simp)).trans
    (State.present_outside_holds n (s.standing n) _)) (by decide) m).trans (State.lever_putLever ..)

theorem State.withdraw_lever (n m : Nat) (f : GrantFail) (s : State) :
    (s.withdraw n f).lever m = if m = n ∧ 1 ≤ n ∧ n ≤ 24 then (s.lever n).withdrawn else s.lever m :=
  State.moveLever_lever ..

/-- Withdrawals reach each lever of the list once, and no other. -/
theorem State.withdrawals_lever {l : List (Nat × GrantFail)} (hl : (l.map (·.1)).Nodup) (s : State) {n : Nat}
    (hn : n ∈ Tab.numbers 24) : (l.foldl (fun s k => s.withdraw k.1 k.2) s).lever n =
      if n ∈ l.map (·.1) then (s.lever n).withdrawn else s.lever n := by
  induction l generalizing s with
  | nil => rfl
  | cons k l ih =>
    obtain ⟨hk, hl⟩ := List.nodup_cons.1 hl
    rw [List.foldl_cons, ih hl, State.withdraw_lever, List.map_cons]
    by_cases e : n = k.1
    · subst e
      rw [if_neg hk, if_pos ⟨rfl, Tab.mem_numbers.1 hn⟩, if_pos (List.mem_cons_self ..)]
    · simp only [List.mem_cons, e, false_or, false_and, if_false]

theorem State.failing_numbers (s : State) : s.failing.map (·.1) =
    (Tab.numbers 24).filter fun n => (s.lever n).phase.isFree && (s.keepFail n).isSome := by
  rw [State.failing, List.map_filterMap]
  generalize Tab.numbers 24 = l
  induction l with
  | nil => rfl
  | cons n l ih =>
    rw [List.filterMap_cons, List.filter_cons, ih]
    cases (s.lever n).phase.isFree <;> cases s.keepFail n <;> simp

/-- What the withdrawals of a pass make of a lever: the failing ones alone lose their release (R32). -/
theorem State.withdrawPass_lever (s : State) {n : Nat} (hn : n ∈ Tab.numbers 24) : s.withdrawPass.lever n =
    if (s.lever n).phase.isFree = true ∧ (s.keepFail n).isSome = true then (s.lever n).withdrawn else s.lever n := by
  unfold State.withdrawPass
  rw [State.withdrawals_lever ?_ s hn, State.failing_numbers]
  · simp [hn]
  · rw [State.failing_numbers]
    exact (Tab.nodup_numbers 24).filter _

theorem State.NoNewHold.withdrawPass (h : s.NoNewHold t) : s.NoNewHold t.withdrawPass :=
  .foldl (fun _ _ hv => hv.moveLever ..) h

theorem LeverPhase.caught_facts {p : LeverPhase} (h : p.isFree = true) :
    p.caught.isFree = false ∧ p.caught ≠ .travel ∧ p ≠ .travel := by
  revert h; cases p <;> decide

theorem State.LockKept.withdrawn {n : Nat} {l : Lever} (h : s.LockKept settled n l) (hf : l.phase.isFree = true) :
    s.LockKept True n l.withdrawn := by
  obtain ⟨hcaught, -, htravel⟩ := LeverPhase.caught_facts hf
  exact ⟨nofun, fun e => by simp [Lever.withdrawn, hcaught] at e, nofun, fun _ => h.idle (.inr htravel)⟩

/-- After a pass of withdrawals the locks are safe: a release that stays has failed no condition. -/
theorem State.LocksKept.withdrawPass (h : s.LocksKept False) : s.withdrawPass.LocksKept True := fun n hn => by
  have hframe := State.withdrawPass_outside s
  refine State.LockKept.of_eq ?_ (hframe.mode_eq (by decide)) (hframe.conf_eq (by decide)) (State.NoNewHold.refl s).withdrawPass
  rw [State.withdrawPass_lever s hn]
  split
  · next hf => exact (h n hn).withdrawn hf.1
  · next hf =>
    refine ⟨(h n hn).lock, fun hfree => ?_, (h n hn).grant, (h n hn).idle⟩
    obtain ⟨hs, hg, -⟩ := (h n hn).free hfree
    exact ⟨hs, hg, fun _ => State.unlockable_of_keepFail (by simpa [hfree] using hf)⟩

theorem State.grantable_iff {n : Nat} : n ∈ s.grantable ↔
    n ∈ Tab.numbers 24 ∧ (s.lever n).phase.isCatch = true ∧ s.grantFail n = none := by
  simp [State.grantable]

theorem State.keepFail_of_grantFail {n : Nat} (h : s.grantFail n = none) :
    s.keepFail n = none ∧ (s.lever n).fresh = true := by
  unfold State.grantFail at h
  split at h
  · cases h
  · next hk => exact ⟨hk, by simpa using h⟩

theorem LeverPhase.freed_facts {p : LeverPhase} (h : p.isCatch = true) :
    p.freed.isFree = true ∧ p.freed ≠ .travel ∧ p ≠ .travel := by
  revert h; cases p <;> decide

/-- A grant to a lever that may be unlocked keeps the locks (R28). -/
theorem State.LocksKept.grantLever {n : Nat} (h : s.LocksKept settled) (hc : (s.lever n).phase.isCatch = true)
    (hu : s.Unlockable n) : (s.grantLever n).LocksKept settled := by
  obtain ⟨hfreed, htravel, hold⟩ := LeverPhase.freed_facts hc
  refine h.moveLever fun _ hk => ⟨fun _ => .inl hfreed, fun _ => ⟨rfl, rfl, fun _ => hu⟩, fun _ => ⟨?_, .inl hfreed⟩,
    fun _ => hk.idle (.inr hold)⟩
  rw [hu.running]; decide

/-- The choice among several grantable levers is one of them. -/
theorem getD_mod_mem {α : Type} {l : List α} (h : l ≠ []) (k : Nat) (d : α) :
    (l[k % l.length]?).getD d ∈ l := by
  have hpos : 0 < l.length := List.length_pos_iff.2 h
  rw [List.getElem?_eq_getElem (Nat.mod_lt _ hpos)]
  exact List.getElem_mem _

theorem State.LocksKept.settleLevers (fuel : Nat) (h : s.LocksKept False) : (s.settleLevers fuel).LocksKept True := by
  induction fuel generalizing s with
  | zero => exact h.withdrawPass
  | succ fuel ih =>
    have hw := h.withdrawPass
    have grants {v : State} {n : Nat} (hv : v.LocksKept True) (hn : n ∈ v.grantable) : (v.grantLever n).LocksKept False := by
      obtain ⟨-, hc, hg⟩ := State.grantable_iff.1 hn
      exact (hv.grantLever hc (State.unlockable_of_keepFail (State.keepFail_of_grantFail hg).1)).weaken
    unfold State.settleLevers; dsimp only
    split
    · exact hw
    · next n hl => exact ih (grants hw (by simp [hl]))
    · next n m rest hl =>
      refine ih (grants (hw.outside (State.nextChoice_outside _) (by decide)) ?_)
      rw [show State.grantable { s.withdrawPass with choices := s.withdrawPass.choices + 1 } = n :: m :: rest from hl]
      exact getD_mod_mem (by simp) _ _

/-- An examination makes the locks safe. -/
theorem State.LocksKept.settle (h : s.LocksKept settled) : s.settle.LocksKept True :=
  (h.weaken.settleLevers 48).outside (State.removalsLast_outside _) (by decide)

end Sys2Proof.Machine

namespace Sys2Proof.Machine

variable {ps : List Part} {s t u v : State} {settled : Prop}

/-! ### An arrival at REVERSE keeps the locks (R33, R50) -/

/-- A lever that has lost its lock (R33). -/
def Lever.unlocked (l : Lever) : Lever := { l with solenoid := false }

theorem State.unlockTravel_lever (s : State) (k : Nat) {n : Nat} (hn : n ∈ Tab.numbers 24) :
    (s.unlockTravel k).lever n =
      if n = k ∧ (s.lever n).phase = .travel then (s.lever n).unlocked else s.lever n := by
  have hrange := Tab.mem_numbers.1 hn
  unfold State.unlockTravel
  by_cases e : n = k
  · subst e
    split <;> simp [State.lever_putLever, Lever.unlocked, *]
  · split <;> simp [State.lever_putLever, e]

/-- Of the levers of a list those in TRAVEL lose their lock. -/
theorem State.unlockTravels_lever (l : List Nat) (s : State) {n : Nat} (hn : n ∈ Tab.numbers 24) :
    (l.foldl State.unlockTravel s).lever n =
      if n ∈ l ∧ (s.lever n).phase = .travel then (s.lever n).unlocked else s.lever n := by
  induction l generalizing s with
  | nil => simp
  | cons k l ih =>
    rw [List.foldl_cons, ih, State.unlockTravel_lever s k hn]
    by_cases hp : (s.lever n).phase = .travel
    · by_cases e : n = k
      · subst e; simp [hp, Lever.unlocked]
      · simp [hp, e]
    · simp [hp]

/-- A new hold takes the lock of the levers in TRAVEL that it holds, and changes no lever else (R33). -/
theorem State.createHold_lever (k : Nat) (d : HoldDef) (st : HoldState) (r : Bool) (c : HoldCause) (s : State) {n : Nat}
    (hn : n ∈ Tab.numbers 24) : (s.createHold k d st r c).lever n =
      if n ∈ d.held ∧ (s.lever n).phase = .travel then (s.lever n).unlocked else s.lever n := by
  rw [State.createHold_eq]
  exact State.unlockTravels_lever d.held (s.putHolds (insertHold (createdHold k d st r) s.holds)) hn

theorem mem_insertHold {h k : Hold} {l : List Hold} : k ∈ insertHold h l ↔ k = h ∨ k ∈ l := by
  induction l with
  | nil => simp [insertHold]
  | cons j l ih =>
    unfold insertHold; split
    · simp
    · rw [List.mem_cons, ih, List.mem_cons]; tauto

/-- A new hold stands in the list beside those that stood there. -/
theorem State.createHold_holds (k : Nat) (d : HoldDef) (st : HoldState) (r : Bool) (c : HoldCause) (s : State) :
    (s.createHold k d st r c).holds = insertHold (createdHold k d st r) s.holds := by
  rw [State.createHold_eq, State.emit_holds]
  generalize hv : s.putHolds (insertHold (createdHold k d st r) s.holds) = v
  have hfold : Outside [.levers] v (d.held.foldl State.unlockTravel v) := by
    refine (outside_foldl State.unlockTravel d.held v fun w a => ?_).2 (.refl _ _)
    unfold State.unlockTravel; split <;> simp
  rw [show _ = v.holds from hfold .holds (by decide), ← hv]; rfl

theorem State.LocksKept.createHold {k : Nat} {d : HoldDef} (st : HoldState) (r : Bool) (c : HoldCause)
    (h : s.LocksKept settled) (hd : s.conf.holdDef k = some d) : (s.createHold k d st r c).LocksKept False := fun n hn => by
  have hframe := State.createHold_outside k d st r c s
  have hunlockable (hu : s.Unlockable n) (hn : n ∉ d.held) : (s.createHold k d st r c).Unlockable n := by
    refine ⟨(hframe.mode_eq (by decide)).trans hu.running, State.holdNaming_eq_none.2 fun j hj => ?_,
      (hframe.conf_eq (by decide)) ▸ hu.fitted⟩
    rw [hframe.conf_eq (by decide)]
    rw [State.createHold_holds] at hj
    obtain ⟨g, hg, rfl⟩ := List.mem_map.1 hj
    rcases mem_insertHold.1 hg with rfl | hg
    · rw [heldBy, createdHold, hd]; exact hn
    · exact State.holdNaming_eq_none.1 hu.unheld _ (List.mem_map_of_mem hg)
  have hmode := hframe.mode_eq (by decide)
  obtain ⟨hlock, hfree, hgrant, hidle⟩ := h n hn
  rw [State.createHold_lever k d st r c s hn]
  split
  · next e =>
    refine ⟨nofun, fun hf => ?_, fun hg => ?_, fun hi => hidle (hmode ▸ hi)⟩
    · exact absurd e.2 (LeverPhase.caught_facts hf).2.2
    · exact hmode ▸ hgrant hg
  · next e =>
    refine ⟨fun hs => ?_, fun hf => ⟨(hfree hf).1, (hfree hf).2.1, False.elim⟩, fun hg => hmode ▸ hgrant hg,
      fun hi => hidle (hmode ▸ hi)⟩
    exact (hlock hs).imp_right fun hp => ⟨hp.1, hunlockable hp.2 fun hd => e ⟨hd, hp.1⟩⟩

theorem State.LocksKept.signalArrivesReverse (n : Nat) (h : s.LocksKept settled) :
    (s.signalArrivesReverse n).LocksKept False := by
  unfold State.signalArrivesReverse
  split
  · exact h.weaken
  · next d hd =>
    split
    · exact h.weaken
    · split
      · exact h.createHold _ _ _ hd
      · refine h.weaken.frame (ps := [.holds, .emitted]) ?_ (by decide) (.emit _ _ _ (.putHold _ ?_))
        · split <;> simp
        · split
          · exact (State.NoNewHold.refl s).cancelTimeRelease ..
          · exact .refl s

theorem State.LocksKept.present (n : Nat) (old : Standing) (arrived : Bool) (h : s.LocksKept settled) :
    (s.present n old arrived).LocksKept False := by
  cases arrived with
  | false => exact h.weaken.frame (State.present_outside_holds n old s) (by decide) ((State.NoNewHold.refl s).present n old)
  | true =>
    unfold State.present; dsimp only
    repeat' split
    case h_2.isTrue =>
      exact (h.signalArrivesReverse n).outside (State.consumeRelease_outside n _) (by decide)
    · exact h.weaken
    · exact h.weaken.frame (State.signalStandsNormal_outside n s) (by decide) ((State.NoNewHold.refl s).signalStandsNormal n)
    · next e => exact absurd rfl e
    · exact h.weaken

/-- A lever moves, with an arrival or without. -/
theorem State.LocksKept.moveLever_any {n : Nat} {l : Lever} {e : NoticeEvent} {x : List Byte} (arrived : Bool)
    (h : s.LocksKept settled) (hl : n ∈ Tab.numbers 24 → s.LockKept settled n (s.lever n) → s.LockKept settled n l) :
    (s.moveLever n l e x arrived).LocksKept False :=
  ((h.putLever hl).outside (u := (s.putLever n l).emit e n x) (State.emit_outside _ _ _ _) (by decide)).present n _ arrived

/-! ### The events of a lever -/

/-- A lever that is not in TRAVEL is one of the 24. -/
theorem State.lever_range {n : Nat} (h : (s.lever n).phase ≠ .travel) : 1 ≤ n ∧ n ≤ 24 := by
  by_contra hn
  exact h (by rw [State.lever, Tab.get_out _ _ hn])

theorem LeverPhase.caught_of_down {p : LeverPhase} (h : p = .normal ∨ p = .reverse) :
    p.isFree = false ∧ p ≠ .travel ∧ p.caught.isCatch = true ∧ p.caught.isFree = false ∧ p.caught ≠ .travel := by
  rcases h with rfl | rfl <;> decide

theorem LeverPhase.seated_of_movable {p : LeverPhase} (h : p.movable = true) :
    p ≠ .travel ∧ p.seated.isFree = false ∧ p.seated ≠ .travel := by
  revert h; cases p <;> decide

/-- A lever at rest, or in FAULT, has no lock to keep. -/
theorem State.LockKept.atRest {n : Nat} {l : Lever} {p : LeverPhase} (hf : p.isFree = false) :
    s.LockKept settled n (l.atRest p) :=
  ⟨nofun, fun h => by simp [Lever.atRest, hf] at h, nofun, fun _ => ⟨rfl, rfl⟩⟩

theorem LeverInputs.phase_not_free (i : LeverInputs) : i.phase.isFree = false := by
  rcases i with ⟨_ | _, _ | _, _ | _⟩ <;> rfl

theorem LeverInputs.seatedAt_not_free {i : LeverInputs} {p : LeverPhase} (h : i.seatedAt = some p) : p.isFree = false := by
  rcases i with ⟨_ | _, _ | _, _ | _⟩ <;> cases h <;> rfl

/-- In the start interval no lever has a lock, a grant record or a travel. -/
theorem State.LocksKept.start {n : Nat} (h : s.LocksKept True) (hm : s.control.mode = .start) (hn : n ∈ Tab.numbers 24) :
    (s.lever n).solenoid = false ∧ (s.lever n).grant = none ∧ (s.lever n).phase.isFree = false ∧
      (s.lever n).origin = .none ∧ (s.lever n).timer = .stopped := by
  obtain ⟨hlock, hfree, hgrant, hidle⟩ := h n hn
  have hnot (hu : s.Unlockable n) : False := by have := hu.running; simp [hm] at this
  have hfree : (s.lever n).phase.isFree = false := Bool.eq_false_iff.2 fun e => hnot ((hfree e).2.2 trivial)
  refine ⟨Bool.eq_false_iff.2 fun e => ?_, ?_, hfree, hidle (.inl hm)⟩
  · rcases hlock e with hf | hp
    · simp [hfree] at hf
    · exact hnot hp.2
  · exact Option.not_isSome_iff_eq_none.1 fun e => (hgrant e).1 hm

theorem State.LocksKept.derive (n : Nat) (h : s.LocksKept True) (hm : s.control.mode = .start) :
    (s.derive n).LocksKept True := h.putLever fun hn _ => by
  obtain ⟨hs, hg, -, hidle⟩ := h.start hm hn
  exact ⟨fun e => by simp [hs] at e, fun e => by simp [LeverInputs.phase_not_free] at e, fun e => by simp [hg] at e,
    fun _ => hidle⟩

theorem State.LocksKept.tryEnd (n : Nat) (h : s.LocksKept True) : (s.tryEnd n).LocksKept True := by
  unfold State.tryEnd; dsimp only
  split
  · exact h
  · next p hp =>
    have hrest : s.LockKept True n ((s.lever n).atRest p) := .atRest (LeverInputs.seatedAt_not_free hp)
    split
    · exact (h.moveLever_any _ fun _ _ => hrest).settle
    · exact (h.moveLever_any _ fun _ _ => hrest).settle
    · exact h

/-- A flag of a lever that no lock rests on. -/
theorem State.LockKept.marked {n : Nat} {l : Lever} (h : s.LockKept settled n l) (f m : Bool) :
    s.LockKept settled n { l with fresh := f, faultMark := m } := ⟨h.lock, h.free, h.grant, h.idle⟩

/-- A lever changes its state among those with no release, with its lock off. -/
theorem State.LockKept.rephased {n : Nat} {l : Lever} {p : LeverPhase} (h : s.LockKept settled n l)
    (hl : l.phase.isFree = false ∧ l.phase ≠ .travel) (hp : p.isFree = false ∧ p ≠ .travel) :
    s.LockKept settled n { l with phase := p } := by
  have hno : ¬ (l.phase.isFree = true ∨ l.phase = .travel) := by simp [hl]
  refine ⟨fun e => absurd ((h.lock e).imp_right fun k => k.1) hno, fun e => ?_, fun e => absurd (h.grant e).2 hno,
    fun _ => h.idle (.inr hl.2)⟩
  simp [hp.1] at e

theorem State.LocksKept.catchLifts (n : Nat) (h : s.LocksKept True) : (s.catchLifts n).LocksKept True := by
  unfold State.catchLifts; dsimp only
  split
  · next hm => exact h.derive n hm
  · split
    · next hp =>
      obtain ⟨hfree, htravel, hcatch, hfree', htravel'⟩ := LeverPhase.caught_of_down hp
      have hlift : (s.putLever n { s.lever n with phase := (s.lever n).phase.caught }).LocksKept True :=
        h.putLever fun _ hk => hk.rephased ⟨hfree, htravel⟩ ⟨hfree', htravel'⟩
      split
      · next hg =>
        refine (hlift.grantLever ?_ (State.unlockable_of_keepFail (State.keepFail_of_grantFail hg).1)).settle
        rwa [State.lever_putLever, if_pos ⟨rfl, State.lever_range htravel⟩]
      · exact hlift.outside (State.emit_outside _ _ _ _) (by decide)
    · exact h

theorem State.LocksKept.catchLowers (n : Nat) (h : s.LocksKept True) : (s.catchLowers n).LocksKept True := by
  have hfresh : (s.putLever n { s.lever n with fresh := true }).LocksKept True :=
    h.putLever fun _ hk => hk.marked true _
  have hseated (hp : (s.lever n).phase.isCatch = true) :
      (s.putLever n { s.lever n with phase := (s.lever n).phase.seated, fresh := true }).LocksKept True := by
    obtain ⟨htravel, hfree', htravel'⟩ := LeverPhase.seated_of_movable (p := (s.lever n).phase) (by simp [LeverPhase.movable, hp])
    refine h.putLever fun _ hk => (hk.marked true (s.lever n).faultMark).rephased ⟨?_, htravel⟩ ⟨hfree', htravel'⟩
    revert hp; cases (s.lever n).phase <;> decide
  have hgiven (hp : (s.lever n).phase.isFree = true) : ((s.moveLever n
      ({ s.lever n with fresh := true }.atRest (s.lever n).phase.seated) .leverGivenUp [] false).settle).LocksKept True :=
    (h.moveLever fun _ _ => .atRest (LeverPhase.seated_of_movable (by simp [LeverPhase.movable, hp])).2.1).settle
  unfold State.catchLowers; dsimp only
  split
  · next hm => exact h.derive n hm
  · split
    case h_1 hp | h_2 hp => exact hseated (by rw [hp]; rfl)
    case h_3 hp | h_4 hp => exact hgiven (by rw [hp]; rfl)
    case h_5 | h_6 => exact hfresh.tryEnd n
    case h_7 | h_8 => exact hfresh

theorem State.LockKept.toFault {n : Nat} {l : Lever} : s.LockKept settled n l.toFault :=
  ⟨nofun, nofun, nofun, fun _ => ⟨rfl, rfl⟩⟩

theorem State.LocksKept.forcedMovement (n : Nat) (h : s.LocksKept settled) : (s.forcedMovement n).LocksKept settled := by
  have hput : (s.putLever n (s.lever n).toFault).LocksKept settled := h.putLever fun _ _ => .toFault
  exact hput.outside (ps := [.counters, .alerts, .sounder, .emitted]) (by simp [State.forcedMovement]) (by decide)

/-- A released lever that leaves its position keeps its lock and its grant record (R34). -/
theorem State.LockKept.leaves {n : Nat} {l : Lever} (h : s.LockKept True n l) (hf : l.phase.isFree = true)
    (o : Origin) (k : TravelTimer) : s.LockKept True n { l with phase := .travel, origin := o, timer := k } := by
  obtain ⟨-, hg, hu⟩ := h.free hf
  have hm : s.control.mode ≠ .start := (h.grant hg).1
  exact ⟨fun _ => .inr ⟨rfl, hu trivial⟩, nofun, fun _ => ⟨hm, .inr rfl⟩, fun e => absurd e (by simp [hm])⟩

theorem State.LocksKept.detectorOpens (n : Nat) (h : s.LocksKept True) : (s.detectorOpens n).LocksKept True := by
  unfold State.detectorOpens; dsimp only
  split
  · next hm => exact h.derive n hm
  · split
    case h_5 hp | h_6 hp => exact h.moveLever fun _ hk => hk.leaves (by simp [hp, LeverPhase.isFree]) _ _
    case h_7 | h_8 => exact h.tryEnd n
    all_goals exact (h.forcedMovement n).settle

theorem State.LocksKept.detectorMakes (n : Nat) (h : s.LocksKept True) : (s.detectorMakes n).LocksKept True := by
  unfold State.detectorMakes; dsimp only
  split
  · next hm => exact h.derive n hm
  · split
    · split
      · exact h
      · exact (h.moveLever fun _ _ => .toFault).settle
    · exact h.tryEnd n

theorem State.LocksKept.travelExpires (n : Nat) (h : s.LocksKept True) : (s.travelExpires n).LocksKept True := by
  unfold State.travelExpires; dsimp only
  split
  · split
    · next hk =>
      have hp : (s.lever n).phase = .travel := by simp only [Bool.and_eq_true, decide_eq_true_eq] at hk; exact hk.1
      have hput : (s.putLever n { s.lever n with timer := .expired }).LocksKept True := by
        refine h.putLever fun hn hk => ⟨hk.lock, hk.free, hk.grant, fun e => ?_⟩
        rcases e with hm | hno
        · exact absurd (h.start hm hn).2.2.2.2 (by simp_all)
        · exact absurd hp hno
      exact hput.outside (ps := [.alerts, .sounder, .emitted]) (by simp) (by decide)
    · exact h
  · exact h

theorem State.LocksKept.clearMark (n : Nat) (h : s.LocksKept True) : (s.clearMark n).LocksKept True := by
  unfold State.clearMark; dsimp only
  split
  · exact (h.putLever fun _ hk => hk.marked _ false).outside (State.emit_outside _ _ _ _) (by decide)
  · exact h

/-! ### The events of tracks, holds and sections -/

/-- What an event changes that reaches no lever, no hold, no mode and no configuration item. -/
def lockless : List Part :=
  [.tracks, .set, .sections, .bells, .register, .alerts, .sounder, .lampTest, .pulses, .flasher, .assembler, .requests,
    .slot, .outbox, .transmitter, .linkCounts, .after, .box, .clock, .counters, .choices, .emitted]

theorem State.LocksKept.lockless (k : Outside lockless s u) (h : s.LocksKept settled) : u.LocksKept settled :=
  h.outside k (by decide)

theorem State.LocksKept.becomesOccupied (a : Nat) (h : s.LocksKept settled) : (s.becomesOccupied a).LocksKept settled :=
  h.frame (State.becomesOccupied_outside a s) (by decide) ((State.NoNewHold.refl s).becomesOccupied a)

theorem State.LocksKept.becomesClear (a : Nat) (h : s.LocksKept settled) : (s.becomesClear a).LocksKept settled :=
  h.frame (State.becomesClear_outside a s) (by decide) ((State.NoNewHold.refl s).becomesClear a)

theorem State.LocksKept.relayDrops (a : Nat) (h : s.LocksKept True) : (s.relayDrops a).LocksKept True := by
  unfold State.relayDrops; split
  · split
    · cases hm : (s.track a).marked with
      | true => exact h.lockless ((State.occupationStarts_marked_outside hm).mono (by simp [Machine.lockless]))
      | false =>
        rw [State.occupationStarts_unmarked hm]
        have hset : ((s.setOccupied a).emit .trackOccupied a []).LocksKept True :=
          h.lockless (by simp [State.setOccupied, Machine.lockless])
        exact ((hset.becomesOccupied a).outside (State.attributeRunning_outside a _) (by decide)).settle
    · exact h.outside (State.flicker_outside a s) (by decide)
    · exact h
  · exact h

theorem State.LocksKept.pickUpExpires (a : Nat) (h : s.LocksKept True) : (s.pickUpExpires a).LocksKept True := by
  unfold State.pickUpExpires; dsimp only
  split
  · have hput : (s.putTrack a { s.track a with filter := .clear, timer := none, flickers := 0 }).LocksKept True :=
      h.lockless (by simp [Machine.lockless])
    split
    · exact hput
    · exact ((hput.lockless (u := State.emit ..) (by simp [Machine.lockless])).becomesClear a).settle
  · exact h

theorem State.LocksKept.trackRestore (a : Nat) (h : s.LocksKept True) : (s.trackRestore a).2.2.LocksKept True := by
  by_cases hf : (s.track a).filter = .clear
  · obtain ⟨x, hx⟩ := State.trackRestore_clear hf
    have hset : ((s.setRestored a).emit .trackRestored a x).LocksKept True :=
      h.lockless (by simp [State.setRestored, Machine.lockless])
    rw [hx]; dsimp only
    split
    · exact (hset.becomesClear a).settle
    · exact hset
  · rw [State.trackRestore_refused hf]
    exact h

/-- The head grace of a record does nothing, or the record is lost (R159). -/
theorem State.graceExpires_cases (r : Nat) (s : State) :
    s.graceExpires r = s ∨ ∃ a, s.graceExpires r = (s.recordLost r a).settle := by
  cases hh : (s.record r).head with
  | none => left; simp [State.graceExpires, hh]
  | some a =>
    cases hd : due (s.record r).grace s.now with
    | false => left; simp [State.graceExpires, hh, hd]
    | true =>
      obtain ⟨e, he, hle⟩ := (Option.any_eq_true ..).1 hd
      exact .inr ⟨a, State.graceExpires_lost hh he (of_decide_eq_true hle)⟩

theorem State.NoNewHold.recordLost (r a : Nat) (h : s.NoNewHold t) : s.NoNewHold (t.recordLost r a) :=
  .emit _ _ _ (.foldl (fun _ n hv => hv.suspectRequest n) (h.outside (State.lostRaise_outside r a t) (by decide)))

theorem State.LocksKept.graceExpires (r : Nat) (h : s.LocksKept True) : (s.graceExpires r).LocksKept True := by
  rcases s.graceExpires_cases r with e | ⟨a, e⟩ <;> rw [e]
  · exact h
  · exact (h.frame (State.recordLost_outside r a s) (by decide) ((State.NoNewHold.refl s).recordLost r a)).settle

theorem State.LocksKept.stabilityExpires (x : Nat) (h : s.LocksKept True) : (s.stabilityExpires x).LocksKept True := by
  unfold State.stabilityExpires; dsimp only
  repeat' split
  · exact (h.lockless (u := State.repeaterTransition ..) (by simp [Machine.lockless])).settle
  · exact h.lockless (by simp [Machine.lockless])
  · exact h

theorem State.LocksKept.countdownExpires (n : Nat) (h : s.LocksKept True) : (s.countdownExpires n).LocksKept True := by
  unfold State.countdownExpires
  split
  · exact h
  · split
    · exact h.frame (ps := [.holds, .emitted]) (by simp) (by decide) (.emit _ _ _ (.putHold _ (.refl s)))
    · exact h

theorem State.LocksKept.readyLapses (n : Nat) (h : s.LocksKept True) : (s.readyLapses n).LocksKept True := by
  unfold State.readyLapses
  split
  · exact h
  · next k _ =>
    split
    · have hraise := ((State.NoNewHold.refl s).putHold k.backToPrior).outside (State.raise_outside .releaseLapsed n _) (by decide)
      refine (h.frame (ps := [.holds, .alerts, .sounder, .emitted]) (by simp) (by decide) ?_).settle
      exact .testRelease n (.emit _ _ _ hraise)
    · exact h

end Sys2Proof.Machine

namespace Sys2Proof.Machine

variable {ps : List Part} {s t u v : State} {settled : Prop}

/-! ### Requests, modes and resets (R43, R44, R45, R67, R197, R199) -/

/-- HOLD de-energizes every lever in TRAVEL (R43). -/
theorem State.leversOnHold_lever (s : State) (n : Nat) : s.leversOnHold.lever n =
    if (s.lever n).phase = .travel then (s.lever n).unlocked else s.lever n := by
  have h := Tab.get_mapAll (fun l : Lever => if l.phase = .travel then l.unlocked else l) s.levers {} n
  exact h

/-- The part enters HELD by HOLD with its store loaded and *held* sent, and the levers in TRAVEL lose their lock: what
HOLD does before the examination. -/
def State.heldBegun (s : State) : State :=
  (((s.putControl { s.control with mode := .held .hold }).putStore s.store.loaded).emit .modeHeld 0 []).leversOnHold

theorem State.holdPart_running (h : s.control.mode = .running) : s.holdPart = (.ok, [], s.heldBegun.settle.holdsOnHold) := by
  unfold State.holdPart; rw [if_pos h]; rfl

theorem State.holdPart_refused (h : s.control.mode ≠ .running) : s.holdPart = (.refusedState, [], s) := if_neg h

theorem State.heldBegun_lever (s : State) (n : Nat) : s.heldBegun.lever n =
    if (s.lever n).phase = .travel then (s.lever n).unlocked else s.lever n :=
  State.leversOnHold_lever ..

theorem State.LocksKept.heldBegun (h : s.LocksKept True) :
    s.heldBegun.LocksKept False := fun n hn => by
  obtain ⟨hlock, hfree, -, hidle⟩ := h n hn
  have hmode : s.heldBegun.control.mode = .held .hold := rfl
  have hidle' (p : LeverPhase) (hp : p = (s.lever n).phase) : s.heldBegun.control.mode = .start ∨ p ≠ .travel →
      (s.lever n).origin = .none ∧ (s.lever n).timer = .stopped := by
    subst hp
    rw [hmode]
    exact fun e => hidle (e.imp_left fun e => nomatch e)
  rw [State.heldBegun_lever]
  split
  · next hp => exact ⟨nofun, fun e => absurd hp (LeverPhase.caught_facts e).2.2,
      fun _ => ⟨by rw [hmode]; decide, .inr hp⟩, hidle' _ rfl⟩
  · next hp =>
    have hgrant := (h n hn).grant
    refine ⟨fun e => .inl ((hlock e).resolve_right fun k => hp k.1),
      fun e => ⟨(hfree e).1, (hfree e).2.1, False.elim⟩, fun e => ⟨by rw [hmode]; decide, (hgrant e).2⟩, hidle' _ rfl⟩

theorem State.LocksKept.holdPart (h : s.LocksKept True) : s.holdPart.2.2.LocksKept True := by
  by_cases hm : s.control.mode = .running
  · rw [State.holdPart_running hm]
    exact h.heldBegun.settle.frame (State.holdsOnHold_outside _) (by decide) (State.NoNewHold.refl _).holdsOnHold
  · rw [State.holdPart_refused hm]; exact h

/-- In HELD no lever is unlocked, and so none is released. -/
theorem State.LocksKept.held {n : Nat} (h : s.LocksKept True) (hm : s.control.mode ≠ .running) (hn : n ∈ Tab.numbers 24) :
    (s.lever n).solenoid = false ∧ (s.lever n).phase.isFree = false := by
  obtain ⟨hlock, hfree, -, -⟩ := h n hn
  have hnot : (s.lever n).phase.isFree = false := Bool.eq_false_iff.2 fun e => hm ((hfree e).2.2 trivial).running
  refine ⟨Bool.eq_false_iff.2 fun e => ?_, hnot⟩
  rcases hlock e with hf | hp
  · simp [hnot] at hf
  · exact hm hp.2.running

/-- RUNNING entered again, before the examination (R199). -/
def State.resumedBegun (s : State) : State := (s.putControl { s.control with mode := .running }).emit .modeResumed 0 []

theorem State.LocksKept.resumedBegun (h : s.LocksKept True) (hm : s.control.mode ≠ .running) :
    s.resumedBegun.LocksKept True := fun n hn => by
  obtain ⟨hlock, hfree⟩ := h.held hm hn
  obtain ⟨-, -, hgrant, hidle⟩ := h n hn
  have hmode : s.resumedBegun.control.mode = .running := rfl
  refine ⟨fun e => ?_, fun e => ?_, fun e => ⟨by rw [hmode]; decide, (hgrant e).2⟩, fun e => hidle (.inr (e.resolve_left ?_))⟩
  · exact absurd (hlock.symm.trans e) (by decide)
  · exact absurd (hfree.symm.trans e) (by decide)
  · rw [hmode]; decide

theorem State.LocksKept.resumePart (h : s.LocksKept True) : s.resumePart.2.2.LocksKept True := by
  unfold State.resumePart
  split
  · next cause hm =>
    repeat' split
    · exact h
    · exact h
    · unfold State.resumePasses; dsimp only; split
      · exact h.lockless (by simp [Machine.lockless])
      · exact (h.resumedBegun (by simp [hm])).settle
  · exact h

theorem State.LocksKept.timeReleaseStart (n : Nat) (h : s.LocksKept True) : (s.timeReleaseStart n).2.2.LocksKept True := by
  have hn : s.NoNewHold (s.timeReleaseStart n).2.2 := by
    unfold State.timeReleaseStart
    repeat' split
    case h_1.isTrue => exact .emit _ _ _ (.putHold _ (.refl s))
    all_goals exact .refl s
  exact h.frame (State.timeReleaseStart_outside n s) (by decide) hn

theorem State.LocksKept.timeReleaseConfirm (n : Nat) (h : s.LocksKept True) :
    (s.timeReleaseConfirm n).2.2.LocksKept True := by
  unfold State.timeReleaseConfirm
  repeat' split
  case h_2.isTrue =>
    exact (h.frame (ps := [.holds, .counters, .emitted]) (by simp) (by decide)
      (((State.NoNewHold.refl s).removeHold n .timeRelease).outside (State.count_outside _ _) (by decide))).settle
  all_goals exact h

theorem State.LocksKept.timeReleaseCancel (n : Nat) (h : s.LocksKept True) :
    (s.timeReleaseCancel n).2.2.LocksKept True := by
  unfold State.timeReleaseCancel
  repeat' split
  case h_2.isTrue k _ _ =>
    exact (h.frame (ps := [.holds, .emitted]) (by simp) (by decide)
      (((State.NoNewHold.refl s).cancelTimeRelease k .signalman).testRelease n)).settle
  all_goals exact h

theorem State.LocksKept.switchOut (h : s.LocksKept True) : s.switchOut.2.2.LocksKept True := by
  unfold State.switchOut
  repeat' split
  case h_2 => exact (h.lockless ((State.doSwitchOut_outside s).mono (by simp [Machine.lockless]))).settle
  all_goals exact h

theorem State.LocksKept.switchIn (h : s.LocksKept True) : s.switchIn.2.2.LocksKept True := by
  unfold State.switchIn
  repeat' split
  case h_2 => exact (h.lockless ((State.doSwitchIn_outside s).mono (by simp [Machine.lockless]))).settle
  all_goals exact h

theorem State.LocksKept.clearSticky (n : Nat) (h : s.LocksKept True) : (s.clearSticky n).2.2.LocksKept True := by
  have all (l : List Nat) (v : State) (hv : v.LocksKept True) : (l.foldl State.clearMark v).LocksKept True := by
    induction l generalizing v with
    | nil => exact hv
    | cons k l ih => exact ih _ (hv.clearMark k)
  unfold State.clearSticky
  split
  · dsimp only; exact all (Tab.numbers 24) s h
  · split
    · exact h
    · exact h.clearMark n

theorem State.LocksKept.own (r : Request) (h : s.LocksKept True) : (s.own r).2.2.LocksKept True := by
  cases r with
  | timeReleaseStart a => exact h.timeReleaseStart _
  | timeReleaseConfirm a => exact h.timeReleaseConfirm _
  | timeReleaseCancel a => exact h.timeReleaseCancel _
  | switchOut => exact h.switchOut
  | switchIn => exact h.switchIn
  | hold => exact h.holdPart
  | resume => exact h.resumePart
  | trackRestore a => exact h.trackRestore _
  | clearSticky a => exact h.clearSticky _
  | writeConfig b =>
    have hf := State.writeConfig_outside b s
    exact h.of_eq (hf .levers (by decide)) (hf.mode_eq (by decide)) (s.writeConfig_conf b)
      ((State.NoNewHold.refl s).outside hf (by decide))
  | _ =>
    refine h.lockless ?_
    simp only [State.own, State.readOut]
    try split
    all_goals simp [Machine.lockless]

theorem servesLocks : Serves (fun s => s.LocksKept True) fun s => s.LocksKept True where
  weaker _ h := h
  link _ _ h := h.lockless (by simp [Machine.lockless])
  reply _ _ h := h.lockless (by simp [Machine.lockless])
  own r _ h := h.own r

/-- Levers as a reset leaves them, with no lock and no travel, have nothing to keep. -/
theorem State.locksKept_of_fresh (h : ∀ n ∈ Tab.numbers 24, (u.lever n).solenoid = false ∧ (u.lever n).grant = none ∧
    (u.lever n).phase.isFree = false ∧ ((u.lever n).phase ≠ .travel → (u.lever n).timer = .stopped) ∧
    (u.control.mode = .start → (u.lever n).timer = .stopped) ∧ (u.lever n).origin = .none) : u.LocksKept True :=
  fun n hn => by
    obtain ⟨hs, hg, hf, ht, hstart, ho⟩ := h n hn
    exact ⟨fun e => by simp [hs] at e, fun e => by simp [hf] at e, fun e => by simp [hg] at e,
      fun e => ⟨ho, e.elim hstart ht⟩⟩

theorem State.resetLevers_lever (b : Bool) (s : State) {n : Nat} (hn : n ∈ Tab.numbers 24) :
    (s.resetLevers b).lever n = { phase := (s.leverInputs n).phase, faultMark := b && (s.lever n).faultMark } :=
  Tab.get_build _ _ (Tab.mem_numbers.1 hn).1 (Tab.mem_numbers.1 hn).2

theorem State.warmRestart_locksKept (c : ResetCause) (old : Conf) (s : State) : (s.warmRestart c old).LocksKept True :=
  State.locksKept_of_fresh fun n hn => by
    rw [show (s.warmRestart c old).lever n = ((s.resetTracks true).resetLevers true).lever n from rfl,
      State.resetLevers_lever _ _ hn]
    exact ⟨rfl, rfl, LeverInputs.phase_not_free _, fun _ => rfl, fun _ => rfl, rfl⟩

theorem State.powerUp_locksKept (s : State) : s.powerUp.LocksKept True :=
  State.locksKept_of_fresh fun n hn => by
    rw [State.powerUp_lever s hn]
    exact ⟨rfl, rfl, LeverInputs.phase_not_free _, fun _ => rfl, fun _ => rfl, rfl⟩

theorem State.powerLost_locksKept (cut : Option CounterCut) (s : State) : (s.powerLost cut).LocksKept True :=
  State.locksKept_of_fresh fun n _ => by
    rw [show (s.powerLost cut).lever n = State.reset.lever n from rfl, State.reset_lever]
    exact ⟨rfl, rfl, rfl, fun _ => rfl, fun _ => rfl, rfl⟩

/-- The levers begin with no lock, and those in TRAVEL with their timer running (R45). -/
theorem State.LocksKept.begun {n : Nat} (h : s.LocksKept True) (hm : s.control.mode = .start) (hn : n ∈ Tab.numbers 24)
    (hl : v.lever n = s.lever n) (hu : v.leversStart.Unlocks u) :
    (u.lever n).solenoid = false ∧ (u.lever n).grant = none ∧ (u.lever n).phase.isFree = false ∧
      ((u.lever n).phase ≠ .travel → (u.lever n).timer = .stopped) ∧ (u.lever n).origin = .none := by
  obtain ⟨hs, hg, hf, ho, -⟩ := h.start hm hn
  have hstarted : v.leversStart.lever n = v.leverStarted n := by rw [State.leversStart_lever, if_pos hn]
  rcases hu n with e | ⟨-, e⟩ <;> rw [e, hstarted, State.leverStarted, hl]
  · exact ⟨hs, hg, hf, fun hp => if_neg hp, ho⟩
  · exact ⟨rfl, hg, hf, fun hp => if_neg hp, ho⟩

theorem State.LocksKept.intervalEnds (h : s.LocksKept True) (hm : s.control.mode = .start) :
    s.intervalEnds.LocksKept True := by
  have finish {m : Mode} (hmode : m ≠ .start) (hu : (s.entered m).unitsStart.control.mode = m)
      (hunits : ∃ v : State, (∀ n, v.lever n = s.lever n) ∧ v.leversStart.Unlocks (s.entered m).unitsStart) :
      ((s.entered m).unitsStart.settle.startedFirst).LocksKept True := by
    obtain ⟨v, hv, hunlocks⟩ := hunits
    refine (State.locksKept_of_fresh fun n hn => ?_).settle.outside (State.startedFirst_outside _) (by decide)
    obtain ⟨hs, hg, hf, ht, ho⟩ := h.begun hm hn (hv n) hunlocks
    exact ⟨hs, hg, hf, ht, fun e => absurd (hu.symm.trans e) hmode, ho⟩
  have hmode (m : Mode) : (s.entered m).unitsStart.control.mode = m :=
    (State.unitsStart_outside (s.entered m)).mode_eq (by decide)
  cases hg : s.store.checkGood with
  | true =>
    rw [State.intervalEnds_running hg]
    refine finish (by decide) (hmode _) ⟨(s.entered .running).tracksStart.switchingStarts, fun n => ?_, ?_⟩
    · have hf : Outside [.tracks, .box, .set, .sections, .emitted] (s.entered .running)
          (s.entered .running).tracksStart.switchingStarts := by simp
      exact State.lever_of_outside hf (by decide) n
    · rw [State.unitsStart_begins rfl]
      exact State.unitsBegin_unlocks _
  | false =>
    rw [State.intervalEnds_invalid hg]
    refine finish (by decide) (hmode _) ⟨s.entered (.held .invalid), fun n => rfl, ?_⟩
    rw [State.unitsStart_invalid rfl]
    exact .of_outside (State.panelStarts_outside _) (by decide)

/-! ### Every step keeps the locks -/

theorem EventOf.keepsLocks {f : State → State} (hf : EventOf f) (h : s.LocksKept True) : (f s).LocksKept True := by
  cases hf with
  | aside hf => exact h.lockless ((hf s).mono (by simp [asideParts, Machine.lockless]))
  | relayDrops a => exact h.relayDrops a
  | pickUpExpires a => exact h.pickUpExpires a
  | graceExpires r => exact h.graceExpires r
  | catchLifts n => exact h.catchLifts n
  | catchLowers n => exact h.catchLowers n
  | detectorOpens n => exact h.detectorOpens n
  | detectorMakes n => exact h.detectorMakes n
  | travelExpires n => exact h.travelExpires n
  | countdownExpires n => exact h.countdownExpires n
  | readyLapses n => exact h.readyLapses n
  | stabilityExpires x => exact h.stabilityExpires x
  | intervalEnds =>
    dsimp only; split
    · next ho => exact h.intervalEnds (by simp_all [State.intervalOver])
    · exact h
  | resetLineReset => exact State.warmRestart_locksKept _ _ _
  | resetLineReleased =>
    unfold State.resetLineReleased; split
    · exact h.of_eq rfl rfl rfl (.refl s)
    · exact h
  | restartReset =>
    unfold State.restartReset; split
    · exact State.warmRestart_locksKept _ _ _
    · exact h
  | storeWriteEnds =>
    unfold State.storeWriteEnds; split
    · exact State.warmRestart_locksKept _ _ _
    · exact h
  | submit tag r => exact servesLocks.submit tag r h
  | byteArrives b e => exact servesLocks.byteArrives b e h
  | frameGoes => exact servesLocks.frameGoes h
  | _ => exact h.lockless (by simp [Machine.lockless])

theorem keepsLocks : Keeps (fun s => s.LocksKept True) fun s => s.LocksKept True where
  moves _ _ _ _ h := h.of_eq rfl rfl rfl (.refl _)
  stays _ h := h
  event _ hf _ h := hf.keepsLocks h
  close _ h := h.lockless ((State.close_outside _).mono (by simp [Machine.lockless]))
  powersUp s _ := s.powerUp_locksKept
  restores s _ := (s.powerLost none).powerUp_locksKept
  powerLost cut s _ := s.powerLost_locksKept cut

/-- Settles O5: every event that can change what a lock rests on ends in an examination, or leaves the released levers and
the holds as they were. -/
theorem stepKeepsLocksSafe : Obligations.StepKeepsLocksSafe := fun _ _ hs hu =>
  State.locksSafe_iff.2 (keepsLocks.step (State.locksSafe_iff.1 hs) hu)

end Sys2Proof.Machine

namespace Sys2Proof.Machine

variable {ps : List Part} {s t u v : State}

/-! ### Recognizers (R99 to R103) -/

/-- A recognizer returned to IDLE is kept (R99). -/
theorem Recognizer.Kept.toIdle (r : Recognizer) : r.toIdle.Kept := ⟨rfl, rfl, rfl, rfl, rfl, rfl⟩

/-- A clamped beat lies within its bounds (R101). -/
theorem nextBeat_bounds (b g : Nat) : 80 ≤ nextBeat b g ∧ nextBeat b g ≤ 800 := by
  unfold nextBeat; omega

theorem Recognizer.Kept.firstStroke (r : Recognizer) {b : Nat} (t : Nat) (hb : 80 ≤ b ∧ b ≤ 800) :
    (r.firstStroke b t).Kept :=
  ⟨le_rfl, show 1 ≤ 6 by decide, fun g hg => (List.mem_singleton.1 hg).ge, rfl, show 1 ≤ 24 by decide, hb.1, hb.2, rfl, rfl, rfl, rfl, nofun⟩

theorem growLast_facts {l : List Nat} (hl : l ≠ []) (hpos : ∀ g ∈ l, 1 ≤ g) :
    (growLast l).length = l.length ∧ (growLast l).sum = l.sum + 1 ∧ ∀ g ∈ growLast l, 1 ≤ g := by
  induction l with
  | nil => exact absurd rfl hl
  | cons a l ih =>
    cases l with
    | nil => simp [growLast]
    | cons b l =>
      obtain ⟨hlength, hsum, hmem⟩ := ih (by simp) fun g hg => hpos g (List.mem_cons_of_mem _ hg)
      refine ⟨by simp [growLast, hlength], by simp only [growLast, List.sum_cons, hsum]; omega, fun g hg => ?_⟩
      rcases List.mem_cons.1 hg with rfl | hg
      · exact hpos _ (List.mem_cons_self ..)
      · exact hmem g hg

theorem Recognizer.limit_none {r : Recognizer} {t : Nat} (h : r.limit t = none) :
    r.strokes < 24 ∧ (isPause r.beat (r.gap t) = true → r.groups.length < 6) := by
  unfold Recognizer.limit at h
  split at h
  · cases h
  · next hs =>
    split at h
    · cases h
    · next hp => exact ⟨by omega, fun e => by simp only [e, Bool.true_and, decide_eq_true_eq] at hp; omega⟩

/-- A later stroke joins the code, or begins the swallowing of it (R101, R103). -/
theorem Recognizer.Kept.laterStroke {r : Recognizer} (h : r.Kept) (hp : r.phase = .assembling) (t : Nat) :
    (r.laterStroke t).Kept := by
  rw [Recognizer.Kept, hp] at h
  obtain ⟨hsome, hsix, hpos, hsum, hstrokes, hlow, hhigh, hgap, hfirst, -, hreason, -⟩ := h
  have hcount : satAdd 255 r.strokes = r.strokes + 1 := if_pos (by omega)
  unfold Recognizer.laterStroke
  split
  · next reason _ =>
    exact ⟨hsome, hsix, hpos, hsum.trans_le hstrokes, by dsimp only; omega, by dsimp only; omega, hlow, hhigh, hgap, hfirst,
      rfl, rfl, nofun⟩
  · next hlimit =>
    obtain ⟨hmore, hlength⟩ := Recognizer.limit_none hlimit
    have hne : r.groups ≠ [] := List.length_pos_iff.1 hsome
    rw [Recognizer.Kept, show (_ : Recognizer).phase = r.phase from rfl, hp]
    dsimp only
    cases hpause : isPause r.beat (r.gap t) with
    | true =>
      refine ⟨by simp, by simpa using hlength hpause, fun g hg => ?_, by simp [hsum, hcount], by omega, hlow, hhigh, rfl,
        hfirst, rfl, hreason, nofun⟩
      rcases List.mem_append.1 hg with hg | hg
      · exact hpos g hg
      · simp_all
    | false =>
      obtain ⟨hlength', hsum', hpos'⟩ := growLast_facts hne hpos
      obtain ⟨hlow', hhigh'⟩ := nextBeat_bounds r.beat (r.gap t)
      exact ⟨by simp [hlength', hsome], by simp [hlength', hsix], by simpa using hpos', by simp [hsum', hsum, hcount],
        by omega, hlow', hhigh', rfl, hfirst, rfl, hreason, nofun⟩

theorem Recognizer.Kept.swallow {r : Recognizer} (h : r.Kept) (hp : r.phase = .swallowing) (t : Nat) :
    (r.swallow t).Kept := by
  rw [Recognizer.Kept, hp] at h
  obtain ⟨hsome, hsix, hpos, hsum, hless, hmost, hlow, hhigh, hgap, hfirst, -, hreason, -⟩ := h
  have hcount : r.strokes ≤ satAdd 255 r.strokes ∧ satAdd 255 r.strokes ≤ 255 := by
    unfold satAdd; split <;> omega
  rw [Recognizer.Kept, show (r.swallow t).phase = r.phase from rfl, hp]
  exact ⟨hsome, hsix, hpos, hsum, hless.trans_le hcount.1, hcount.2, hlow, hhigh, hgap, hfirst, rfl, hreason, nofun⟩

/-- A stroke handed to a kept recognizer under a beat that fits keeps it (R100, R101, R103). -/
theorem Recognizer.Kept.stroke {r : Recognizer} (h : r.Kept) {b : Nat} (t : Nat) (hb : 80 ≤ b ∧ b ≤ 800) :
    (r.stroke b t).Kept := by
  unfold Recognizer.stroke
  split
  · exact .firstStroke r t hb
  · next hp => exact h.laterStroke hp t
  · next hp => exact h.swallow hp t

/-- An end-gap expiry that waits for a pulse under test (R102). -/
theorem Recognizer.Kept.waits {r : Recognizer} (h : r.Kept) (hp : r.phase ≠ .idle) :
    ({ r with gapTimer := .waiting } : Recognizer).Kept := by
  unfold Recognizer.Kept at h ⊢
  dsimp only at h ⊢
  cases hphase : r.phase with
  | idle => exact absurd hphase hp
  | assembling =>
    rw [hphase] at h
    obtain ⟨hsome, hsix, hpos, hsum, hstrokes, hlow, hhigh, hgap, hfirst, hlast, hreason, -⟩ := h
    exact ⟨hsome, hsix, hpos, hsum, hstrokes, hlow, hhigh, hgap, hfirst, hlast, hreason, nofun⟩
  | swallowing =>
    rw [hphase] at h
    obtain ⟨hsome, hsix, hpos, hsum, hless, hmost, hlow, hhigh, hgap, hfirst, hlast, hreason, -⟩ := h
    exact ⟨hsome, hsix, hpos, hsum, hless, hmost, hlow, hhigh, hgap, hfirst, hlast, hreason, nofun⟩

/-! ### The configured beats (R95, R198, R199) -/

/-- The beats of a line lie within the bounds of a beat reference. -/
def LineBeatsFit (c : LineConf) : Prop :=
  80 ≤ c.receiveBeat ∧ c.receiveBeat ≤ 800 ∧ 80 ≤ c.sendBeat ∧ c.sendBeat ≤ 800

theorem pDuration_bounds {lo hi k v : Nat} {b rest : List Byte} (h : pDuration lo hi k b = some (v, rest)) :
    lo ≤ v ∧ v ≤ hi := by
  unfold pDuration at h
  simp only [Option.bind_eq_bind, Option.bind_eq_some_iff] at h
  obtain ⟨⟨w, r⟩, -, h⟩ := h
  split at h
  · next hw => cases h; exact ⟨hw.1, hw.2.1⟩
  · cases h

theorem pLineConf_beatsFit {c : LineConf} {b rest : List Byte} (h : pLineConf b = some (c, rest)) : LineBeatsFit c := by
  unfold pLineConf at h
  simp only [Option.bind_eq_bind, Option.bind_eq_some_iff] at h
  obtain ⟨⟨_, _⟩, -, ⟨receive, _⟩, hr, ⟨send, _⟩, hs, ⟨_, _⟩, -, ⟨_, _⟩, -, ⟨_, _⟩, -, h⟩ := h
  cases h
  obtain ⟨hr1, hr2⟩ := pDuration_bounds hr
  obtain ⟨hs1, hs2⟩ := pDuration_bounds hs
  exact ⟨by dsimp only; omega, by dsimp only; omega, by dsimp only; omega, by dsimp only; omega⟩

theorem pWhole_eq_some {α : Type} {p : Parse α} {b : List Byte} {v : α} (h : pWhole p b = some v) : p b = some (v, []) := by
  unfold pWhole at h
  split at h
  · next hp => cases h; exact hp
  · cases h

/-- A configuration with the lines of one that fits. -/
theorem BeatsFit.of_lines {c d : Conf} (h : BeatsFit c) (hl : d.lines = c.lines) : BeatsFit d := fun l hmem => by
  rw [show d.line l = c.line l from congrArg (fun k : Tab 3 LineConf => k.get {} l) hl]
  exact h l hmem

theorem BeatsFit.writeBody {c d : Conf} (h : BeatsFit c) {b : List Byte} (hw : writeBody c b = some d) : BeatsFit d := by
  unfold Machine.writeBody at hw
  split at hw
  · unfold writeItem at hw
    split at hw
    · split at hw
      case h_6 =>
        obtain ⟨k, hk, rfl⟩ := Option.map_eq_some_iff.1 hw
        have hfit := pLineConf_beatsFit (pWhole_eq_some hk)
        intro l hl
        unfold Conf.line
        dsimp only
        rw [Tab.get_put]
        split
        · exact hfit
        · exact h l hl
      case h_12 => cases hw
      all_goals
        obtain ⟨k, -, rfl⟩ := Option.map_eq_some_iff.1 hw
        exact h.of_lines rfl
    · cases hw
  · cases hw

theorem BeatsFit.cutItems {c d : Conf} (hc : BeatsFit c) (hd : BeatsFit d) (n : Nat) : BeatsFit (cutItems n c d) :=
  fun l hl => by
    obtain ⟨h1, h3⟩ := Tab.mem_numbers.1 hl
    have hline : (Machine.cutItems n c d).line l = if Config.cutItemIsNew n 5 l then d.line l else c.line l :=
      Tab.get_build _ _ h1 h3
    rw [hline]
    split
    · exact hd l hl
    · exact hc l hl

/-! ### The box switched out and in, step by step (R166, R171) -/

/-- The box state becomes SWITCHED_OUT, and the set B (R42). -/
def State.boxOut (s : State) : State := (s.putControl { s.control with box := .switchedOut }).putSet .b

/-- The accepting sections of the pair move to THROUGH. -/
def State.outSections (s : State) : State := s.pairAccepting.foldl State.toThrough s

/-- The through relay turns on, with no code pending. -/
def State.relayBegins (s : State) : State := s.putControl { s.control with relayOn := true, through := none }

/-- The lines of the pair have nothing outstanding and nothing owed. -/
def State.outLines (s : State) : State := s.pairLines.foldl State.lineSwitchesOut s

theorem State.doSwitchOut_eq (s : State) : s.doSwitchOut = (s.boxOut.outSections.relayBegins.outLines).emit .modeSwitchedOut 0
    (b1 s.boxOut.outSections.relayBegins.outLines.control.box.ord ++ modeCause false) := rfl

/-- The box state becomes OPEN, and the set A (R42). -/
def State.boxIn (s : State) : State := (s.putControl { s.control with box := .opened }).putSet .a

/-- The through relay turns off, with no code pending. -/
def State.relayEnds (s : State) : State := s.putControl { s.control with relayOn := false, through := none }

/-- The relayed strokes of the pair are cut. -/
def State.inLines (s : State) : State := s.pairLines.foldl State.cutRelay s

/-- The accepting sections of the pair move to LB. -/
def State.inSections (s : State) : State := s.pairAccepting.foldl State.fromThrough s

theorem State.doSwitchIn_eq (s : State) : s.doSwitchIn = (s.boxIn.relayEnds.inLines.inSections).emit .modeSwitchedIn 0
    (b1 s.boxIn.relayEnds.inLines.inSections.control.box.ord ++ modeCause false) := rfl

/-! ### What keeps the recognizers -/

theorem State.bell_of_bells {l : Nat} (h : u.bells = s.bells) : u.bell l = s.bell l :=
  congrArg (fun b : Tab 3 Bell => b.get {} l) h

/-- Both recognizers of every line are the same. -/
def State.SameEars (s u : State) : Prop := ∀ l, (u.bell l).rx = (s.bell l).rx ∧ (u.bell l).man = (s.bell l).man

theorem State.SameEars.outside (k : Outside ps t u) (hp : .bells ∉ ps) (h : s.SameEars t) : s.SameEars u := fun l => by
  rw [State.bell_of_bells (k .bells hp)]
  exact h l

theorem State.SameEars.of_bells (h : s.SameEars t) (e : u.bells = t.bells) : s.SameEars u := fun l => by
  rw [State.bell_of_bells e]
  exact h l

theorem State.SameEars.refl (s : State) : s.SameEars s := fun _ => ⟨rfl, rfl⟩

/-- A line is replaced by one with the same recognizers. -/
theorem State.SameEars.putBell {l : Nat} {b : Bell} (h : s.SameEars t) (hr : b.rx = (t.bell l).rx)
    (hm : b.man = (t.bell l).man) : s.SameEars (t.putBell l b) := fun j => by
  rw [State.bell_putBell]
  split
  · next e => obtain ⟨rfl, -⟩ := e; exact ⟨hr.trans (h j).1, hm.trans (h j).2⟩
  · exact h j

theorem State.SameEars.foldl {α : Type} {f : State → α → State} (hf : ∀ v a, s.SameEars v → s.SameEars (f v a))
    {l : List α} (h : s.SameEars t) : s.SameEars (l.foldl f t) := by
  induction l generalizing t with
  | nil => exact h
  | cons a l ih => exact ih (hf t a h)

theorem State.RecognizersKept.of_eq (h : s.RecognizersKept) (hears : s.SameEars u)
    (hc : u.store.inForce = s.store.inForce) (hw : u.store.working = s.store.working) : u.RecognizersKept := by
  obtain ⟨hin, hwork, hbells⟩ := h
  refine ⟨hc ▸ hin, hw ▸ hwork, fun l hl => ?_⟩
  rw [(hears l).1, (hears l).2]
  exact hbells l hl

theorem State.RecognizersKept.ears (k : Outside ps s u) (hp : .configuration ∉ ps) (hears : s.SameEars u)
    (h : s.RecognizersKept) : u.RecognizersKept :=
  h.of_eq hears (k .configuration hp).1 (k .configuration hp).2.2.1

theorem State.RecognizersKept.outside (k : Outside ps s u) (hp : .bells ∉ ps ∧ .configuration ∉ ps)
    (h : s.RecognizersKept) : u.RecognizersKept :=
  h.ears k hp.2 ((State.SameEars.refl s).outside k hp.1)

/-- A recognizer is replaced by one that is kept. -/
theorem State.RecognizersKept.putRecognizer {l : Nat} {ear : Ear} {r : Recognizer} (h : s.RecognizersKept)
    (hr : l ∈ Tab.numbers 3 → (s.recognizer l ear).Kept → r.Kept) : (s.putRecognizer l ear r).RecognizersKept := by
  obtain ⟨hin, hwork, hbells⟩ := h
  refine ⟨hin, hwork, fun j hj => ?_⟩
  unfold State.putRecognizer
  rw [State.bell_putBell]
  split
  · next e =>
    obtain ⟨rfl, -⟩ := e
    cases ear with
    | receive => exact ⟨hr hj (hbells j hj).1, (hbells j hj).2⟩
    | manual => exact ⟨(hbells j hj).1, hr hj (hbells j hj).2⟩
  · exact hbells j hj

/-- The nominal beat of a recognizer lies within the bounds of a beat reference (R95, R100). -/
theorem State.RecognizersKept.nominalBeat (h : s.RecognizersKept) {l : Nat} (hl : l ∈ Tab.numbers 3) (ear : Ear) :
    80 ≤ s.nominalBeat l ear ∧ s.nominalBeat l ear ≤ 800 := by
  obtain ⟨hr1, hr2, hs1, hs2⟩ := h.1 l hl
  cases ear with
  | receive => exact ⟨hr1, hr2⟩
  | manual => exact ⟨hs1, hs2⟩

/-! ### The events of the bells -/

theorem State.SameEars.exchanged (l : Nat) (c : Code) (b : Bool) (h : s.SameEars t) : s.SameEars (t.exchanged l c b) :=
  h.putBell rfl rfl

theorem State.SameEars.giveRepetition (l : Nat) (c : Code) (h : s.SameEars t) : s.SameEars (t.giveRepetition l c) :=
  .exchanged l c false (h.putBell rfl rfl)

theorem State.SameEars.takeAcknowledgement (l : Nat) (c : Code) (h : s.SameEars t) :
    s.SameEars (t.takeAcknowledgement l c) := .exchanged l c true (h.putBell rfl rfl)

/-- The outstanding code of a line is written before the notices of it. -/
theorem State.becomeOutstanding_after (l : Nat) (c : Code) (s : State) :
    Outside [.emitted] (s.putBell l { s.bell l with
      outstanding := some ⟨c, s.now, s.now + (s.conf.line l).repetitionTimeout⟩ }) (s.becomeOutstanding l c) := by
  unfold State.becomeOutstanding; dsimp only
  repeat' split
  all_goals simp

/-- The owed code of a line is written before the notices and the alert of it. -/
theorem State.becomeOwed_after (l : Nat) (c : Code) (s : State) :
    Outside [.alerts, .sounder, .emitted] (s.putBell l { s.bell l with
      outstanding := none
      owed := some { code := c, receivedAt := s.now, reminder := s.now + (s.conf.line l).owedReminder } })
      (s.becomeOwed l c) := by
  unfold State.becomeOwed; dsimp only
  repeat' split
  all_goals simp

theorem State.SameEars.becomeOutstanding (l : Nat) (c : Code) (h : s.SameEars t) : s.SameEars (t.becomeOutstanding l c) :=
  .outside (t.becomeOutstanding_after l c) (by decide) (h.putBell rfl rfl)

theorem State.SameEars.becomeOwed (l : Nat) (c : Code) (h : s.SameEars t) : s.SameEars (t.becomeOwed l c) :=
  .outside (t.becomeOwed_after l c) (by decide) (h.putBell rfl rfl)

theorem State.SameEars.throughExchange (l : Nat) (c : Code) (h : s.SameEars t) : s.SameEars (t.throughExchange l c) := by
  unfold State.throughExchange
  split
  · split
    · next p _ _ =>
      exact ((h.exchanged p.line c false).exchanged l c true).of_bells rfl
    · exact h.outside (ps := [.box]) (by simp) (by decide)
  · exact h.outside (ps := [.box]) (by simp) (by decide)

theorem State.SameEars.sentCode (l : Nat) (c : Code) (cls : Nat) (k : Option Nat) (m : Bool) (h : s.SameEars t) :
    s.SameEars (t.sentCode l c cls k m) := by
  unfold State.sentCode; dsimp only
  split
  · exact (h.giveRepetition l c).outside (State.repetitionGiven_outside _ _ _) (by decide)
  · exact (h.becomeOutstanding l c).outside (State.codeEvent_outside _ _ _ _) (by decide)

theorem State.SameEars.manualCode (l : Nat) (k : CodeResult) (h : s.SameEars t) : s.SameEars (t.manualCode l k) := by
  have hemit : s.SameEars (t.emit .bellManual l (t.bResult k)) := h.outside (State.emit_outside _ _ _ _) (by decide)
  unfold State.manualCode; dsimp only
  split
  · exact hemit
  · exact hemit.sentCode _ _ _ _ _

theorem State.SameEars.receivedCode (l : Nat) (k : CodeResult) (h : s.SameEars t) : s.SameEars (t.receivedCode l k) := by
  unfold State.receivedCode; dsimp only
  have hpulses : s.SameEars ((t.emit .bellReceived l (t.bResult k ++ bFlag (t.inRelay l))).startPulses l) :=
    h.outside (ps := [.pulses, .emitted]) (by simp) (by decide)
  repeat' split
  · exact hpulses.throughExchange l _
  · exact (hpulses.takeAcknowledgement l _).outside (State.acknowledged_outside _ _ _) (by decide)
  · exact (hpulses.becomeOwed l _).outside (State.receivedActs_outside _ _ _) (by decide)

theorem State.RecognizersKept.finishCode (l : Nat) (ear : Ear) (h : s.RecognizersKept) :
    (s.finishCode l ear).RecognizersKept := by
  have hidle : (s.putRecognizer l ear { (s.recognizer l ear).toIdle with lastCode := some (s.codeResult l ear) }).RecognizersKept :=
    h.putRecognizer fun _ _ => Recognizer.Kept.toIdle (s.recognizer l ear)
  unfold State.finishCode; dsimp only
  split
  · exact hidle.ears (State.receivedCode_outside _ _ _) (by decide) ((State.SameEars.refl _).receivedCode _ _)
  · exact hidle.ears (State.manualCode_outside _ _ _) (by decide) ((State.SameEars.refl _).manualCode _ _)

theorem State.RecognizersKept.inputOn (l : Nat) (ear : Ear) (h : s.RecognizersKept) : (s.inputOn l ear).RecognizersKept := by
  unfold State.inputOn; dsimp only
  split
  · exact h.putRecognizer fun _ hr => hr
  · exact h

theorem State.RecognizersKept.acceptStroke (l : Nat) (ear : Ear) (e : Time) (h : s.RecognizersKept) :
    (s.acceptStroke l ear e).RecognizersKept := by
  unfold State.acceptStroke; dsimp only
  cases ear with
  | receive =>
    have hput := h.putRecognizer (l := l) (ear := .receive) fun hl hr =>
      Recognizer.Kept.stroke (r := { s.recognizer l .receive with detector := .stroke e, lastStroke := some e }) hr e
        (h.nominalBeat hl .receive)
    dsimp only; split
    · exact hput.ears (State.relayStroke_outside _ _) (by decide) ((State.SameEars.refl _).putBell rfl rfl)
    · exact hput
  | manual =>
    refine h.putRecognizer fun hl hr => ?_
    split
    · exact hr
    · exact Recognizer.Kept.stroke (r := { s.recognizer l .manual with detector := .stroke e, lastStroke := some e }) hr e
        (h.nominalBeat hl .manual)

theorem State.RecognizersKept.testExpires (l : Nat) (ear : Ear) (h : s.RecognizersKept) :
    (s.testExpires l ear).RecognizersKept := by
  unfold State.testExpires
  repeat' split
  · exact h.acceptStroke ..
  · exact h
  · exact h

theorem State.SameEars.relayWidth (l w : Nat) (h : s.SameEars t) : s.SameEars (t.relayWidth l w) := by
  unfold State.relayWidth; split
  · exact h.putBell rfl rfl
  · exact h

theorem State.RecognizersKept.inputOff (l : Nat) (ear : Ear) (h : s.RecognizersKept) : (s.inputOff l ear).RecognizersKept := by
  have htest := h.testExpires l ear
  have hoff (w : Option Nat) : (State.putRecognizer l ear { (s.testExpires l ear).recognizer l ear with
      detector := .off, width := w } (s.testExpires l ear)).RecognizersKept := htest.putRecognizer fun _ hr => hr
  unfold State.inputOff; dsimp only
  split
  · split
    · exact (hoff _).finishCode l ear
    · exact hoff _
  · split
    · exact (hoff _).ears (State.relayWidth_outside _ _ _) (by decide) ((State.SameEars.refl _).relayWidth _ _)
    · exact hoff _
  · exact hoff _
  · exact htest

theorem State.RecognizersKept.endGapExpires (l : Nat) (ear : Ear) (h : s.RecognizersKept) :
    (s.endGapExpires l ear).RecognizersKept := by
  unfold State.endGapExpires; dsimp only
  split
  · split
    · next hp =>
      have hphase : (s.recognizer l ear).phase ≠ .idle := by simp_all
      split
      · split
        · exact h.putRecognizer fun _ hr => hr.waits hphase
        · exact h.finishCode l ear
      · exact h.finishCode l ear
    · exact h
  · exact h

/-- A send is replaced, or the plunger or the relay output of its line: the recognizers stay. -/
theorem State.SameEars.sendCompletes (l : Nat) (k : Send) (h : s.SameEars t) : s.SameEars (t.sendCompletes l k) := by
  unfold State.sendCompletes; dsimp only
  refine State.SameEars.sentCode _ _ _ _ _ (.outside (State.emit_outside _ _ _ _) (by decide) ?_)
  exact h.putBell rfl rfl

theorem State.SameEars.strokeEnds (l : Nat) (h : s.SameEars t) : s.SameEars (t.strokeEnds l) := by
  unfold State.strokeEnds
  repeat' split
  · exact h.putBell rfl rfl
  · exact h.sendCompletes l _
  · exact h
  · exact h

theorem State.SameEars.plungerPressed (l : Nat) (h : s.SameEars t) : s.SameEars (t.plungerPressed l) := by
  have habort {v : State} (hv : s.SameEars v) : s.SameEars (v.abortSend l) := by
    unfold State.abortSend; split
    · exact (hv.putBell (l := l) (b := { v.bell l with send := none }) rfl rfl).of_bells rfl
    · exact hv
  unfold State.plungerPressed; dsimp only
  repeat' split
  · exact h
  · exact h.putBell rfl rfl
  · exact habort (h.putBell rfl rfl)
  · exact h

theorem State.SameEars.deadlineExpires (l : Nat) (h : s.SameEars t) : s.SameEars (t.deadlineExpires l) := by
  unfold State.deadlineExpires
  repeat' split
  · refine .outside (ps := [.alerts, .sounder, .emitted]) ?_ (by decide)
      (h.putBell (l := l) (b := { t.bell l with outstanding := none }) rfl rfl)
    simp
  · exact h
  · exact h

theorem State.SameEars.reminderExpires (l : Nat) (h : s.SameEars t) : s.SameEars (t.reminderExpires l) := by
  unfold State.reminderExpires
  repeat' split
  · next o _ _ =>
    refine .outside (ps := [.alerts, .sounder, .emitted]) ?_ (by decide)
      (h.putBell (l := l) (b := { t.bell l with owed := some { o with expired := true } }) rfl rfl)
    simp
  · exact h
  · exact h

theorem State.SameEars.sendBell (l e : Nat) (k : Option Nat) (h : s.SameEars t) : s.SameEars (t.sendBell l e k).2.2 := by
  unfold State.sendBell; split
  · exact h
  · exact h.putBell rfl rfl

theorem State.SameEars.outLines (h : s.SameEars t) : s.SameEars t.outLines := by
  unfold State.outLines
  refine .foldl (fun v l hv => ?_) h
  unfold State.lineSwitchesOut
  exact hv.putBell rfl rfl

theorem State.SameEars.inLines (h : s.SameEars t) : s.SameEars t.inLines := by
  unfold State.inLines
  refine .foldl (fun v l hv => ?_) h
  unfold State.cutRelay
  exact hv.putBell rfl rfl

theorem State.SameEars.doSwitchOut (h : s.SameEars t) : s.SameEars t.doSwitchOut := by
  have hbefore : Outside [.box, .set, .sections, .emitted] t t.boxOut.outSections.relayBegins := by
    simp [State.boxOut, State.outSections, State.relayBegins]
  rw [State.doSwitchOut_eq]
  exact (h.outside hbefore (by decide)).outLines.outside (State.emit_outside _ _ _ _) (by decide)

theorem State.SameEars.doSwitchIn (h : s.SameEars t) : s.SameEars t.doSwitchIn := by
  have hbefore : Outside [.box, .set] t t.boxIn.relayEnds := by simp [State.boxIn, State.relayEnds]
  have hafter : Outside [.sections, .emitted] t.boxIn.relayEnds.inLines t.boxIn.relayEnds.inLines.inSections := by
    simp [State.inSections]
  rw [State.doSwitchIn_eq]
  exact ((h.outside hbefore (by decide)).inLines.outside hafter (by decide)).outside (State.emit_outside _ _ _ _) (by decide)

/-! ### Requests, modes and resets -/

/-- What a request changes that reaches no bell and no configuration item. -/
def earless : List Part :=
  [.now, .powered, .inputs, .tracks, .levers, .set, .holds, .sections, .register, .alerts, .sounder, .lampTest, .pulses,
    .flasher, .assembler, .requests, .slot, .outbox, .transmitter, .linkCounts, .mode, .after, .box, .clock, .counters,
    .storeFault, .emitted, .choices, .pending]

theorem State.RecognizersKept.earless (k : Outside earless s u) (h : s.RecognizersKept) : u.RecognizersKept :=
  h.outside k (by decide)

theorem State.RecognizersKept.loaded (h : s.RecognizersKept) : (s.putStore s.store.loaded).RecognizersKept :=
  ⟨h.1, h.1, h.2.2⟩

theorem State.RecognizersKept.own (r : Request) (h : s.RecognizersKept) : (s.own r).2.2.RecognizersKept := by
  cases r with
  | sendBell l e k =>
    exact h.ears (State.sendBell_outside _ _ _ _) (by decide) ((State.SameEars.refl s).sendBell _ _ _)
  | switchOut =>
    simp only [State.own, State.switchOut]
    repeat' split
    case h_2 =>
      exact (h.ears (State.doSwitchOut_outside s) (by decide) (State.SameEars.refl s).doSwitchOut).outside
        (State.settle_outside _) (by decide)
    all_goals exact h
  | switchIn =>
    simp only [State.own, State.switchIn]
    repeat' split
    case h_2 =>
      exact (h.ears (State.doSwitchIn_outside s) (by decide) (State.SameEars.refl s).doSwitchIn).outside
        (State.settle_outside _) (by decide)
    all_goals exact h
  | hold =>
    by_cases hm : s.control.mode = .running
    · simp only [State.own, State.holdPart_running hm]
      have hbegun : s.heldBegun.RecognizersKept := ⟨h.1, h.1, h.2.2⟩
      exact hbegun.earless (by simp [Machine.earless])
    · simp only [State.own, State.holdPart_refused hm]
      exact h
  | writeConfig b =>
    simp only [State.own, State.writeConfig]
    repeat' split
    · next c hc => exact ⟨h.1, h.2.1.writeBody hc, h.2.2⟩
    all_goals exact h
  | _ =>
    refine h.earless ?_
    simp only [State.own, State.readOut]
    try split
    all_goals simp [Machine.earless]

theorem servesRecognizers : Serves State.RecognizersKept State.RecognizersKept where
  weaker _ h := h
  link _ _ h := h.earless (by simp [Machine.earless])
  reply _ _ h := h.earless (by simp [Machine.earless])
  own r _ h := h.own r

/-- The bells as a reset leaves them. -/
theorem State.recognizersKept_of_reset (hb : ∀ l, u.bell l = {}) (hc : BeatsFit u.store.inForce)
    (hw : BeatsFit u.store.working) : u.RecognizersKept :=
  ⟨hc, hw, fun l _ => by rw [hb l]; exact ⟨Recognizer.Kept.toIdle {}, Recognizer.Kept.toIdle {}⟩⟩

theorem State.warmRestart_recognizersKept (c : ResetCause) (old : Conf) (hs : BeatsFit s.store.inForce) :
    (s.warmRestart c old).RecognizersKept :=
  State.recognizersKept_of_reset (fun _ => Tab.get_rep ..) hs hs

theorem Store.putCounter_inForce (c : Store) (k : CounterName) (p : PCounter) : (c.putCounter k p).inForce = c.inForce := by
  cases k <;> rfl

/-- A loss of power leaves the items in force, but for a store write that it cuts short (R199). -/
theorem State.powerLost_inForce (cut : Option CounterCut) (s : State) :
    (s.powerLost cut).store.inForce = s.cutStoreWrite.store.inForce := by
  cases cut with
  | none => rfl
  | some c => exact Store.putCounter_inForce ..

theorem State.powerLost_recognizersKept (cut : Option CounterCut) (h : s.RecognizersKept) :
    (s.powerLost cut).RecognizersKept := by
  have hcut : BeatsFit s.cutStoreWrite.store.inForce := by
    unfold State.cutStoreWrite; split
    · exact h.1.cutItems h.2.1 _
    · exact h.1
  have hlost : BeatsFit (s.powerLost cut).store.inForce := by rwa [State.powerLost_inForce]
  exact State.recognizersKept_of_reset State.reset_bell hlost hlost

theorem State.powerUp_recognizersKept (h : s.RecognizersKept) : s.powerUp.RecognizersKept :=
  State.recognizersKept_of_reset State.reset_bell h.1 h.1

theorem State.RecognizersKept.bellsStart (h : s.RecognizersKept) : s.bellsStart.RecognizersKept := by
  have hf := State.bellsStart_outside s
  refine ⟨(hf .configuration (by decide)).1 ▸ h.1, (hf .configuration (by decide)).2.2.1 ▸ h.2.1, fun l hl => ?_⟩
  rw [State.bellsStart_bell s hl]
  exact h.2.2 l hl

theorem State.RecognizersKept.intervalEnds (h : s.RecognizersKept) : s.intervalEnds.RecognizersKept := by
  have finish {v : State} (hv : v.RecognizersKept) : v.settle.startedFirst.RecognizersKept :=
    (hv.outside (State.settle_outside v) (by decide)).outside (State.startedFirst_outside _) (by decide)
  have hentered (m : Mode) : (s.entered m).RecognizersKept := h
  cases hg : s.store.checkGood with
  | true =>
    rw [State.intervalEnds_running hg, State.unitsStart_running rfl]
    refine finish (.outside (State.panelStarts_outside _) (by decide) (.bellsStart ?_))
    exact (hentered .running).earless (by simp [Machine.earless])
  | false =>
    rw [State.intervalEnds_invalid hg, State.unitsStart_invalid rfl]
    exact finish ((hentered (.held .invalid)).earless (by simp [Machine.earless]))

theorem EventOf.keepsRecognizers {f : State → State} (hf : EventOf f) (h : s.RecognizersKept) : (f s).RecognizersKept := by
  cases hf with
  | aside hf => exact h.earless ((hf s).mono (by simp [asideParts, Machine.earless]))
  | inputOn l ear => exact h.inputOn l ear
  | inputOff l ear => exact h.inputOff l ear
  | testExpires l ear => exact h.testExpires l ear
  | endGapExpires l ear => exact h.endGapExpires l ear
  | relayOff l =>
    unfold State.relayOff; repeat' split
    · exact h.ears (State.putBell_outside _ _ _) (by decide) ((State.SameEars.refl s).putBell rfl rfl)
    all_goals exact h
  | strokeStarts l =>
    unfold State.strokeStarts; repeat' split
    · exact h.ears (State.putBell_outside _ _ _) (by decide) ((State.SameEars.refl s).putBell rfl rfl)
    all_goals exact h
  | strokeEnds l => exact h.ears (State.strokeEnds_outside l s) (by decide) ((State.SameEars.refl s).strokeEnds l)
  | plungerPressed l => exact h.ears (State.plungerPressed_outside l s) (by decide) ((State.SameEars.refl s).plungerPressed l)
  | plungerReleased l =>
    unfold State.plungerReleased; dsimp only; split
    · exact h.ears (State.putBell_outside _ _ _) (by decide) ((State.SameEars.refl s).putBell rfl rfl)
    · exact h
  | plungerExpires l =>
    unfold State.plungerExpires; dsimp only; split
    · exact h.ears (State.putBell_outside _ _ _) (by decide) ((State.SameEars.refl s).putBell rfl rfl)
    · exact h
  | deadlineExpires l => exact h.ears (State.deadlineExpires_outside l s) (by decide) ((State.SameEars.refl s).deadlineExpires l)
  | reminderExpires l => exact h.ears (State.reminderExpires_outside l s) (by decide) ((State.SameEars.refl s).reminderExpires l)
  | intervalEnds =>
    dsimp only; split
    · exact h.intervalEnds
    · exact h
  | resetLineReset =>
    refine State.warmRestart_recognizersKept _ _ ?_
    unfold State.cutStoreWrite; split
    · exact h.1.cutItems h.2.1 _
    · exact h.1
  | resetLineReleased =>
    unfold State.resetLineReleased; split
    · exact h
    · exact h
  | restartReset =>
    unfold State.restartReset; split
    · exact State.warmRestart_recognizersKept _ _ h.1
    · exact h
  | storeWriteEnds =>
    unfold State.storeWriteEnds; split
    · exact State.warmRestart_recognizersKept (s := s.putStore { s.store with inForce := s.store.working, checkGood := true }) _ _
        h.2.1
    · exact h
  | submit tag r => exact servesRecognizers.submit tag r h
  | byteArrives b e => exact servesRecognizers.byteArrives b e h
  | frameGoes => exact servesRecognizers.frameGoes h
  | _ => exact h.earless (by simp [Machine.earless])

/-- Every step keeps the recognizers (R95, R99 to R103). -/
theorem keepsRecognizers : Keeps State.RecognizersKept State.RecognizersKept where
  moves _ _ _ _ h := h
  stays _ h := h
  event _ hf _ h := hf.keepsRecognizers h
  close _ h := h.outside (State.close_outside _) (by decide)
  powersUp _ h := State.powerUp_recognizersKept h
  restores _ h := State.powerUp_recognizersKept (State.powerLost_recognizersKept none h)
  powerLost cut _ h := State.powerLost_recognizersKept cut h

end Sys2Proof.Machine

namespace Sys2Proof.Machine

variable {ps : List Part} {s t u v : State}

/-! ### Records come with a code event alone (R132) -/

/-- From `s` to `u` no record joins the open list. -/
def State.NoNewRecord (s u : State) : Prop := u.register.opened ⊆ s.register.opened

theorem State.NoNewRecord.refl (s : State) : s.NoNewRecord s := List.Subset.refl _

theorem State.NoNewRecord.of_eq (h : s.NoNewRecord t) (e : u.register.opened = t.register.opened) : s.NoNewRecord u := by
  unfold State.NoNewRecord
  rw [e]
  exact h

theorem State.NoNewRecord.outside (k : Outside ps t u) (hp : .register ∉ ps) (h : s.NoNewRecord t) : s.NoNewRecord u :=
  h.of_eq (congrArg Register.opened (k .register hp))

theorem State.NoNewRecord.foldl {α : Type} {f : State → α → State} (hf : ∀ v a, s.NoNewRecord v → s.NoNewRecord (f v a))
    {l : List α} (h : s.NoNewRecord t) : s.NoNewRecord (l.foldl f t) := by
  induction l generalizing t with
  | nil => exact h
  | cons a l ih => exact ih (hf t a h)

theorem State.NoNewRecord.complete (r : Nat) (w : Reason) (h : s.NoNewRecord t) : s.NoNewRecord (t.complete r w) :=
  List.Subset.trans (List.filter_sublist (l := t.register.opened)).subset h

theorem State.NoNewRecord.completeIfDone (r : Nat) (h : s.NoNewRecord t) : s.NoNewRecord (t.completeIfDone r) := by
  unfold State.completeIfDone; dsimp only; split
  · exact h.complete r _
  · exact h

theorem State.NoNewRecord.inboundCode (e : CodeEvent) (x : Nat) (m : Meaning) (h : s.NoNewRecord t) :
    s.NoNewRecord (t.inboundCode e x m) := by
  unfold State.inboundCode; dsimp only
  split
  · split <;> exact h
  · split
    · split <;> exact .completeIfDone _ (h.of_eq rfl)
    · exact h
  · split
    · exact .completeIfDone _ (h.of_eq rfl)
    · exact h
  · exact h

theorem State.NoNewRecord.outboundCode (e : CodeEvent) (x : Nat) (m : Meaning) (h : s.NoNewRecord t) :
    s.NoNewRecord (t.outboundCode e x m) := by
  unfold State.outboundCode
  split
  · split <;> exact h
  · split
    · exact .completeIfDone _ (h.of_eq rfl)
    · exact h
  · split
    · exact .completeIfDone _ (h.of_eq rfl)
    · exact h
  · exact h

/-- A code event of a switched out box opens no record (R169). -/
theorem State.codeEvent_noNewRecord (e : CodeEvent) (cls : Nat) (named : Option Nat) (hb : s.control.box = .switchedOut) :
    s.NoNewRecord (s.codeEvent e cls named) := by
  have hlinks : s.NoNewRecord (if e.sent then s.linkOutstanding e.line none
      else (s.linkOutstanding e.line none).linkOwed e.line none) := by split <;> exact .refl s
  have hbox : (if e.sent then s.linkOutstanding e.line none
      else (s.linkOutstanding e.line none).linkOwed e.line none).control.box = .switchedOut := by split <;> exact hb
  unfold State.codeEvent; dsimp only
  split
  · exact hlinks
  · split
    · exact hlinks
    · split
      · exact hlinks
      · split
        · exact hlinks
        · split
          · exact hlinks.inboundCode ..
          · exact hlinks.outboundCode ..

/-! ### What keeps the box (R42, R164, R166, R169) -/

/-- From `s` to `u` the box stays as it is: its state and set, its relay, whether the part works, the configuration, the
sections in THROUGH, and the want of open records while it is switched out. -/
structure State.BoxStays (s u : State) : Prop where
  set : u.set = s.set
  box : u.control.box = s.control.box
  relay : u.control.relayOn = s.control.relayOn
  through : u.control.through.isSome = true → s.control.through.isSome = true ∨ s.control.relayOn = true
  live : u.live = s.live
  conf : u.conf = s.conf
  opened : s.control.box = .switchedOut → s.register.opened = [] → u.register.opened = []
  sections : ∀ x, (u.sec x).acc.state = .through ↔ (s.sec x).acc.state = .through

theorem State.BoxStays.refl (s : State) : s.BoxStays s where
  set := rfl
  box := rfl
  relay := rfl
  through := .inl
  live := rfl
  conf := rfl
  opened _ h := h
  sections _ := Iff.rfl

theorem State.BoxStays.trans (h : s.BoxStays t) (k : t.BoxStays u) : s.BoxStays u where
  set := k.set.trans h.set
  box := k.box.trans h.box
  relay := k.relay.trans h.relay
  through e := (k.through e).elim h.through fun r => .inr (h.relay ▸ r)
  live := k.live.trans h.live
  conf := k.conf.trans h.conf
  opened hb ho := k.opened (h.box.trans hb) (h.opened hb ho)
  sections x := (k.sections x).trans (h.sections x)

/-- A frame that keeps box, set, mode and configuration keeps the box, where it opens no record and moves no section into or
out of THROUGH. -/
theorem State.BoxStays.of_frame (k : Outside ps s u) (hp : .set ∉ ps ∧ .box ∉ ps ∧ .mode ∉ ps ∧ .configuration ∉ ps)
    (ho : s.control.box = .switchedOut → s.NoNewRecord u)
    (hx : ∀ x, (u.sec x).acc.state = .through ↔ (s.sec x).acc.state = .through) : s.BoxStays u where
  set := k .set hp.1
  box := (k .box hp.2.1).1
  relay := (k .box hp.2.1).2.1
  through e := .inl (by rwa [(k .box hp.2.1).2.2] at e)
  live := State.live_of_mode_eq (k.mode_eq hp.2.2.1)
  conf := k.conf_eq hp.2.2.2
  opened hb h := List.eq_nil_iff_forall_not_mem.2 fun r hr => by
    have := ho hb hr
    simp [h] at this
  sections := hx

/-- What an event changes that reaches neither the box nor records nor sections. -/
def boxless : List Part :=
  [.now, .powered, .inputs, .tracks, .levers, .holds, .bells, .alerts, .sounder, .lampTest, .pulses, .flasher, .assembler,
    .requests, .slot, .outbox, .transmitter, .linkCounts, .after, .clock, .counters, .storeFault, .choices, .emitted, .pending]

theorem State.BoxStays.outside (k : Outside ps t u)
    (hp : .set ∉ ps ∧ .box ∉ ps ∧ .mode ∉ ps ∧ .configuration ∉ ps ∧ .register ∉ ps ∧ .sections ∉ ps) (h : s.BoxStays t) :
    s.BoxStays u :=
  h.trans (.of_frame k ⟨hp.1, hp.2.1, hp.2.2.1, hp.2.2.2.1⟩ (fun _ => (State.NoNewRecord.refl t).outside k hp.2.2.2.2.1)
    fun x => by rw [State.sec_of_outside k hp.2.2.2.2.2])

theorem State.BoxStays.boxless (k : Outside boxless t u) (h : s.BoxStays t) : s.BoxStays u := h.outside k (by decide)

/-- Records change without one being opened. -/
theorem State.BoxStays.records (k : Outside ps t u)
    (hp : .set ∉ ps ∧ .box ∉ ps ∧ .mode ∉ ps ∧ .configuration ∉ ps ∧ .sections ∉ ps) (ho : t.NoNewRecord u)
    (h : s.BoxStays t) : s.BoxStays u :=
  h.trans (.of_frame k ⟨hp.1, hp.2.1, hp.2.2.1, hp.2.2.2.1⟩ (fun _ => ho) fun x => by rw [State.sec_of_outside k hp.2.2.2.2])

theorem State.BoxStays.foldl {α : Type} {f : State → α → State} (hf : ∀ v a, s.BoxStays v → s.BoxStays (f v a))
    {l : List α} (h : s.BoxStays t) : s.BoxStays (l.foldl f t) := by
  induction l generalizing t with
  | nil => exact h
  | cons a l ih => exact ih (hf t a h)

/-- The accepting half of a section is replaced by one that is in THROUGH only if it was. -/
theorem State.BoxStays.putAcc {x : Nat} {a : Accepting} (h : s.BoxStays t)
    (ha : a.state = .through ↔ (t.sec x).acc.state = .through) : s.BoxStays (t.putAcc x a) := by
  refine h.trans (.of_frame (State.putAcc_outside x a t) (by decide) (fun _ => .refl t) fun y => ?_)
  rw [State.sec_putAcc]
  split
  · next e => rw [e.1]; exact ha
  · exact Iff.rfl

theorem State.BoxStays.putOff {x : Nat} {o : Offering} (h : s.BoxStays t) : s.BoxStays (t.putOff x o) := by
  refine h.trans (.of_frame (State.putOff_outside x o t) (by decide) (fun _ => .refl t) fun y => ?_)
  rw [State.sec_putOff]
  split
  · next e => rw [e.1]
  · exact Iff.rfl

theorem State.BoxStays.emit (e : NoticeEvent) (o : Nat) (x : List Byte) (h : s.BoxStays t) : s.BoxStays (t.emit e o x) :=
  h.outside (State.emit_outside e o x t) (by decide)

theorem State.BoxStays.raise (k : AlertKind) (o : Nat) (h : s.BoxStays t) : s.BoxStays (t.raise k o) :=
  h.outside (State.raise_outside k o t) (by decide)

/-! ### Records -/

theorem State.BoxStays.headsClear (a : Nat) (h : s.BoxStays t) : s.BoxStays (t.headsClear a) := by
  refine .foldl (fun v r hv => hv.records (State.headClears_outside a r v) (by decide) ?_) h
  unfold State.headClears; dsimp only
  repeat' split
  all_goals exact .refl v

theorem State.BoxStays.departOnRepeater (x : Nat) (h : s.BoxStays t) : s.BoxStays (t.departOnRepeater x) :=
  .foldl (fun v r hv => hv.records (State.depart_outside r _ v) (by decide) (.refl v)) h

theorem State.BoxStays.attributeRunning (a : Nat) (h : s.BoxStays t) : s.BoxStays (t.attributeRunning a) := by
  refine h.records (State.attributeRunning_outside a t) (by decide) ?_
  unfold State.attributeRunning State.attributed
  repeat' split
  case h_2 => exact (State.NoNewRecord.refl t).outside (ps := [.alerts, .sounder, .emitted]) (by simp) (by decide)
  all_goals exact .refl t

theorem State.BoxStays.acceptAtLC (x : Nat) (h : s.BoxStays t) : s.BoxStays (t.acceptAtLC x) := by
  refine h.records (State.acceptAtLC_outside x t) (by decide) ?_
  unfold State.acceptAtLC; split <;> exact .refl t

theorem State.BoxStays.recordsTakeRepeater (x : Nat) (d : LineState) (h : s.BoxStays t) :
    s.BoxStays (t.recordsTakeRepeater x d) := by
  cases d with
  | lc =>
    refine h.records (State.acceptAtRepeater_outside x t) (by decide) ?_
    show t.NoNewRecord (t.acceptAtRepeater x)
    unfold State.acceptAtRepeater; split <;> exact .refl t
  | tol => exact h.departOnRepeater x
  | lb => exact h

theorem State.BoxStays.repetitionGiven (l : Nat) (c : Code) (h : s.BoxStays t) : s.BoxStays (t.repetitionGiven l c) := by
  refine h.records (State.repetitionGiven_outside l c t) (by decide) ?_
  unfold State.repetitionGiven; dsimp only
  repeat' split
  all_goals exact .refl t

theorem State.BoxStays.acknowledged (l : Nat) (c : Code) (h : s.BoxStays t) : s.BoxStays (t.acknowledged l c) := by
  refine h.records (State.acknowledged_outside l c t) (by decide) ?_
  unfold State.acknowledged; dsimp only
  repeat' split
  all_goals exact .refl t

/-! ### Sections -/

theorem State.BoxStays.registerFull (e : CodeEvent) (x : Nat) (h : s.BoxStays t) : s.BoxStays (t.registerFull e x) := by
  unfold State.registerFull; dsimp only
  split
  · exact h.emit ..
  · exact .emit _ _ _ (.emit _ _ _ (h.putAcc Iff.rfl))

/-- Every section is in THROUGH in `u` exactly when it is in `s`. -/
def State.SameThrough (s u : State) : Prop := ∀ x, (u.sec x).acc.state = .through ↔ (s.sec x).acc.state = .through

theorem State.SameThrough.of_frame (k : Outside ps s u) (hp : .sections ∉ ps) : s.SameThrough u := fun x => by
  rw [State.sec_of_outside k hp]

theorem State.registerFull_sameThrough (e : CodeEvent) (x : Nat) (s : State) : s.SameThrough (s.registerFull e x) :=
  ((State.BoxStays.refl s).registerFull e x).sections

theorem State.receivedOffer_sameThrough (e : CodeEvent) (c x : Nat) (s : State) : s.SameThrough (s.receivedOffer e c x) := by
  unfold State.receivedOffer; dsimp only
  split
  · exact s.registerFull_sameThrough e x
  · next h =>
      exact .of_frame (ps := [.register, .alerts, .sounder, .emitted]) (by simp [State.outside_allocate h]) (by decide)

theorem State.sentOffer_sameThrough (e : CodeEvent) (x : Nat) (k : Option Nat) (s : State) :
    s.SameThrough (s.sentOffer e x k) := by
  unfold State.sentOffer; dsimp only
  split
  · exact .of_frame (ps := [.register, .emitted]) (by simp) (by decide)
  · split
    · exact s.registerFull_sameThrough e x
    · next h =>
        exact .of_frame (ps := [.register, .alerts, .sounder, .emitted]) (by simp [State.outside_allocate h]) (by decide)

/-- A code event takes no section into or out of THROUGH. -/
theorem State.codeEvent_sameThrough (e : CodeEvent) (cls : Nat) (named : Option Nat) (s : State) :
    s.SameThrough (s.codeEvent e cls named) := by
  unfold State.codeEvent; dsimp only
  generalize hw : (if e.sent then s.linkOutstanding e.line none
      else (s.linkOutstanding e.line none).linkOwed e.line none) = w
  have hs : s.SameThrough w := by subst hw; split <;> exact fun _ => Iff.rfl
  have later {v : State} (k : w.SameThrough v) : s.SameThrough v := fun x => (k x).trans (hs x)
  have records {v : State} (k : Outside [.register, .emitted] w v) : s.SameThrough v := later (.of_frame k (by decide))
  split
  · exact hs
  · split
    · exact hs
    · split
      · exact records (by simp)
      · split
        · split
          · exact records (by simp)
          · split
            · exact later (w.sentOffer_sameThrough e _ named)
            · exact later (w.receivedOffer_sameThrough e cls _)
        · split <;> exact records (by simp)

/-- A code event moves no section, and opens no record of a switched out box (R134, R169). -/
theorem State.BoxStays.codeEvent (e : CodeEvent) (cls : Nat) (named : Option Nat) (h : s.BoxStays t) :
    s.BoxStays (t.codeEvent e cls named) :=
  h.trans (.of_frame (State.codeEvent_outside e cls named t) (by decide) (State.codeEvent_noNewRecord e cls named)
    (t.codeEvent_sameThrough e cls named))

end Sys2Proof.Machine

namespace Sys2Proof.Machine

variable {ps : List Part} {s t u v : State}

/-! ### Moves and transitions of a section that stay out of THROUGH -/

/-- A section in THROUGH has no switch position, and every other has (R75). -/
theorem AccState.position_eq_none {a : AccState} : a.position = none ↔ a = .through := by cases a <;> simp [AccState.position]

/-- A section that is not in THROUGH has its accepting half replaced by one that is not either. -/
theorem State.BoxStays.putStill {x : Nat} {a : Accepting} (h : s.BoxStays t) (hn : (t.sec x).acc.state ≠ .through)
    (ha : a.state ≠ .through) : s.BoxStays (t.putAcc x a) := h.putAcc ⟨(absurd · ha), (absurd · hn)⟩

theorem State.BoxStays.moveSection (x : Nat) (d : LineState) (h : s.BoxStays t) (hn : (t.sec x).acc.state ≠ .through) :
    s.BoxStays (t.moveSection x d) := by
  unfold State.moveSection
  cases d with
  | lb => exact .emit _ _ _ (h.putStill hn nofun)
  | lc => exact .emit _ _ _ (.acceptAtLC x (h.putStill hn nofun))
  | tol => exact .emit _ _ _ (h.putStill hn nofun)

theorem State.BoxStays.moveRequest (x : Nat) (d : LineState) (h : s.BoxStays t) : s.BoxStays (t.moveRequest x d) := by
  unfold State.moveRequest; dsimp only
  split
  · exact h
  · next hp =>
    have hn : (t.sec x).acc.state ≠ .through := fun e => by simp [AccState.position_eq_none.2 e] at hp
    split
    · split
      · exact .emit _ _ _ (h.putAcc Iff.rfl)
      · exact h
    · split
      · exact h.moveSection x d hn
      · exact .emit _ _ _ (h.putAcc Iff.rfl)

theorem State.BoxStays.switchMoves (x : Nat) (h : s.BoxStays t) : s.BoxStays (t.switchMoves x) := by
  unfold State.switchMoves; dsimp only
  split
  · exact h
  · next p _ =>
    split
    · exact h
    · have hput : s.BoxStays (t.putAcc x { (t.sec x).acc with switch := p }) := h.putAcc Iff.rfl
      split
      · exact hput.moveRequest x p
      · exact hput

theorem State.BoxStays.clearingOccupied (x : Nat) (h : s.BoxStays t) : s.BoxStays (t.clearingOccupied x) := by
  unfold State.clearingOccupied State.foul; dsimp only
  split
  · exact h.putAcc Iff.rfl
  · next e => exact .raise _ _ (.emit _ _ _ (.emit _ _ _ (h.putStill (by simp [e]) nofun)))
  · exact h

theorem State.BoxStays.clearingCleared (x : Nat) (h : s.BoxStays t) : s.BoxStays (t.clearingCleared x) := by
  unfold State.clearingCleared; dsimp only
  split
  · exact .emit _ _ _ (h.putAcc Iff.rfl)
  · exact h

theorem State.BoxStays.becomesOccupied (a : Nat) (h : s.BoxStays t) : s.BoxStays (t.becomesOccupied a) :=
  .foldl (fun _ x hv => hv.clearingOccupied x) (h.outside (State.holdsTrackOccupied_outside a t) (by decide))

theorem State.BoxStays.becomesClear (a : Nat) (h : s.BoxStays t) : s.BoxStays (t.becomesClear a) :=
  .headsClear a (.foldl (fun _ x hv => hv.clearingCleared x) (h.outside (State.holdsTrackCleared_outside a t) (by decide)))

theorem State.BoxStays.releaseFollows (x : Nat) (o d : LineState) (h : s.BoxStays t) : s.BoxStays (t.releaseFollows x o d) := by
  unfold State.releaseFollows; dsimp only
  repeat' split
  · exact .emit _ _ _ h.putOff
  · exact .emit _ _ _ h.putOff
  · exact h

theorem State.BoxStays.repeaterTransition (x : Nat) (d : LineState) (h : s.BoxStays t) :
    s.BoxStays (t.repeaterTransition x d) :=
  .emit _ _ _ (.releaseFollows x _ d (.recordsTakeRepeater x d h.putOff))

theorem State.BoxStays.consumeRelease (n : Nat) (h : s.BoxStays t) : s.BoxStays (t.consumeRelease n) := by
  unfold State.consumeRelease
  split
  · exact h
  · exact .foldl (fun v x hv => .emit _ _ _ hv.putOff) h

theorem State.BoxStays.sectionTakesReceived (l : Nat) (m : Meaning) (h : s.BoxStays t) :
    s.BoxStays (t.sectionTakesReceived l m) := by
  unfold State.sectionTakesReceived
  repeat' split
  · exact h.putAcc Iff.rfl
  · exact h
  · exact h.raise ..
  · exact h

theorem State.BoxStays.settle (h : s.BoxStays t) : s.BoxStays t.settle := h.outside (State.settle_outside t) (by decide)

theorem State.BoxStays.stabilityExpires (x : Nat) (h : s.BoxStays t) : s.BoxStays (t.stabilityExpires x) := by
  unfold State.stabilityExpires; dsimp only
  split
  · split
    · exact .settle (.repeaterTransition x _ h.putOff)
    · exact h.putOff
  · exact h

theorem State.BoxStays.blockLineChanged (x : Nat) (h : s.BoxStays t) : s.BoxStays (t.blockLineChanged x) := by
  unfold State.blockLineChanged; split
  · exact h.putOff
  · exact h

/-- A section is restored from TOL (R86). -/
theorem State.BoxStays.restoreSection (x : Nat) (h : s.BoxStays t) (ht : (t.sec x).acc.state = .tol) :
    s.BoxStays (t.restoreSection x) := .emit _ _ _ (.emit _ _ _ (h.putStill (by simp [ht]) nofun))

theorem State.BoxStays.sectionRestore (x : Nat) (h : s.BoxStays t) : s.BoxStays (t.sectionRestore x).2.2 := by
  unfold State.sectionRestore
  split
  · exact h
  · split
    · exact h
    · split
      · exact h
      · next hf =>
        refine h.restoreSection x ?_
        unfold State.restoreFail at hf
        by_contra hn
        simp [hn] at hf

/-! ### Levers and tracks -/

theorem State.BoxStays.present (n : Nat) (o : Standing) (b : Bool) (h : s.BoxStays t) : s.BoxStays (t.present n o b) := by
  unfold State.present; dsimp only
  split
  · exact h
  · split
    · exact h.outside (State.signalStandsNormal_outside n t) (by decide)
    · split
      · exact .consumeRelease n (h.outside (State.signalArrivesReverse_outside n t) (by decide))
      · exact h.outside (State.signalStandsReverse_outside n t) (by decide)
    · exact h

theorem State.BoxStays.moveLever (n : Nat) (l : Lever) (e : NoticeEvent) (x : List Byte) (b : Bool) (h : s.BoxStays t) :
    s.BoxStays (t.moveLever n l e x b) := .present _ _ _ (.emit _ _ _ (h.outside (State.putLever_outside n l t) (by decide)))

theorem State.BoxStays.tryEnd (n : Nat) (h : s.BoxStays t) : s.BoxStays (t.tryEnd n) := by
  unfold State.tryEnd; dsimp only
  repeat' split
  · exact h
  · exact .settle (h.moveLever ..)
  · exact .settle (h.moveLever ..)
  · exact h

theorem State.BoxStays.suspectRequest (a : Nat) (h : s.BoxStays t) : s.BoxStays (t.suspectRequest a) := by
  have hput : s.BoxStays (((t.putTrack a { t.track a with suspect := true }).countMark a false).emit .trackSuspect a []) :=
    h.outside (ps := [.tracks, .counters, .emitted]) (by simp) (by decide)
  unfold State.suspectRequest; dsimp only
  repeat' split
  · exact hput.becomesOccupied a
  · exact hput
  · exact h

theorem State.BoxStays.occupationStarts (a : Nat) (h : s.BoxStays t) : s.BoxStays (t.occupationStarts a) := by
  have hset : s.BoxStays (t.setOccupied a) := h.outside (ps := [.tracks]) (by simp [State.setOccupied]) (by decide)
  cases hm : (t.track a).marked with
  | true =>
    rw [State.occupationStarts_marked hm]
    exact hset.attributeRunning a
  | false =>
    rw [State.occupationStarts_unmarked hm]
    exact (((hset.emit _ _ _).becomesOccupied a).attributeRunning a).settle

theorem State.BoxStays.relayDrops (a : Nat) (h : s.BoxStays t) : s.BoxStays (t.relayDrops a) := by
  unfold State.relayDrops
  repeat' split
  · exact h.occupationStarts a
  · exact h.outside (State.flicker_outside a t) (by decide)
  · exact h
  · exact h

theorem State.BoxStays.pickUpExpires (a : Nat) (h : s.BoxStays t) : s.BoxStays (t.pickUpExpires a) := by
  have hput (k : Track) : s.BoxStays (t.putTrack a k) := h.outside (State.putTrack_outside a k t) (by decide)
  unfold State.pickUpExpires; dsimp only
  repeat' split
  · exact hput _
  · exact .settle (.becomesClear a (.emit _ _ _ (hput _)))
  · exact h

theorem State.BoxStays.trackRestore (a : Nat) (h : s.BoxStays t) : s.BoxStays (t.trackRestore a).2.2 := by
  have hput (k : Track) (x : List Byte) : s.BoxStays ((t.putTrack a k).emit .trackRestored a x) :=
    h.outside (ps := [.tracks, .emitted]) (by simp) (by decide)
  unfold State.trackRestore; dsimp only
  split
  · dsimp only; split
    · exact .settle (.becomesClear a (hput _ _))
    · exact hput _ _
  · exact h

theorem State.BoxStays.graceExpires (r : Nat) (h : s.BoxStays t) : s.BoxStays (t.graceExpires r) := by
  unfold State.graceExpires; dsimp only
  repeat' split
  · refine .settle (.emit _ _ _ (.foldl (fun _ a hv => hv.suspectRequest a) (.raise _ _ ?_)))
    exact h.records (State.putRecord_outside _ _ _) (by decide) (.refl t)
  · exact h
  · exact h

theorem State.BoxStays.catchLowers (n : Nat) (h : s.BoxStays t) : s.BoxStays (t.catchLowers n) := by
  have hput (l : Lever) : s.BoxStays (t.putLever n l) := h.outside (State.putLever_outside n l t) (by decide)
  unfold State.catchLowers; dsimp only
  repeat' split
  · exact hput _
  · exact hput _
  · exact hput _
  · exact .settle (h.moveLever ..)
  · exact .settle (h.moveLever ..)
  · exact (hput _).tryEnd n
  · exact (hput _).tryEnd n
  · exact hput _
  · exact hput _

theorem State.BoxStays.detectorOpens (n : Nat) (h : s.BoxStays t) : s.BoxStays (t.detectorOpens n) := by
  have hforced : s.BoxStays (t.forcedMovement n).settle := .settle (h.outside (State.forcedMovement_outside n t) (by decide))
  unfold State.detectorOpens; dsimp only
  split
  · exact h.outside (State.derive_outside n t) (by decide)
  · split
    · exact hforced
    · exact hforced
    · exact hforced
    · exact hforced
    · exact h.moveLever ..
    · exact h.moveLever ..
    · exact h.tryEnd n
    · exact h.tryEnd n

theorem State.BoxStays.detectorMakes (n : Nat) (h : s.BoxStays t) : s.BoxStays (t.detectorMakes n) := by
  unfold State.detectorMakes; dsimp only
  repeat' split
  · exact h.outside (State.derive_outside n t) (by decide)
  · exact h
  · exact .settle (h.moveLever ..)
  · exact h.tryEnd n

/-! ### Bells -/

theorem State.BoxStays.putBell (l : Nat) (b : Bell) (h : s.BoxStays t) : s.BoxStays (t.putBell l b) :=
  h.outside (State.putBell_outside l b t) (by decide)

/-- The pending through code is written: the relay is on, or none is pending any more (R170). -/
theorem State.BoxStays.putThrough (k : Option ThroughCode) (h : s.BoxStays t)
    (hr : k.isSome = true → s.control.relayOn = true) :
    s.BoxStays (t.putControl { t.control with through := k }) where
  set := h.set
  box := h.box
  relay := h.relay
  through e := .inr (hr e)
  live := h.live
  conf := h.conf
  opened := h.opened
  sections := h.sections

theorem State.BoxStays.throughExchange (l : Nat) (c : Code) (h : s.BoxStays t) (hr : s.control.relayOn = true) :
    s.BoxStays (t.throughExchange l c) := by
  unfold State.throughExchange
  repeat' split
  · exact .emit _ _ _ (.putThrough none (.putBell _ _ (h.putBell _ _)) nofun)
  · exact h.putThrough _ fun _ => hr
  · exact h.putThrough _ fun _ => hr

theorem State.BoxStays.throughExpires (h : s.BoxStays t) : s.BoxStays t.throughExpires := by
  unfold State.throughExpires
  repeat' split
  · exact .emit _ _ _ (h.putThrough none nofun)
  · exact h
  · exact h

theorem State.BoxStays.sentCode (l : Nat) (c : Code) (cls : Nat) (k : Option Nat) (m : Bool) (h : s.BoxStays t) :
    s.BoxStays (t.sentCode l c cls k m) := by
  unfold State.sentCode; dsimp only
  split
  · exact .repetitionGiven l c (h.outside (State.giveRepetition_outside l c t) (by decide))
  · exact .codeEvent _ _ _ (h.outside (State.becomeOutstanding_outside l c t) (by decide))

theorem State.BoxStays.receivedActs (l : Nat) (k : CodeResult) (h : s.BoxStays t) : s.BoxStays (t.receivedActs l k) := by
  unfold State.receivedActs; dsimp only
  refine .codeEvent _ _ _ ?_
  split
  · exact h.sectionTakesReceived l _
  · exact h

theorem State.BoxStays.receivedCode (l : Nat) (k : CodeResult) (h : s.BoxStays t) : s.BoxStays (t.receivedCode l k) := by
  have hpulses : s.BoxStays ((t.emit .bellReceived l (t.bResult k ++ bFlag (t.inRelay l))).startPulses l) :=
    h.outside (ps := [.pulses, .emitted]) (by simp) (by decide)
  unfold State.receivedCode; dsimp only
  split
  · next hr =>
    refine hpulses.throughExchange l _ ?_
    rw [← h.relay]
    exact (Bool.and_eq_true _ _ ▸ hr : _ ∧ _).1
  · split
    · exact .acknowledged l _ (hpulses.outside (State.takeAcknowledgement_outside l _ _) (by decide))
    · exact .receivedActs l k (hpulses.outside (State.becomeOwed_outside l _ _) (by decide))

theorem State.BoxStays.manualCode (l : Nat) (k : CodeResult) (h : s.BoxStays t) : s.BoxStays (t.manualCode l k) := by
  unfold State.manualCode; dsimp only
  split
  · exact h.emit _ _ _
  · exact .sentCode _ _ _ _ _ (h.emit _ _ _)

theorem State.BoxStays.finishCode (l : Nat) (ear : Ear) (h : s.BoxStays t) : s.BoxStays (t.finishCode l ear) := by
  unfold State.finishCode; dsimp only
  split
  · exact .receivedCode l _ (h.putBell _ _)
  · exact .manualCode l _ (h.putBell _ _)

theorem State.BoxStays.testExpires (l : Nat) (ear : Ear) (h : s.BoxStays t) : s.BoxStays (t.testExpires l ear) :=
  h.outside (State.testExpires_outside l ear t) (by decide)

theorem State.BoxStays.inputOff (l : Nat) (ear : Ear) (h : s.BoxStays t) : s.BoxStays (t.inputOff l ear) := by
  have htest := h.testExpires l ear
  unfold State.inputOff; dsimp only
  repeat' split
  · exact .finishCode l ear (htest.putBell _ _)
  · exact htest.putBell _ _
  · exact (htest.putBell _ _).outside (State.relayWidth_outside l _ _) (by decide)
  · exact htest.putBell _ _
  · exact htest.putBell _ _
  · exact htest

theorem State.BoxStays.endGapExpires (l : Nat) (ear : Ear) (h : s.BoxStays t) : s.BoxStays (t.endGapExpires l ear) := by
  unfold State.endGapExpires; dsimp only
  repeat' split
  · exact h.putBell _ _
  · exact h.finishCode l ear
  · exact h.finishCode l ear
  · exact h
  · exact h

theorem State.BoxStays.strokeEnds (l : Nat) (h : s.BoxStays t) : s.BoxStays (t.strokeEnds l) := by
  unfold State.strokeEnds State.sendCompletes; dsimp only
  repeat' split
  · exact h.putBell _ _
  · exact .sentCode _ _ _ _ _ (.emit _ _ _ (h.putBell _ _))
  · exact h
  · exact h

/-! ### Records closed and collected -/

theorem State.BoxStays.closeRecord (r : Nat) (h : s.BoxStays t) : s.BoxStays (t.closeRecord r).2.2 := by
  unfold State.closeRecord
  repeat' split
  · exact h.records (State.complete_outside r _ t) (by decide) ((State.NoNewRecord.refl t).complete r _)
  · exact h
  · exact h

theorem State.BoxStays.collectRecord (r : Nat) (h : s.BoxStays t) : s.BoxStays (t.collectRecord r).2.2 := by
  unfold State.collectRecord
  repeat' split
  · exact h.records (State.collect_outside r t) (by decide) (.refl t)
  · exact h
  · exact h

end Sys2Proof.Machine

namespace Sys2Proof.Machine

variable {ps : List Part} {s t u v : State}

/-! ### The box and its lines -/

/-- The box without its lines: what `State.BoxKept` says of set, relay, records and sections (R42, R164, R166, R169). -/
structure State.BoxFits (s : State) : Prop where
  set : s.set = if s.control.box = .opened then .a else .b
  relay : s.control.relayOn = true ↔ s.control.box = .switchedOut ∧ s.live = true
  through : s.control.through.isSome = true → s.control.relayOn = true
  opened : s.control.box = .switchedOut → s.register.opened = []
  only : s.throughSections ≠ [] → s.control.box = .switchedOut
  pair : s.control.relayOn = true → s.throughSections = s.pairAccepting

/-- A line that sends, owes and awaits no code, with its manual recognizer idle (R166, R168). -/
def Bell.Mute (b : Bell) : Prop := b.send = none ∧ b.outstanding = none ∧ b.owed = none ∧ b.man.phase = .idle

/-- An idle recognizer with no pulse under test. -/
def Recognizer.Still (r : Recognizer) : Prop := r.phase = .idle ∧ ∀ edge, r.detector ≠ .testing edge

/-- Both recognizers of a line are still (R108, R109). -/
def Bell.Still (b : Bell) : Prop := ∀ ear, (b.recognizer ear).Still

/-- Line `l` may be `b`: mute in through relay, and mute and still while the part does not work. -/
def State.LineFits (s : State) (l : Nat) (b : Bell) : Prop :=
  (s.live = false ∨ s.inRelay l = true → b.Mute) ∧ (s.live = false → b.Still)

/-- Every line is as the box asks. -/
def State.LinesKept (s : State) : Prop := ∀ l ∈ Tab.numbers 3, s.LineFits l (s.bell l)

theorem State.boxKept_iff : s.BoxKept ∧ s.BellsQuiet ↔ s.BoxFits ∧ s.LinesKept := by
  constructor
  · rintro ⟨⟨hset, hrelay, hthrough, hopened, honly, hpair, hmute⟩, hstill⟩
    exact ⟨⟨hset, hrelay, hthrough, hopened, honly, hpair⟩, fun l hl => ⟨hmute l hl, fun hlive => hstill hlive l hl⟩⟩
  · rintro ⟨⟨hset, hrelay, hthrough, hopened, honly, hpair⟩, hlines⟩
    exact ⟨⟨hset, hrelay, hthrough, hopened, honly, hpair, fun l hl => (hlines l hl).1⟩,
      fun hlive l hl => (hlines l hl).2 hlive⟩

/-- The sections in THROUGH are the same. -/
theorem State.SameThrough.throughSections (h : s.SameThrough u) : u.throughSections = s.throughSections :=
  List.filter_congr fun x _ => decide_eq_decide.2 (h x)

theorem State.BoxFits.stays (h : s.BoxFits) (k : s.BoxStays u) : u.BoxFits where
  set := by rw [k.set, k.box]; exact h.set
  relay := by rw [k.relay, k.box, k.live]; exact h.relay
  through e := k.relay ▸ (k.through e).elim h.through id
  opened hb := k.opened (k.box ▸ hb) (h.opened (k.box ▸ hb))
  only := by
    rw [State.SameThrough.throughSections k.sections, k.box]
    exact h.only
  pair := by
    rw [State.SameThrough.throughSections k.sections, k.relay, show u.pairAccepting = s.pairAccepting by
      simp only [State.pairAccepting, State.inPair, k.conf]]
    exact h.pair

/-- While the part does not work the relay is off (R164). -/
theorem State.BoxFits.relay_off (h : s.BoxFits) (hl : s.live = false) : s.control.relayOn = false :=
  Bool.eq_false_iff.2 fun hr => by simpa [hl] using (h.relay.1 hr).2

/-! ### Lines, through an event -/

theorem State.LineFits.mono {l : Nat} {b c : Bell} (hm : b.Mute → c.Mute) (hs : b.Still → c.Still) (h : s.LineFits l b) :
    s.LineFits l c := ⟨fun k => hm (h.1 k), fun k => hs (h.2 k)⟩

/-- A line of a working part that is not in through relay may be anything. -/
theorem State.LineFits.free {l : Nat} (hl : s.live = true) (hr : s.inRelay l = false) (b : Bell) : s.LineFits l b :=
  ⟨fun k => absurd k (by simp [hl, hr]), fun k => absurd k (by simp [hl])⟩

/-- A line that is not mute is one of a working part, and is not in through relay. -/
theorem State.LineFits.works {l : Nat} {b : Bell} (h : s.LineFits l b) (hb : ¬ b.Mute) : s.live = true ∧ s.inRelay l = false := by
  have := mt h.1 hb
  simpa using this

theorem State.lineFits_eq (hl : u.live = s.live) (hr : u.control.relayOn = s.control.relayOn) (hc : u.conf = s.conf) (l : Nat)
    (b : Bell) : u.LineFits l b ↔ s.LineFits l b := by
  simp only [State.LineFits, State.inRelay, State.inPair, hl, hr, hc]

/-- Every line that was as the box of `s` asks is so in `u`. -/
def State.LinesFrom (s u : State) : Prop := ∀ l, s.LineFits l (s.bell l) → s.LineFits l (u.bell l)

theorem State.LinesFrom.refl (s : State) : s.LinesFrom s := fun _ h => h

theorem State.LinesFrom.of_bells (h : s.LinesFrom t) (e : u.bells = t.bells) : s.LinesFrom u := fun l hl => by
  rw [State.bell_of_bells e]
  exact h l hl

theorem State.LinesFrom.outside (k : Outside ps t u) (hp : .bells ∉ ps) (h : s.LinesFrom t) : s.LinesFrom u :=
  h.of_bells (k .bells hp)

theorem State.LinesFrom.foldl {α : Type} {f : State → α → State} (hf : ∀ v a, s.LinesFrom v → s.LinesFrom (f v a))
    {l : List α} (h : s.LinesFrom t) : s.LinesFrom (l.foldl f t) := by
  induction l generalizing t with
  | nil => exact h
  | cons a l ih => exact ih (hf t a h)

theorem State.LinesFrom.putBell {l : Nat} {b : Bell} (h : s.LinesFrom t) (hb : s.LineFits l (t.bell l) → s.LineFits l b) :
    s.LinesFrom (t.putBell l b) := fun j hj => by
  rw [State.bell_putBell]
  split
  · next e => obtain ⟨rfl, -⟩ := e; exact hb (h j hj)
  · exact h j hj

/-- A line is replaced by one that is mute and still where it was. -/
theorem State.LinesFrom.putQuiet {l : Nat} {b : Bell} (h : s.LinesFrom t) (hm : (t.bell l).Mute → b.Mute)
    (hs : (t.bell l).Still → b.Still) : s.LinesFrom (t.putBell l b) := h.putBell fun k => k.mono hm hs

/-- A line of a working part that is not in through relay is replaced. -/
theorem State.LinesFrom.putFree {l : Nat} (hl : s.live = true) (hr : s.inRelay l = false) (b : Bell) (h : s.LinesFrom t) :
    s.LinesFrom (t.putBell l b) := h.putBell fun _ => .free hl hr b

/-- A recognizer of a working part is replaced: where its line is in through relay a manual one stays idle. -/
theorem State.LinesFrom.putRecognizer {l : Nat} {ear : Ear} {r : Recognizer} (h : s.LinesFrom t) (hl : s.live = true)
    (hr : ear = .manual → s.inRelay l = true → (t.bell l).man.phase = .idle → r.phase = .idle) :
    s.LinesFrom (t.putRecognizer l ear r) := h.putBell fun k => by
  refine ⟨fun hc => ?_, fun hc => absurd hc (by simp [hl])⟩
  obtain ⟨hsend, hout, howed, hman⟩ := k.1 hc
  cases ear with
  | receive => exact ⟨hsend, hout, howed, hman⟩
  | manual => exact ⟨hsend, hout, howed, hr rfl (hc.resolve_left (by simp [hl])) hman⟩

theorem State.LinesKept.stays (h : s.LinesKept) (k : s.BoxStays u) (hu : s.LinesFrom u) : u.LinesKept := fun l hl =>
  (State.lineFits_eq k.live k.relay k.conf l _).2 (hu l (h l hl))

/-- The box and the lines are kept where the box stays and every line stays as it must. -/
theorem State.BoxFits.with_lines (hb : s.BoxFits) (hl : s.LinesKept) (k : s.BoxStays u) (hu : s.LinesFrom u) :
    u.BoxFits ∧ u.LinesKept := ⟨hb.stays k, hl.stays k hu⟩

/-! ### Codes -/

theorem State.LinesFrom.exchanged (l : Nat) (c : Code) (b : Bool) (h : s.LinesFrom t) : s.LinesFrom (t.exchanged l c b) :=
  h.putQuiet id id

theorem State.LinesFrom.sentCode (l : Nat) (c : Code) (cls : Nat) (k : Option Nat) (m : Bool) (hl : s.live = true)
    (hr : s.inRelay l = false) (h : s.LinesFrom t) : s.LinesFrom (t.sentCode l c cls k m) := by
  unfold State.sentCode; dsimp only
  split
  · have hgiven : s.LinesFrom (t.giveRepetition l c) := .of_bells (.exchanged l c false (h.putFree hl hr _)) rfl
    exact hgiven.outside (State.repetitionGiven_outside _ _ _) (by decide)
  · have hout : s.LinesFrom (t.becomeOutstanding l c) :=
      .outside (t.becomeOutstanding_after l c) (by decide) (h.putFree hl hr _)
    exact hout.outside (State.codeEvent_outside _ _ _ _) (by decide)

theorem State.LinesFrom.throughExchange (l : Nat) (c : Code) (h : s.LinesFrom t) : s.LinesFrom (t.throughExchange l c) := by
  unfold State.throughExchange
  split
  · split
    · next p _ _ => exact ((h.exchanged p.line c false).exchanged l c true).of_bells rfl
    · exact h.of_bells rfl
  · exact h.of_bells rfl

/-- A code received by a working part. -/
theorem State.LinesFrom.receivedCode (l : Nat) (k : CodeResult) (hl : s.live = true) (hr : t.inRelay l = s.inRelay l)
    (h : s.LinesFrom t) : s.LinesFrom (t.receivedCode l k) := by
  have hpulses : s.LinesFrom ((t.emit .bellReceived l (t.bResult k ++ bFlag (t.inRelay l))).startPulses l) := h.of_bells rfl
  unfold State.receivedCode; dsimp only
  split
  · exact hpulses.throughExchange l _
  · next hrelay =>
    have hfree : s.inRelay l = false := by simpa [hr] using hrelay
    split
    · have htaken : s.LinesFrom (State.takeAcknowledgement l k.code
          ((t.emit .bellReceived l (t.bResult k ++ bFlag (t.inRelay l))).startPulses l)) :=
        .of_bells (.exchanged l _ true (hpulses.putFree hl hfree _)) rfl
      exact htaken.outside (State.acknowledged_outside _ _ _) (by decide)
    · have howed : s.LinesFrom (State.becomeOwed l k.code
          ((t.emit .bellReceived l (t.bResult k ++ bFlag (t.inRelay l))).startPulses l)) :=
        .outside (State.becomeOwed_after l _ _) (by decide) (hpulses.putFree hl hfree _)
      exact howed.outside (State.receivedActs_outside _ _ _) (by decide)

/-- A code finishes on a working part: on a line in through relay only a received one does (R168). -/
theorem State.LinesFrom.finishCode (l : Nat) (ear : Ear) (hl : s.live = true) (hr : t.inRelay l = s.inRelay l)
    (hman : ear = .manual → s.inRelay l = false) (h : s.LinesFrom t) : s.LinesFrom (t.finishCode l ear) := by
  have hidle : s.LinesFrom (t.putRecognizer l ear { (t.recognizer l ear).toIdle with lastCode := some (t.codeResult l ear) }) :=
    h.putRecognizer hl fun _ _ _ => rfl
  unfold State.finishCode; dsimp only
  split
  · exact hidle.receivedCode l _ hl hr
  · unfold State.manualCode; dsimp only
    split
    · exact hidle.of_bells rfl
    · exact .sentCode _ _ _ _ _ hl (hman rfl) (hidle.of_bells rfl)

/-! ### Events of the bells -/

theorem State.LinesKept.fits (h : s.LinesKept) (l : Nat) : s.LineFits l (s.bell l) := by
  by_cases hl : l ∈ Tab.numbers 3
  · exact h l hl
  · have hb : s.bell l = {} := Tab.get_out _ _ fun k => hl (Tab.mem_numbers.2 k)
    rw [hb]
    exact ⟨fun _ => ⟨rfl, rfl, rfl, rfl⟩, fun _ ear => by cases ear <;> exact ⟨rfl, nofun⟩⟩

theorem State.RecognizersKept.recognizer (h : s.RecognizersKept) (l : Nat) (ear : Ear) : (s.recognizer l ear).Kept := by
  by_cases hl : l ∈ Tab.numbers 3
  · cases ear with
    | receive => exact (h.2.2 l hl).1
    | manual => exact (h.2.2 l hl).2
  · have hb : s.bell l = {} := Tab.get_out _ _ fun k => hl (Tab.mem_numbers.2 k)
    rw [State.recognizer, hb]
    cases ear <;> exact Recognizer.Kept.toIdle {}

/-- A recognizer is replaced by one in the same phase with no pulse under test. -/
theorem State.LinesFrom.putSilent {l : Nat} {ear : Ear} {r : Recognizer} (h : s.LinesFrom t)
    (hp : r.phase = (t.recognizer l ear).phase) (hd : ∀ edge, r.detector ≠ .testing edge) :
    s.LinesFrom (t.putRecognizer l ear r) := by
  refine h.putQuiet (fun ⟨hsend, hout, howed, hman⟩ => ?_) fun hs => ?_
  · cases ear with
    | receive => exact ⟨hsend, hout, howed, hman⟩
    | manual => exact ⟨hsend, hout, howed, hp.trans hman⟩
  · have hnew : r.Still := ⟨hp.trans (hs ear).1, hd⟩
    intro e
    cases ear with
    | receive => cases e with
      | receive => exact hnew
      | manual => exact hs .manual
    | manual => cases e with
      | receive => exact hs .receive
      | manual => exact hnew

theorem State.linesFrom_inputOn (l : Nat) (ear : Ear) (s : State) : s.LinesFrom (s.inputOn l ear) := by
  unfold State.inputOn; dsimp only
  split
  · next hc =>
    refine (State.LinesFrom.refl s).putRecognizer (Bool.and_eq_true _ _ ▸ hc : _ ∧ _).1 ?_
    rintro rfl - hp
    exact hp
  · exact .refl s

theorem State.linesFrom_testExpires (l : Nat) (ear : Ear) (s : State) : s.LinesFrom (s.testExpires l ear) := by
  unfold State.testExpires
  split
  · split
    · next hc =>
      have hl : s.live = true := (Bool.and_eq_true _ _ ▸ hc : _ ∧ _).1
      unfold State.acceptStroke; dsimp only
      cases ear with
      | receive =>
        have hput (r : Recognizer) : s.LinesFrom (s.putRecognizer l .receive r) := (State.LinesFrom.refl s).putRecognizer hl nofun
        dsimp only; split
        · exact (hput _).putQuiet id id
        · exact hput _
      | manual =>
        refine (State.LinesFrom.refl s).putRecognizer hl fun _ hr hp => ?_
        rw [if_pos hr]
        exact hp
    · exact .refl s
  · exact .refl s

theorem State.testExpires_still {l : Nat} {ear : Ear} (h : ∀ edge, (s.recognizer l ear).detector ≠ .testing edge) :
    s.testExpires l ear = s := by
  unfold State.testExpires
  split
  · next edge he => exact absurd he (h edge)
  · rfl

theorem State.LinesFrom.relayWidth (l w : Nat) (h : s.LinesFrom t) : s.LinesFrom (t.relayWidth l w) := by
  unfold State.relayWidth; split
  · exact h.putQuiet id id
  · exact h

/-- An idle recognizer waits for no pulse (R99, R102). -/
theorem Recognizer.Kept.not_waiting {r : Recognizer} (h : r.Kept) (hp : r.phase = .idle) : r.gapTimer ≠ .waiting := by
  rw [Recognizer.Kept, hp] at h
  obtain ⟨-, -, -, -, -, hgap⟩ := h
  simp [hgap]

/-- A recognizer that is not idle, where it is the manual one, stands on a line that is not in through relay (R168). -/
theorem State.LineFits.manual_free {l : Nat} {b : Bell} {ear : Ear} (h : s.LineFits l b)
    (hp : (b.recognizer ear).phase ≠ .idle) : ear = .manual → s.inRelay l = false := by
  rintro rfl
  exact (h.works fun ⟨_, _, _, hman⟩ => hp hman).2

theorem State.LinesKept.inputOff (l : Nat) (ear : Ear) (h : s.LinesKept) (hk : s.RecognizersKept) :
    s.LinesFrom (s.inputOff l ear) := by
  have htest := s.linesFrom_testExpires l ear
  have hf := State.testExpires_outside l ear s
  have hsilent (w : Option Nat) : s.LinesFrom (State.putRecognizer l ear { (s.testExpires l ear).recognizer l ear with
      detector := .off, width := w } (s.testExpires l ear)) := htest.putSilent rfl nofun
  unfold State.inputOff; dsimp only
  split
  · next edge he =>
    have hlive : s.live = true := by
      by_contra hl
      have hstill := (h.fits l).2 (by simpa using hl) ear
      rw [State.testExpires_still hstill.2] at he
      exact hstill.2 edge he
    split
    · next hw =>
      refine (hsilent _).finishCode l ear hlive ?_ ((htest l (h.fits l)).manual_free fun hp => ?_)
      · show (s.testExpires l ear).inRelay l = s.inRelay l
        simp only [State.inRelay, State.inPair, (hf .box (by decide)).2.1, hf.conf_eq (by decide)]
      · exact ((hk.testExpires l ear).recognizer l ear).not_waiting hp hw
    · exact hsilent _
  · split
    · exact (hsilent _).relayWidth l _
    · exact hsilent _
  · exact hsilent _
  · exact htest

theorem State.LinesKept.endGapExpires (l : Nat) (ear : Ear) (h : s.LinesKept) : s.LinesFrom (s.endGapExpires l ear) := by
  unfold State.endGapExpires; dsimp only
  split
  · split
    · next hc =>
      simp only [Bool.and_eq_true, decide_eq_true_eq] at hc
      obtain ⟨⟨hlive, hp⟩, -⟩ := hc
      have hfinish : s.LinesFrom (s.finishCode l ear) :=
        (State.LinesFrom.refl s).finishCode l ear hlive rfl ((h.fits l).manual_free hp)
      split
      · split
        · refine (State.LinesFrom.refl s).putRecognizer hlive ?_
          rintro rfl - hp
          exact hp
        · exact hfinish
      · exact hfinish
    · exact .refl s
  · exact .refl s

theorem State.linesFrom_relayOff (l : Nat) (s : State) : s.LinesFrom (s.relayOff l) := by
  unfold State.relayOff
  repeat' split
  · exact (State.LinesFrom.refl s).putQuiet id id
  all_goals exact .refl s

theorem State.LinesFrom.abortSend (l : Nat) (h : s.LinesFrom t) : s.LinesFrom (t.abortSend l) := by
  unfold State.abortSend; split
  · have hput : s.LinesFrom (t.putBell l { t.bell l with send := none }) :=
      h.putQuiet (fun ⟨_, ho, hw, hp⟩ => ⟨rfl, ho, hw, hp⟩) id
    exact hput.of_bells rfl
  · exact h

theorem State.linesFrom_plungerPressed (l : Nat) (s : State) : s.LinesFrom (s.plungerPressed l) := by
  unfold State.plungerPressed; dsimp only
  repeat' split
  · exact .refl s
  · exact (State.LinesFrom.refl s).putQuiet id id
  · exact .abortSend l ((State.LinesFrom.refl s).putQuiet id id)
  · exact .refl s

theorem State.linesFrom_plungerReleased (l : Nat) (s : State) : s.LinesFrom (s.plungerReleased l) := by
  unfold State.plungerReleased; dsimp only; split
  · exact (State.LinesFrom.refl s).putQuiet id id
  · exact .refl s

theorem State.linesFrom_plungerExpires (l : Nat) (s : State) : s.LinesFrom (s.plungerExpires l) := by
  unfold State.plungerExpires; dsimp only; split
  · exact (State.LinesFrom.refl s).putQuiet id id
  · exact .refl s

/-- What a line that sends is replaced by is free. -/
theorem State.LinesKept.putSending {l : Nat} {k : Send} (h : s.LinesKept) (hk : (s.bell l).send = some k) (b : Bell) :
    s.LinesFrom (s.putBell l b) := by
  obtain ⟨hl, hr⟩ := (h.fits l).works fun ⟨hsend, _⟩ => by simp [hk] at hsend
  exact (State.LinesFrom.refl s).putFree hl hr b

theorem State.LinesKept.strokeStarts (l : Nat) (h : s.LinesKept) : s.LinesFrom (s.strokeStarts l) := by
  unfold State.strokeStarts
  split
  · next hk =>
    split
    · exact h.putSending hk _
    · exact .refl s
  · exact .refl s

theorem State.LinesKept.strokeEnds (l : Nat) (h : s.LinesKept) : s.LinesFrom (s.strokeEnds l) := by
  unfold State.strokeEnds
  split
  · next k hk =>
    split
    · split
      · exact h.putSending hk _
      · obtain ⟨hl, hr⟩ := (h.fits l).works fun ⟨hsend, _⟩ => by simp [hk] at hsend
        unfold State.sendCompletes; dsimp only
        exact .sentCode _ _ _ _ _ hl hr (.of_bells (h.putSending hk { s.bell l with send := none }) rfl)
    · exact .refl s
  · exact .refl s

theorem State.linesFrom_deadlineExpires (l : Nat) (s : State) : s.LinesFrom (s.deadlineExpires l) := by
  unfold State.deadlineExpires
  repeat' split
  · refine .outside (ps := [.alerts, .sounder, .emitted]) (t := s.putBell l { s.bell l with outstanding := none }) ?_ (by decide)
      ((State.LinesFrom.refl s).putQuiet (fun ⟨hs, _, hw, hp⟩ => ⟨hs, rfl, hw, hp⟩) id)
    simp
  · exact .refl s
  · exact .refl s

theorem State.linesFrom_reminderExpires (l : Nat) (s : State) : s.LinesFrom (s.reminderExpires l) := by
  unfold State.reminderExpires
  split
  · next o ho =>
    split
    · refine .outside (ps := [.alerts, .sounder, .emitted])
        (t := s.putBell l { s.bell l with owed := some { o with expired := true } }) ?_ (by decide)
        ((State.LinesFrom.refl s).putQuiet (fun ⟨_, _, hw, _⟩ => by simp [ho] at hw) id)
      simp
    · exact .refl s
  · exact .refl s

theorem State.linesFrom_sendBell (l e : Nat) (k : Option Nat) (hl : s.live = true) : s.LinesFrom (s.sendBell l e k).2.2 := by
  unfold State.sendBell
  split
  · exact .refl s
  · next hf =>
    have hr : s.inRelay l = false := by
      unfold State.sendBellFail at hf
      by_contra hr
      simp only [Bool.not_eq_false] at hr
      rw [hr] at hf
      simp only [Bool.true_or, if_true] at hf
      repeat' split at hf
      all_goals cases hf
    exact (State.LinesFrom.refl s).putFree hl hr _

end Sys2Proof.Machine

namespace Sys2Proof.Machine

variable {ps : List Part} {s t u v : State}

/-! ### The box switched out and in (R166, R171) -/

theorem State.toThrough_state {a x : Nat} (hx : x ∈ Tab.numbers 6) (s : State) :
    ((s.toThrough a).sec x).acc.state = .through ↔ x = a ∨ (s.sec x).acc.state = .through := by
  show ((s.putAcc a { (s.sec a).acc with state := .through, disagreement := false }).sec x).acc.state = _ ↔ _
  rw [State.sec_putAcc]
  split
  · next e => simp [e.1]
  · next e =>
    have hne : x ≠ a := by rintro rfl; exact e ⟨rfl, Tab.mem_numbers.1 hx⟩
    simp [hne]

theorem State.fromThrough_state {a x : Nat} (hx : x ∈ Tab.numbers 6) (s : State) :
    ((s.fromThrough a).sec x).acc.state = .through ↔ x ≠ a ∧ (s.sec x).acc.state = .through := by
  show ((s.putAcc a (Accepting.compare { (s.sec a).acc with state := .lb, assumed := false, unregistered := false })).sec
    x).acc.state = _ ↔ _
  rw [State.sec_putAcc]
  split
  · next e => simp [e.1, Accepting.compare]
  · next e =>
    have hne : x ≠ a := by rintro rfl; exact e ⟨rfl, Tab.mem_numbers.1 hx⟩
    simp [hne]

theorem State.allThrough_state {l : List Nat} {x : Nat} (hx : x ∈ Tab.numbers 6) (s : State) :
    ((l.foldl State.toThrough s).sec x).acc.state = .through ↔ x ∈ l ∨ (s.sec x).acc.state = .through := by
  induction l generalizing s with
  | nil => simp
  | cons a l ih => rw [List.foldl_cons, ih, State.toThrough_state hx, List.mem_cons]; tauto

/-- Where each application takes one section out of THROUGH, a fold takes those of its list out. -/
theorem State.noneThrough_state {f : State → Nat → State} {x : Nat}
    (hf : ∀ v a, ((f v a).sec x).acc.state = .through ↔ x ≠ a ∧ (v.sec x).acc.state = .through) (l : List Nat) (s : State) :
    ((l.foldl f s).sec x).acc.state = .through ↔ x ∉ l ∧ (s.sec x).acc.state = .through := by
  induction l generalizing s with
  | nil => simp
  | cons a l ih => rw [List.foldl_cons, ih, hf, List.mem_cons]; tauto

theorem State.throughToTol_state {a x : Nat} (hx : x ∈ Tab.numbers 6) (s : State) :
    ((s.throughToTol a).sec x).acc.state = .through ↔ x ≠ a ∧ (s.sec x).acc.state = .through := by
  rw [State.throughToTol_sec]
  split
  · next e => simp [e.1, Accepting.enterTol]
  · next e =>
    have hne : x ≠ a := by rintro rfl; exact e ⟨rfl, Tab.mem_numbers.1 hx⟩
    simp [hne]

theorem State.mem_throughSections {x : Nat} : x ∈ s.throughSections ↔ x ∈ Tab.numbers 6 ∧ (s.sec x).acc.state = .through := by
  simp [State.throughSections]

/-- Where no section was in THROUGH, those of the pair are once the box is out. -/
theorem State.outSections_through (h : s.throughSections = []) : s.outSections.throughSections = s.pairAccepting := by
  unfold State.throughSections State.pairAccepting
  refine List.filter_congr fun x hx => ?_
  have hnone : ¬ (s.sec x).acc.state = .through := fun e => by
    have : x ∈ s.throughSections := State.mem_throughSections.2 ⟨hx, e⟩
    simp [h] at this
  have hmem : x ∈ s.pairAccepting ↔ _ := List.mem_filter
  rw [Bool.eq_iff_iff, decide_eq_true_iff, State.outSections, State.allThrough_state hx, hmem]
  simp [hnone, hx]

/-- Where those of the pair alone were in THROUGH, no section is once the box is in. -/
theorem State.inSections_through (h : s.throughSections ⊆ s.pairAccepting) : s.inSections.throughSections = [] :=
  List.eq_nil_iff_forall_not_mem.2 fun x hx => by
    obtain ⟨hn, ht⟩ := State.mem_throughSections.1 hx
    obtain ⟨hout, hs⟩ := (State.noneThrough_state (fun v _ => v.fromThrough_state hn) _ s).1 ht
    exact hout (h (State.mem_throughSections.2 ⟨hn, hs⟩))

/-- The lines of the pair owe and await no code once the box is out. -/
theorem State.outLines_bell {l : Nat} (hl : l ∈ s.pairLines) :
    s.outLines.bell l = { s.bell l with outstanding := none, owed := none, ignored := 0 } := by
  have hmem {a : Nat} (ha : a ∈ s.pairLines) := Tab.mem_numbers.1 (List.mem_filter.1 ha).1
  have hread (v : State) (a n : Nat) : (v.lineSwitchesOut a).bell n =
      if n = a ∧ 1 ≤ a ∧ a ≤ 3 then { v.bell a with outstanding := none, owed := none, ignored := 0 } else v.bell n :=
    State.bell_putBell ..
  have := foldl_read (f := State.lineSwitchesOut) (g := fun n v => v.bell n)
    (F := fun n v => { v.bell n with outstanding := none, owed := none, ignored := 0 }) ((Tab.nodup_numbers 3).filter _)
    (fun a ha v => by rw [hread, if_pos ⟨rfl, hmem ha⟩]) (fun v a n h => by rw [hread, if_neg fun e => h e.1])
    (fun v a n h => by rw [hread, if_neg fun e => h e.1]) s l
  exact this.trans (if_pos hl)

/-- What SWITCH_OUT finds where none of its conditions fails (R165). -/
theorem State.switchOutFail_none (h : s.switchOutFail = none) :
    s.control.mode = .running ∧ s.register.opened = [] ∧ ∀ l ∈ s.pairLines, s.sendQuiet l = true := by
  unfold State.switchOutFail at h
  split at h
  · cases h
  · split at h
    · cases h
    · next hm =>
      split at h
      · cases h
      · split at h
        · cases h
        · next ho =>
          split at h
          · cases h
          · split at h
            · cases h
            · split at h
              · cases h
              · next hl =>
                exact ⟨not_not.1 hm, ho, fun l hmem => by simpa using List.find?_eq_none.1 hl l hmem⟩

/-- The sections of the pair are in THROUGH and the relay is on. -/
def State.relayed (s : State) : State := s.boxOut.outSections.relayBegins

theorem State.outSections_outside (s : State) : Outside [.sections, .emitted] s s.outSections := by simp [State.outSections]

theorem State.relayed_boxFits (hs : s.BoxFits) (hb : s.control.box = .opened) (hl : s.live = true)
    (ho : s.register.opened = []) : s.relayed.BoxFits := by
  have hf := s.boxOut.outSections_outside
  have hbox : s.relayed.control.box = .switchedOut := (hf .box (by decide)).1
  have hlive : s.relayed.live = true := (State.live_of_mode_eq (hf.mode_eq (by decide))).trans hl
  have hnone : s.throughSections = [] := by
    by_contra hne
    simp [hs.only hne] at hb
  refine ⟨?_, ?_, nofun, fun _ => ?_, fun _ => hbox, fun _ => ?_⟩
  · rw [hbox]
    exact (hf .set (by decide)).trans rfl
  · exact ⟨fun _ => ⟨hbox, hlive⟩, fun _ => rfl⟩
  · exact (congrArg Register.opened (hf .register (by decide))).trans ho
  · exact (State.outSections_through (s := s.boxOut) hnone).trans (State.pairAccepting_eq hf (by decide)).symm

/-- A box switched out is as it must be, and so are the lines (R165, R166). -/
theorem State.switchOut_kept (hs : s.BoxFits) (hk : s.LinesKept) :
    s.switchOut.2.2.BoxFits ∧ s.switchOut.2.2.LinesKept := by
  unfold State.switchOut
  split
  · exact ⟨hs, hk⟩
  · next hc =>
    split
    · exact ⟨hs, hk⟩
    · next hfail =>
      obtain ⟨hm, ho, hquiet⟩ := State.switchOutFail_none hfail
      have hlive : s.live = true := by simp [State.live, hm]
      have hb : s.control.box = .opened := by cases h : s.control.box <;> simp_all
      have hfits := State.relayed_boxFits hs hb hlive ho
      have hstays : s.relayed.BoxStays s.doSwitchOut.settle := by
        rw [State.doSwitchOut_eq]
        refine .settle (.emit _ _ _ ((State.BoxStays.refl _).outside (ps := [.bells]) ?_ (by decide)))
        simp [State.outLines, State.relayed]
      refine ⟨hfits.stays hstays, fun l hl => (State.lineFits_eq hstays.live hstays.relay hstays.conf l _).2 ?_⟩
      have hframe : Outside [.box, .set, .sections, .emitted] s s.relayed := by
        simp [State.relayed, State.boxOut, State.outSections, State.relayBegins]
      have hbell : s.doSwitchOut.settle.bell l = s.relayed.outLines.bell l := by
        rw [State.doSwitchOut_eq]
        exact (State.bell_of_bells ((State.settle_outside _) .bells (by decide))).trans rfl
      rw [hbell]
      cases hr : s.relayed.inRelay l with
      | false =>
        exact .free ((State.live_of_mode_eq (hframe.mode_eq (by decide))).trans hlive) hr _
      | true =>
        have hpair : s.relayed.inPair l = true := (Bool.and_eq_true _ _ ▸ hr : _ ∧ _).2
        have hmem : l ∈ s.relayed.pairLines := List.mem_filter.2 ⟨hl, hpair⟩
        have hmem' : l ∈ s.pairLines := List.mem_filter.2 ⟨hl, by simpa [State.inPair, hframe.conf_eq (by decide)] using hpair⟩
        have hsame : s.relayed.bell l = s.bell l := State.bell_of_bells (hframe .bells (by decide))
        have hq := hquiet l hmem'
        simp only [State.sendQuiet, Bool.and_eq_true, Option.isNone_iff_eq_none, decide_eq_true_eq] at hq
        obtain ⟨⟨hsend, hman⟩, -⟩ := hq
        rw [State.outLines_bell hmem, hsame]
        refine ⟨fun _ => ⟨hsend, rfl, rfl, hman⟩, fun hd => ?_⟩
        rw [State.live_of_mode_eq (hframe.mode_eq (by decide)), hlive] at hd
        cases hd

/-- An open box has its relay off, no code pending and no section in THROUGH (R166, R171). -/
theorem State.BoxFits.of_open (hb : s.control.box = .opened) (hset : s.set = .a) (hr : s.control.relayOn = false)
    (ht : s.control.through = none) (hx : s.throughSections = []) : s.BoxFits where
  set := by rw [hset, if_pos hb]
  relay := by simp [hr, hb]
  through := by simp [ht]
  opened h := by simp [hb] at h
  only h := absurd hx h
  pair := by simp [hr]

theorem State.relayEnds_boxFits (hs : s.BoxFits) (hl : s.live = true) (hb : s.control.box = .switchedOut) :
    s.boxIn.relayEnds.inLines.inSections.BoxFits := by
  have hlines : Outside [.bells] s.boxIn.relayEnds s.boxIn.relayEnds.inLines := by simp [State.inLines]
  have hf : Outside [.bells, .sections, .emitted] s.boxIn.relayEnds s.boxIn.relayEnds.inLines.inSections :=
    (hlines.mono (by simp)).trans (by simp [State.inSections])
  obtain ⟨hbox, hrelay, hthrough⟩ := hf .box (by decide)
  have hnone : s.boxIn.relayEnds.inLines.inSections.throughSections = [] := by
    refine State.inSections_through ?_
    rw [State.throughSections_eq hlines (by decide), State.pairAccepting_eq hlines (by decide)]
    exact fun x hx => hs.pair (hs.relay.2 ⟨hb, hl⟩) ▸ hx
  exact .of_open hbox (hf .set (by decide)) hrelay hthrough hnone

/-- A box switched in is as it must be, and so are the lines (R171). -/
theorem State.switchIn_kept (hs : s.BoxFits) (hk : s.LinesKept) (hl : s.live = true) :
    s.switchIn.2.2.BoxFits ∧ s.switchIn.2.2.LinesKept := by
  unfold State.switchIn
  split
  · exact ⟨hs, hk⟩
  · next hc =>
    split
    · exact ⟨hs, hk⟩
    · have hb : s.control.box = .switchedOut := by cases h : s.control.box <;> simp_all
      have hstays : s.boxIn.relayEnds.inLines.inSections.BoxStays s.doSwitchIn.settle := by
        rw [State.doSwitchIn_eq]
        exact .settle (.emit _ _ _ (.refl _))
      have hfits := (State.relayEnds_boxFits hs hl hb).stays hstays
      have hf : Outside [.box, .set, .bells, .sections, .levers, .holds, .choices, .emitted] s s.doSwitchIn.settle := by
        rw [State.doSwitchIn_eq]
        simp [State.boxIn, State.relayEnds, State.inLines, State.inSections]
      have hlive : s.doSwitchIn.settle.live = true := (State.live_of_mode_eq (hf.mode_eq (by decide))).trans hl
      have hbox : s.doSwitchIn.settle.control.box = .opened := by
        rw [State.doSwitchIn_eq]
        exact (Outside.trans (ps := [.bells, .sections, .levers, .holds, .choices, .emitted]) (t := s.boxIn.relayEnds.inLines)
          (s := s.boxIn.relayEnds) (by simp [State.inLines]) (by simp [State.inSections]) .box (by decide)).1
      have hrelay : s.doSwitchIn.settle.control.relayOn = false :=
        Bool.eq_false_iff.2 fun h => by simpa [hbox] using (hfits.relay.1 h).1
      exact ⟨hfits, fun l _ => .free hlive (by simp [State.inRelay, hrelay]) _⟩

end Sys2Proof.Machine

namespace Sys2Proof.Machine

variable {ps : List Part} {s t u v : State}

/-! ### Resets (R195) -/

/-- A part that does not work has its relay off and no code pending. -/
theorem State.BoxFits.of_off (hset : s.set = if s.control.box = .opened then .a else .b) (hl : s.live = false)
    (hr : s.control.relayOn = false) (ht : s.control.through = none)
    (ho : s.control.box = .switchedOut → s.register.opened = [])
    (hx : s.throughSections ≠ [] → s.control.box = .switchedOut) : s.BoxFits where
  set := hset
  relay := by simp [hr, hl]
  through := by simp [ht]
  opened := ho
  only := hx
  pair := by simp [hr]

/-- Lines in their power-on state. -/
theorem State.linesKept_of_reset (h : ∀ l, u.bell l = {}) : u.LinesKept := fun l _ => by
  rw [h l]
  exact ⟨fun _ => ⟨rfl, rfl, rfl, rfl⟩, fun _ ear => by cases ear <;> exact ⟨rfl, nofun⟩⟩

theorem State.throughSections_of_tol (h : ∀ x ∈ Tab.numbers 6, (u.sec x).acc.state ≠ .through) : u.throughSections = [] :=
  List.eq_nil_iff_forall_not_mem.2 fun x hx => h x (State.mem_throughSections.1 hx).1 (State.mem_throughSections.1 hx).2

/-- A warm restart takes no section into THROUGH (R85). -/
theorem State.sectionAtRestart_through {o n : Role} {x : Nat} (h : (s.sectionAtRestart o n x).acc.state = .through) :
    (s.sec x).acc.state = .through := by
  unfold State.sectionAtRestart Accepting.warm at h
  dsimp only at h
  split at h
  · dsimp only at h
    split at h
    · cases h
    · exact h
  · cases h

theorem State.warmRestart_kept (cause : ResetCause) (old : Conf)
    (hset : s.set = if s.control.box = .opened then .a else .b)
    (ho : s.control.box = .switchedOut → s.register.opened = [])
    (hx : s.throughSections ≠ [] → s.control.box = .switchedOut) :
    (s.warmRestart cause old).BoxFits ∧ (s.warmRestart cause old).LinesKept := by
  refine ⟨.of_off hset rfl rfl rfl ho fun hne => hx fun hnil => hne ?_, State.linesKept_of_reset fun _ => Tab.get_rep ..⟩
  refine State.throughSections_of_tol fun x hmem hthrough => ?_
  have hsec : (s.warmRestart cause old).sec x = _ := Tab.get_build _ _ (Tab.mem_numbers.1 hmem).1 (Tab.mem_numbers.1 hmem).2
  rw [hsec] at hthrough
  have : x ∈ s.throughSections := State.mem_throughSections.2 ⟨hmem, State.sectionAtRestart_through hthrough⟩
  simp [hnil] at this

theorem State.powerUp_kept (s : State) : s.powerUp.BoxFits ∧ s.powerUp.LinesKept := by
  refine ⟨.of_off rfl rfl rfl rfl nofun fun hne => absurd ?_ hne, State.linesKept_of_reset State.reset_bell⟩
  refine State.throughSections_of_tol fun x hmem => ?_
  have hsec : s.powerUp.sec x = s.sectionAtPowerOn x := Tab.get_build _ _ (Tab.mem_numbers.1 hmem).1 (Tab.mem_numbers.1 hmem).2
  rw [hsec]
  nofun

theorem State.powerLost_kept (cut : Option CounterCut) (s : State) : (s.powerLost cut).BoxFits ∧ (s.powerLost cut).LinesKept := by
  refine ⟨.of_off rfl rfl rfl rfl nofun fun hne => absurd ?_ hne, State.linesKept_of_reset State.reset_bell⟩
  refine State.throughSections_of_tol fun x _ => ?_
  rw [show (s.powerLost cut).sec x = State.reset.sec x from rfl, State.reset_sec]
  nofun

theorem State.resetLineReset_kept (hs : s.BoxFits) : s.resetLineReset.BoxFits ∧ s.resetLineReset.LinesKept := by
  unfold State.resetLineReset State.cutStoreWrite
  split <;> exact State.warmRestart_kept _ _ hs.set hs.opened hs.only

/-! ### The end of a start interval (R172, R196) -/

theorem State.BoxStays.sectionsStart (h : s.BoxStays t) : s.BoxStays t.sectionsStart := by
  refine .foldl (fun v x hv => ?_) h
  unfold State.sectionStarts; dsimp only
  split
  · refine .emit _ _ _ (hv.putAcc ?_)
    dsimp only
    split <;> exact Iff.rfl
  · exact hv.putOff
  · exact hv

theorem State.BoxStays.unitsBegin (h : s.BoxStays t) : s.BoxStays t.unitsBegin := by
  unfold State.unitsBegin
  have hlevers : s.BoxStays t.leversStart.startUpHolds := h.outside (ps := [.levers, .holds, .emitted]) (by simp) (by decide)
  exact hlevers.sectionsStart.outside (ps := [.bells, .flasher, .sounder]) (by simp) (by decide)

theorem State.linesFrom_bellStarts (h : s.LinesFrom t) (l : Nat) : s.LinesFrom (t.bellStarts l) := by
  refine h.putQuiet id fun hs ear => ?_
  have hstill {b : Prop} [Decidable b] (edge : Time) : (if b then Detector.ignored else .off) ≠ .testing edge := by
    split <;> nofun
  cases ear with
  | receive => exact ⟨(hs .receive).1, hstill⟩
  | manual => exact ⟨(hs .manual).1, hstill⟩

theorem State.linesFrom_unitsBegin (s : State) : s.LinesFrom s.unitsBegin := by
  unfold State.unitsBegin
  have hbefore : s.LinesFrom s.leversStart.startUpHolds.sectionsStart :=
    (State.LinesFrom.refl s).outside (ps := [.levers, .holds, .sections, .emitted]) (by simp) (by decide)
  have hbells : s.LinesFrom s.leversStart.startUpHolds.sectionsStart.bellsStart :=
    .foldl (fun _ l hv => State.linesFrom_bellStarts hv l) hbefore
  exact hbells.outside (State.panelStarts_outside _) (by decide)

/-- The tracks have begun: the box is as it was, and the part works. -/
theorem State.begun_facts (s : State) : Outside [.tracks] (s.entered .running) (s.entered .running).tracksStart ∧
    (s.entered .running).tracksStart.live = true ∧
    (s.entered .running).tracksStart.throughSections = s.throughSections := by
  have hf := (s.entered .running).tracksStart_outside
  exact ⟨hf, State.live_of_mode_eq (hf.mode_eq (by decide)),
    (State.throughSections_eq hf (by decide)).trans rfl⟩

/-- The box comes out of the start interval as it must be: open, kept switched out, or returned (R172). -/
theorem State.switchingStarts_kept (hs : s.BoxFits) (hk : s.LinesKept) (hl : s.live = false) :
    (s.entered .running).tracksStart.switchingStarts.BoxFits ∧ (s.entered .running).tracksStart.switchingStarts.LinesKept := by
  obtain ⟨hf, hlive, hsections⟩ := s.begun_facts
  generalize (s.entered .running).tracksStart = t at hf hlive hsections
  obtain ⟨hbox, hrelay, hthrough⟩ := hf .box (by decide)
  replace hrelay : t.control.relayOn = false := hrelay.trans (hs.relay_off hl)
  have hpending : t.control.through = none := Option.not_isSome_iff_eq_none.1 fun h => by
    simpa [hs.relay_off hl] using hs.through (hthrough ▸ h)
  have hopened : t.control.box = .switchedOut → t.register.opened = [] := by
    rw [hbox, hf .register (by decide)]
    exact hs.opened
  cases hb : t.control.box with
  | opened =>
    rw [State.switchingStarts_opened hb]
    refine ⟨⟨?_, by simp [hrelay, hb], by simp [hpending], hopened, ?_, by simp [hrelay]⟩,
      fun l _ => .free hlive (by simp [State.inRelay, hrelay]) _⟩
    · rw [hbox, hf .set (by decide)]
      exact hs.set
    · rw [hsections, hbox]
      exact hs.only
  | switchedOut =>
    by_cases hr : t.conf.switchOut.may = true ∧ t.throughSections = t.pairAccepting
    · rw [State.switchingStarts_stays hb hr]
      refine ⟨⟨?_, ⟨fun _ => ⟨hb, hlive⟩, fun _ => rfl⟩, fun _ => rfl, hopened, fun _ => hb, fun _ => hr.2⟩, fun l hmem => ?_⟩
      · show t.set = if t.control.box = .opened then .a else .b
        rw [hbox, hf .set (by decide)]
        exact hs.set
      · rw [show t.staysOut.bell l = s.bell l from State.bell_of_bells (hf .bells (by decide))]
        exact ⟨fun _ => (hk l hmem).1 (.inl hl), fun h => absurd h (by simp [show t.staysOut.live = true from hlive])⟩
    · obtain ⟨x, hx⟩ := State.switchingStarts_returns hb (by
        rw [not_and_or, Bool.not_eq_true] at hr
        exact hr)
      have hcf : Outside [.sections, .emitted] ((t.putControl { t.control with box := .opened }).putSet .a) t.comesBack := by
        simp [State.comesBack]
      obtain ⟨hopen, hoff, hnopending⟩ := hcf .box (by decide)
      replace hoff : t.comesBack.control.relayOn = false := hoff.trans hrelay
      have hnone : t.comesBack.throughSections = [] := State.throughSections_of_tol fun x hmem h => by
        obtain ⟨hout, hin⟩ := (State.noneThrough_state (fun v _ => v.throughToTol_state hmem) t.throughSections
          ((t.putControl { t.control with box := .opened }).putSet .a)).1 h
        exact hout (State.mem_throughSections.2 ⟨hmem, hin⟩)
      have hfits : t.comesBack.BoxFits := .of_open hopen (hcf .set (by decide)) hoff (hnopending.trans hpending) hnone
      rw [hx]
      refine ⟨hfits.stays (.emit _ _ _ (.refl _)), fun l _ => .free ?_ ?_ _⟩
      · exact (State.live_of_mode_eq (hcf.mode_eq (by decide))).trans hlive
      · show t.comesBack.inRelay l = false
        simp [State.inRelay, hoff]

theorem State.intervalEnds_kept (hs : s.BoxFits) (hk : s.LinesKept) (hm : s.control.mode = .start) :
    s.intervalEnds.BoxFits ∧ s.intervalEnds.LinesKept := by
  have hl : s.live = false := by simp [State.live, hm]
  have finish {v : State} (hv : v.BoxFits ∧ v.LinesKept) :
      v.settle.startedFirst.BoxFits ∧ v.settle.startedFirst.LinesKept := by
    have hf : Outside [.levers, .holds, .choices, .emitted] v v.settle.startedFirst :=
      v.settle_outside.trans ((State.startedFirst_outside _).mono (by simp))
    exact hv.1.with_lines hv.2 ((State.BoxStays.refl v).outside hf (by decide)) ((State.LinesFrom.refl v).outside hf (by decide))
  cases hg : s.store.checkGood with
  | true =>
    rw [State.intervalEnds_running hg, State.unitsStart_begins rfl]
    obtain ⟨hfits, hlines⟩ := State.switchingStarts_kept hs hk hl
    exact finish (hfits.with_lines hlines (State.BoxStays.refl _).unitsBegin (State.linesFrom_unitsBegin _))
  | false =>
    rw [State.intervalEnds_invalid hg, State.unitsStart_invalid rfl]
    have hstays : s.BoxStays (s.entered (.held .invalid)).leversStart.panelStarts := by
      refine .outside (ps := [.levers, .flasher, .sounder]) (t := s.entered (.held .invalid)) (by simp) (by decide) ?_
      exact ⟨rfl, rfl, rfl, .inl, hl.symm, rfl, fun _ h => h, fun _ => Iff.rfl⟩
    refine finish (hs.with_lines hk hstays ?_)
    exact (State.LinesFrom.of_bells (.refl s) rfl).outside (ps := [.levers, .flasher, .sounder])
      (t := s.entered (.held .invalid)) (by simp) (by decide)

/-! ### Requests -/

/-- A part that is past the start interval works, but for a configuration that is invalid. -/
theorem State.live_of_valid (hm : s.control.mode ≠ .start) (hi : s.invalid = false) : s.live = true := by
  cases h : s.control.mode with
  | start => exact absurd h hm
  | running => simp [State.live, h]
  | held c => cases c <;> simp_all [State.live, State.invalid]

theorem State.own_kept (r : Request) (hs : s.BoxFits) (hk : s.LinesKept) (hm : s.control.mode ≠ .start) :
    (s.own r).2.2.BoxFits ∧ (s.own r).2.2.LinesKept := by
  have same {u : State} (h : s.BoxStays u) (hb : u.bells = s.bells) : u.BoxFits ∧ u.LinesKept :=
    hs.with_lines hk h (.of_bells (.refl s) hb)
  have frame {ps : List Part} {u : State} (k : Outside ps s u) (hp : .set ∉ ps ∧ .box ∉ ps ∧ .mode ∉ ps ∧
      .configuration ∉ ps ∧ .register ∉ ps ∧ .sections ∉ ps) (hb : .bells ∉ ps) : u.BoxFits ∧ u.LinesKept :=
    same ((State.BoxStays.refl s).outside k hp) (k .bells hb)
  cases r with
  | sendBell l e k =>
    cases hi : s.invalid with
    | true =>
      simp only [State.own, State.sendBell, State.sendBellFail, hi, if_true]
      exact ⟨hs, hk⟩
    | false =>
      exact hs.with_lines hk ((State.BoxStays.refl s).outside (State.sendBell_outside _ _ _ s) (by decide))
        (State.linesFrom_sendBell _ _ _ (State.live_of_valid hm hi))
  | switchOut => exact State.switchOut_kept hs hk
  | switchIn =>
    cases hi : s.invalid with
    | true =>
      simp only [State.own, State.switchIn, hi, Bool.or_true, if_true]
      exact ⟨hs, hk⟩
    | false => exact State.switchIn_kept hs hk (State.live_of_valid hm hi)
  | sectionRestore a =>
    exact same ((State.BoxStays.refl s).sectionRestore _) (State.sectionRestore_outside _ s .bells (by decide))
  | closeRecord a => exact same ((State.BoxStays.refl s).closeRecord _) (State.closeRecord_outside _ s .bells (by decide))
  | collectRecord a => exact same ((State.BoxStays.refl s).collectRecord _) (State.collectRecord_outside _ s .bells (by decide))
  | trackRestore a => exact same ((State.BoxStays.refl s).trackRestore _) (State.trackRestore_outside _ s .bells (by decide))
  | hold =>
    by_cases hr : s.control.mode = .running
    · simp only [State.own, State.holdPart_running hr]
      have hbegun : s.BoxStays s.heldBegun :=
        ⟨rfl, rfl, rfl, .inl, by simp [State.live, hr, State.heldBegun, State.leversOnHold], rfl, fun _ h => h, fun _ => Iff.rfl⟩
      have hrest : Outside [.levers, .holds, .choices, .emitted] s.heldBegun s.heldBegun.settle.holdsOnHold := by simp
      exact same (hbegun.outside hrest (by decide)) ((hrest .bells (by decide)).trans rfl)
    · simp only [State.own, State.holdPart_refused hr]
      exact ⟨hs, hk⟩
  | resume =>
    simp only [State.own]
    unfold State.resumePart State.resumePasses
    split
    · next c hc =>
      split
      · exact ⟨hs, hk⟩
      · next hw =>
        split
        · exact ⟨hs, hk⟩
        · split
          · exact frame (ps := [.after]) (by simp) (by decide) (by decide)
          · next hn =>
            have hcause : c = .hold := by cases c <;> simp_all
            have hbegun : s.BoxStays s.resumedBegun :=
              ⟨rfl, rfl, rfl, .inl, by simp [State.live, hc, hcause, State.resumedBegun], rfl, fun _ h => h, fun _ => Iff.rfl⟩
            exact same hbegun.settle ((State.settle_outside _ .bells (by decide)).trans rfl)
    · exact ⟨hs, hk⟩
  | writeConfig b =>
    simp only [State.own]
    unfold State.writeConfig
    repeat' split
    · exact same ⟨rfl, rfl, rfl, .inl, rfl, rfl, fun _ h => h, fun _ => Iff.rfl⟩ rfl
    all_goals exact ⟨hs, hk⟩
  | _ =>
    refine frame (ps := [.holds, .alerts, .sounder, .lampTest, .levers, .assembler, .requests, .slot, .outbox, .transmitter,
      .linkCounts, .after, .clock, .counters, .choices, .emitted]) ?_ (by decide) (by decide)
    simp only [State.own, State.readOut]
    try split
    all_goals simp

/-! ### Every step -/

/-- What the box asks of a state from which the requests of a working part are served. -/
def State.BoxServed (s : State) : Prop := s.BoxFits ∧ s.LinesKept ∧ s.control.mode ≠ .start

/-- A new link leaves the box and the lines. -/
theorem State.putLink_kept (k : Link) (h : s.BoxFits ∧ s.LinesKept) : (s.putLink k).BoxFits ∧ (s.putLink k).LinesKept :=
  h.1.with_lines h.2 ⟨rfl, rfl, rfl, .inl, rfl, rfl, fun _ h => h, fun _ => Iff.rfl⟩ (.of_bells (.refl s) rfl)

theorem servesBox : Serves State.BoxServed (fun s => s.BoxFits ∧ s.LinesKept) where
  weaker _ h := ⟨h.1, h.2.1⟩
  link _ k h :=
    have hput := State.putLink_kept k ⟨h.1, h.2.1⟩
    ⟨hput.1, hput.2, h.2.2⟩
  reply _ k h := State.putLink_kept k h
  own r _ h := State.own_kept r h.1 h.2.1 h.2.2

/-- What a step needs to keep the box: the recognizers tell which codes can finish, the link which requests wait. -/
def State.BoxPremise (s : State) : Prop := s.BoxFits ∧ s.LinesKept ∧ s.RecognizersKept ∧ s.LinkKept

theorem EventOf.keepsBox {f : State → State} (hf : EventOf f) (h : s.BoxPremise) : (f s).BoxFits ∧ (f s).LinesKept := by
  obtain ⟨hs, hk, hears, hlink⟩ := h
  have lines {u : State} (h : s.BoxStays u) (hu : s.LinesFrom u) : u.BoxFits ∧ u.LinesKept := hs.with_lines hk h hu
  have bells {ps : List Part} {u : State} (k : Outside ps s u) (hp : .set ∉ ps ∧ .box ∉ ps ∧ .mode ∉ ps ∧
      .configuration ∉ ps ∧ .register ∉ ps ∧ .sections ∉ ps) (hu : s.LinesFrom u) : u.BoxFits ∧ u.LinesKept :=
    lines ((State.BoxStays.refl s).outside k hp) hu
  have same {ps : List Part} {u : State} (k : Outside ps s u) (hp : .bells ∉ ps) (h : s.BoxStays u) :
      u.BoxFits ∧ u.LinesKept := lines h ((State.LinesFrom.refl s).outside k hp)
  have other {ps : List Part} {u : State} (k : Outside ps s u) (hp : .set ∉ ps ∧ .box ∉ ps ∧ .mode ∉ ps ∧
      .configuration ∉ ps ∧ .register ∉ ps ∧ .sections ∉ ps) (hb : .bells ∉ ps) : u.BoxFits ∧ u.LinesKept :=
    bells k hp ((State.LinesFrom.refl s).outside k hb)
  have here := State.BoxStays.refl s
  cases hf with
  | aside hf => exact other (hf s) (by decide) (by decide)
  | relayDrops a => exact same (State.relayDrops_outside a s) (by decide) (here.relayDrops a)
  | relayPicksUp a => exact other (State.relayPicksUp_outside a s) (by decide) (by decide)
  | pickUpExpires a => exact same (State.pickUpExpires_outside a s) (by decide) (here.pickUpExpires a)
  | graceExpires r => exact same (State.graceExpires_outside r s) (by decide) (here.graceExpires r)
  | catchLifts n => exact other (State.catchLifts_outside n s) (by decide) (by decide)
  | catchLowers n => exact same (State.catchLowers_outside n s) (by decide) (here.catchLowers n)
  | detectorOpens n => exact same (State.detectorOpens_outside n s) (by decide) (here.detectorOpens n)
  | detectorMakes n => exact same (State.detectorMakes_outside n s) (by decide) (here.detectorMakes n)
  | travelExpires n => exact other (State.travelExpires_outside n s) (by decide) (by decide)
  | countdownExpires n => exact other (State.countdownExpires_outside n s) (by decide) (by decide)
  | readyLapses n => exact other (State.readyLapses_outside n s) (by decide) (by decide)
  | switchMoves x => exact same (State.switchMoves_outside x s) (by decide) (here.switchMoves x)
  | blockLineChanged x => exact same (State.blockLineChanged_outside x s) (by decide) (here.blockLineChanged x)
  | stabilityExpires x => exact same (State.stabilityExpires_outside x s) (by decide) (here.stabilityExpires x)
  | inputOn l ear => exact bells (State.inputOn_outside l ear s) (by decide) (s.linesFrom_inputOn l ear)
  | inputOff l ear => exact lines (here.inputOff l ear) (hk.inputOff l ear hears)
  | testExpires l ear => exact bells (State.testExpires_outside l ear s) (by decide) (s.linesFrom_testExpires l ear)
  | relayOff l => exact bells (State.relayOff_outside l s) (by decide) (s.linesFrom_relayOff l)
  | endGapExpires l ear => exact lines (here.endGapExpires l ear) (hk.endGapExpires l ear)
  | strokeStarts l => exact bells (State.strokeStarts_outside l s) (by decide) (hk.strokeStarts l)
  | strokeEnds l => exact lines (here.strokeEnds l) (hk.strokeEnds l)
  | plungerPressed l => exact bells (State.plungerPressed_outside l s) (by decide) (s.linesFrom_plungerPressed l)
  | plungerReleased l => exact bells (State.plungerReleased_outside l s) (by decide) (s.linesFrom_plungerReleased l)
  | plungerExpires l => exact bells (State.plungerExpires_outside l s) (by decide) (s.linesFrom_plungerExpires l)
  | deadlineExpires l => exact bells (State.deadlineExpires_outside l s) (by decide) (s.linesFrom_deadlineExpires l)
  | reminderExpires l => exact bells (State.reminderExpires_outside l s) (by decide) (s.linesFrom_reminderExpires l)
  | throughExpires => exact same (State.throughExpires_outside s) (by decide) here.throughExpires
  | intervalEnds =>
    dsimp only
    split
    · next hover => exact State.intervalEnds_kept hs hk (by simpa using ((Bool.and_eq_true _ _).mp hover).1)
    · exact ⟨hs, hk⟩
  | resetLineReset => exact State.resetLineReset_kept hs
  | resetLineReleased =>
    unfold State.resetLineReleased
    split
    · exact lines ⟨rfl, rfl, rfl, .inl, rfl, rfl, fun _ h => h, fun _ => Iff.rfl⟩ (.of_bells (.refl s) rfl)
    · exact ⟨hs, hk⟩
  | restartReset =>
    unfold State.restartReset
    split
    · exact State.warmRestart_kept _ _ hs.set hs.opened hs.only
    · exact ⟨hs, hk⟩
  | storeWriteBegins => exact other (State.storeWriteBegins_outside s) (by decide) (by decide)
  | storeWriteEnds =>
    unfold State.storeWriteEnds
    split
    · exact State.warmRestart_kept (s := s.putStore { s.store with inForce := s.store.working, checkGood := true }) _ _
        hs.set hs.opened hs.only
    · exact ⟨hs, hk⟩
  | submit tag r =>
    by_cases hm : s.control.mode = .start
    · unfold State.submit
      rw [if_pos hm]
      exact ⟨hs, hk⟩
    · exact servesBox.submit tag r ⟨hs, hk, hm⟩
  | byteArrives b e =>
    by_cases hm : s.control.mode = .start
    · unfold State.byteArrives
      rw [if_pos hm]
      exact ⟨hs, hk⟩
    · exact servesBox.byteArrives b e ⟨hs, hk, hm⟩
  | frameGoes =>
    by_cases hm : s.control.mode = .start
    · obtain ⟨-, -, -, -, -, -, -, -, -, -, hstart⟩ := hlink
      obtain ⟨-, -, -, -, htx, -, -⟩ := hstart hm
      unfold State.frameGoes
      rw [htx]
      exact ⟨hs, hk⟩
    · exact servesBox.frameGoes ⟨hs, hk, hm⟩

/-- Every step keeps the box and its lines. -/
theorem keepsBox : Keeps State.BoxPremise (fun s => s.BoxFits ∧ s.LinesKept) where
  moves _ _ _ _ h :=
    ⟨h.1.stays ⟨rfl, rfl, rfl, .inl, rfl, rfl, fun _ ho => ho, fun _ => Iff.rfl⟩, h.2.1, h.2.2.1, h.2.2.2⟩
  stays _ h := ⟨h.1, h.2.1⟩
  event _ hf _ h := hf.keepsBox h
  close _ h := h.1.with_lines h.2 ((State.BoxStays.refl _).outside (State.close_outside _) (by decide))
    ((State.LinesFrom.refl _).outside (State.close_outside _) (by decide))
  powersUp s _ := s.powerUp_kept
  restores s _ := (s.powerLost none).powerUp_kept
  powerLost cut s _ := s.powerLost_kept cut

/-- Settles O8: every step keeps the box with its lines, and the recognizers by which alone a code can finish. -/
theorem stepKeepsBox : Obligations.StepKeepsBox := by
  intro s u hbox hears hquiet hlink hstep
  obtain ⟨hfits, hlines⟩ := State.boxKept_iff.1 ⟨hbox, hquiet⟩
  obtain ⟨hbox', hquiet'⟩ := State.boxKept_iff.2 (keepsBox.step ⟨hfits, hlines, hears, hlink⟩ hstep)
  exact ⟨hbox', keepsRecognizers.step hears hstep, hquiet'⟩

end Sys2Proof.Machine

namespace Sys2Proof.Machine

variable {ps : List Part} {s t u v : State}

/-! ### The terminals of a lever (R21) -/

/-- Time comes to `tm` and the terminals of lever `n` change. -/
def State.withLever (tm : Time) (n : Nat) (f : LeverInputs → LeverInputs) (s : State) : State :=
  (s.advance tm).putInputs (Inputs.setLever n f s.inputs)

theorem State.withLever_outside (tm : Time) (n : Nat) (f : LeverInputs → LeverInputs) (s : State) :
    Outside [.now, .inputs] s (s.withLever tm n f) := by simp [State.withLever]

theorem isLever_range {n : Nat} (h : isLever n = true) : 1 ≤ n ∧ n ≤ 24 := by
  simpa [isLever] using h

theorem State.withLever_leverInputs {n : Nat} (tm : Time) (f : LeverInputs → LeverInputs) (s : State) (hn : isLever n = true) :
    (s.withLever tm n f).leverInputs n = f (s.leverInputs n) :=
  Tab.get_put_self _ _ _ (isLever_range hn).1 (isLever_range hn).2

/-- A powered part takes a change at the terminals of a lever. -/
theorem exec_leverChange {c : Instr} {tm : Time} {n : Nat} {f : LeverInputs → LeverInputs} {g : State → State}
    (hc : exec c s = .next (s.terminal tm (Inputs.setLever n f) g)) (hp : s.powered = true) (hn : isLever n = true)
    (hf : s.leverInputs n ≠ f (s.leverInputs n)) : exec c s = .next (g (s.withLever tm n f)).close := by
  rw [hc, State.terminal_powered tm _ _ hp (Inputs.setLever_ne hn hf)]
  rfl

/-- What an event makes of the terminals of a lever, through its close. -/
theorem State.close_withLever_inputs {tm : Time} {n : Nat} {f : LeverInputs → LeverInputs}
    (h : Outside ps (s.withLever tm n f) u) (hp : .inputs ∉ ps) :
    u.close.inputs = { s.inputs with levers := s.inputs.levers.put n (f (s.leverInputs n)) } :=
  (State.close_outside u .inputs (by decide)).trans ((h .inputs hp).trans rfl)

theorem State.close_levers (s : State) : s.close.levers = s.levers := State.close_outside s .levers (by decide)

theorem State.close_lever (s : State) (n : Nat) : s.close.lever n = s.lever n := lever_of_levers s.close_levers

/-- A lever that keeps its standing position presents none (R23). -/
theorem State.moveLever_still {n : Nat} {l : Lever} {e : NoticeEvent} {x : List Byte} {b : Bool} (hn : isLever n = true)
    (hl : l.phase.standing = s.standing n) : s.moveLever n l e x b = (s.putLever n l).emit e n x := by
  have hnew : ((s.putLever n l).emit e n x).standing n = s.standing n := by
    show ((s.putLever n l).lever n).phase.standing = _
    rw [State.lever_putLever, if_pos ⟨rfl, isLever_range hn⟩, hl]
  unfold State.moveLever State.present
  dsimp only
  rw [if_pos hnew]

/-- A lever in a FREE state or in TRAVEL stands nowhere (R23). -/
theorem LeverPhase.standing_of_free {p : LeverPhase} (h : p.isFree = true) : p.standing = .nowhere := by
  revert h; cases p <;> decide

/-- An event of a lever begins with nothing drafted. -/
theorem State.withLever_drafts {tm : Time} {n : Nat} {f : LeverInputs → LeverInputs} (h : s.emitted = []) :
    (s.withLever tm n f).drafts = [] := State.drafts_of_emitted h

/-- An event that replaces a lever and reaches nothing else. -/
theorem lever_event_changes_lever_alone {n : Nat} {l : Lever} {ns : List (NoticeEvent × Nat)}
    (hv : Outside [.now, .inputs] s v) (hm : s.control.mode ≠ .start) (hu : Outside [.emitted] (v.putLever n l) u)
    (hd : u.drafts = ns) :
    u.close.levers = s.levers.put n l ∧ s.announces u.close ns ∧ ChangesOnly [.inputs, .levers] s u.close := by
  have hall : Outside [.now, .inputs, .levers, .emitted] s u :=
    Outside.trans (t := v.putLever n l) (by simpa using hv.mono (by simp)) (hu.mono (by simp))
  refine ⟨?_, State.announces_of_outside hall (by decide) hm hd, changesOnly_close (hall.mono (by simp [closing]))⟩
  rw [State.close_levers, hu .levers (by decide), State.putLever_levers, hv .levers (by decide)]

/-- An event that reaches nothing but the terminals. -/
theorem lever_event_changes_nothing (hv : Outside [.now, .inputs] s v) (hm : s.control.mode ≠ .start) (hd : v.drafts = []) :
    s.announces v.close [] ∧ ChangesOnly [.inputs] s v.close :=
  ⟨State.announces_of_outside hv (by decide) hm hd, changesOnly_close (hv.mono (by simp [closing]))⟩

/-! ### Travel begins (R34) -/

/-- A lever as it leaves the position of its release at time `now` (R34). -/
def Lever.leaving (l : Lever) (now : Time) : Lever :=
  { l with phase := .travel, origin := if l.phase = .normalFree then .normal else .reverse, timer := .running (now + 10000) }

theorem State.detectorOpens_leaves {n : Nat} (hm : s.control.mode ≠ .start) (hn : isLever n = true)
    (hf : (s.lever n).phase.isFree = true) :
    s.detectorOpens n = (s.putLever n ((s.lever n).leaving s.now)).emit .leverLeft n [] := by
  have hmoves : s.detectorOpens n = s.moveLever n ((s.lever n).leaving s.now) .leverLeft [] false := by
    unfold State.detectorOpens
    dsimp only
    rw [if_neg hm]
    split
    case h_5 | h_6 => rfl
    all_goals simp_all [LeverPhase.isFree]
  rw [hmoves]
  exact State.moveLever_still hn (LeverPhase.standing_of_free hf).symm

/-- A lever whose terminals do not seat it ends no travel (R35). -/
theorem State.tryEnd_unseated {n : Nat} (h : (s.leverInputs n).seatedAt = none) : s.tryEnd n = s := by
  unfold State.tryEnd
  rw [h]

theorem State.detectorOpens_moving {n : Nat} (hm : s.control.mode ≠ .start)
    (hp : (s.lever n).phase = .travel ∨ (s.lever n).phase = .fault) : s.detectorOpens n = s.tryEnd n := by
  unfold State.detectorOpens
  dsimp only
  rw [if_neg hm]
  rcases hp with h | h <;> rw [h]

theorem LeverInputs.setSide_catch (side : Side) (b : Bool) (i : LeverInputs) :
    (i.setSide side b).catchLifted = i.catchLifted := by cases side <;> rfl

theorem LeverInputs.seatedAt_lifted {i : LeverInputs} (h : i.catchLifted = true) : i.seatedAt = none := if_pos h

/-- Settles O30: a detector that opens under a release begins travel. -/
theorem detectorOpenBeginsTravel : Obligations.DetectorOpenBeginsTravel := by
  intro s tm n side ⟨⟨hpowered, hemitted⟩, hmode⟩ hn hopens
  have hexec : exec (.detectorOpen tm n side) s = _ := exec_leverChange (s := s) rfl hpowered hn hopens
  have hin := s.withLever_outside tm n (LeverInputs.setSide side false)
  have hdrafts := State.withLever_drafts (tm := tm) (n := n) (f := LeverInputs.setSide side false) hemitted
  refine ⟨fun hfree => ?_, fun htravel hlifted => ?_⟩
  · rw [State.detectorOpens_leaves (s := s.withLever tm n _) hmode hn hfree] at hexec
    exact ⟨_, hexec, lever_event_changes_lever_alone hin hmode (State.emit_outside _ _ _ _)
      ((State.drafts_emit ..).trans (congrArg (· ++ _) hdrafts))⟩
  · rw [State.detectorOpens_moving (s := s.withLever tm n _) hmode (.inl htravel), State.tryEnd_unseated] at hexec
    · exact ⟨_, hexec, lever_event_changes_nothing hin hmode hdrafts⟩
    · rw [State.withLever_leverInputs tm _ s hn]
      exact LeverInputs.seatedAt_lifted ((LeverInputs.setSide_catch ..).trans hlifted)

/-! ### The catch lowers (R24) -/

/-- What an examination leaves of a lever that it cannot move, through the close of the event. -/
theorem State.close_settle_lever {n : Nat} (h : (s.lever n).phase.movable = false) : s.settle.close.lever n = s.lever n :=
  (s.settle.close_lever n).trans (s.settle_movesWithin.fixed n h)

theorem LeverPhase.movable_eq_false {p : LeverPhase} : p.movable = false ↔ p.isCatch = false ∧ p.isFree = false := by
  simp [LeverPhase.movable]

theorem State.catchLowers_seats {n : Nat} (hm : s.control.mode ≠ .start) (hc : (s.lever n).phase.isCatch = true) :
    s.catchLowers n = s.putLever n { s.lever n with phase := (s.lever n).phase.seated, fresh := true } := by
  unfold State.catchLowers
  dsimp only
  rw [if_neg hm]
  split
  case h_1 | h_2 => rfl
  all_goals simp_all [LeverPhase.isCatch]

theorem State.catchLowers_givesUp {n : Nat} (hm : s.control.mode ≠ .start) (hf : (s.lever n).phase.isFree = true) :
    s.catchLowers n = (s.moveLever n ({ s.lever n with fresh := true }.atRest (s.lever n).phase.seated) .leverGivenUp []
      false).settle := by
  unfold State.catchLowers
  dsimp only
  rw [if_neg hm]
  split
  case h_3 | h_4 => rfl
  all_goals simp_all [LeverPhase.isFree]

theorem LeverPhase.seated_facts {p : LeverPhase} (h : p.isFree = true) : p.seated.movable = false := by
  revert h; cases p <;> decide

theorem State.Appends.present (n : Nat) (o : Standing) (b : Bool) (h : s.Appends t) : s.Appends (t.present n o b) := by
  unfold State.present; dsimp only
  repeat' split
  · exact h
  · exact h.signalStandsNormal n
  · exact (h.signalArrivesReverse n).consumeRelease n
  · exact h.signalStandsReverse n
  · exact h

/-- The notice of a lever's move comes before those of its holds (R23). -/
theorem State.moveLever_drafts_first (n : Nat) (l : Lever) (e : NoticeEvent) (x : List Byte) (b : Bool) (s : State) :
    s.drafts ++ [(e, n)] <+: (s.moveLever n l e x b).drafts := by
  have h := ((State.Appends.refl ((s.putLever n l).emit e n x)).present n (s.standing n) b).drafts
  rwa [State.drafts_emit] at h

theorem State.moveLever_settled_outside (n : Nat) (l : Lever) (e : NoticeEvent) (x : List Byte) (s : State) :
    Outside [.levers, .holds, .choices, .emitted] s (s.moveLever n l e x false).settle := by simp

/-- A lever moved into a state that no examination reaches, with the examination that ends its event: it stands there, every
other lever that no examination reaches is as it was, and its notice comes first. -/
theorem moveLever_event {n : Nat} {l : Lever} {e : NoticeEvent} (hv : Outside [.now, .inputs] s v)
    (hm : s.control.mode ≠ .start) (hd : v.drafts = []) (hn : isLever n = true) (hl : l.phase.movable = false)
    (he : e ≠ .holdRemoved) :
    (v.moveLever n l e [] false).settle.close.lever n = l ∧
      (∀ m ∈ Tab.numbers 24, m ≠ n → (s.lever m).phase.isCatch = false → (s.lever m).phase.isFree = false →
        (v.moveLever n l e [] false).settle.close.lever m = s.lever m) ∧
      s.announcesFirst (v.moveLever n l e [] false).settle.close [(e, n)] ∧
      ChangesOnly [.inputs, .levers, .holds, .choices] s (v.moveLever n l e [] false).settle.close := by
  have hown : (v.moveLever n l e [] false).lever n = l := by
    rw [State.moveLever_lever, if_pos ⟨rfl, isLever_range hn⟩]
  have hother {m : Nat} (h : m ≠ n) : (v.moveLever n l e [] false).lever m = s.lever m := by
    rw [State.moveLever_lever, if_neg fun e => h e.1]
    exact State.lever_of_outside hv (by decide) m
  have hall : Outside [.now, .inputs, .levers, .holds, .choices, .emitted] s (v.moveLever n l e [] false).settle := by
    exact (hv.mono (by simp)).trans ((v.moveLever_settled_outside n l e []).mono (by simp))
  refine ⟨?_, fun m _ hmn hc hf => ?_, ?_, changesOnly_close (hall.mono (by simp [closing]))⟩
  · rw [State.close_settle_lever (by rwa [hown]), hown]
  · rw [State.close_settle_lever (by rw [hother hmn]; exact LeverPhase.movable_eq_false.2 ⟨hc, hf⟩), hother hmn]
  · refine State.announcesFirst_of_outside hall (by decide) hm (State.prefix_settle (by simpa using he) ?_)
    simpa [hd] using v.moveLever_drafts_first n l e [] false

/-- Settles O29: the catch that lowers seats a waiting lever, and gives the release of a released one up. -/
theorem catchLowerSeatsOrGivesUp : Obligations.CatchLowerSeatsOrGivesUp := by
  intro s tm n ⟨⟨hpowered, hemitted⟩, hmode⟩ hn hlifted
  have hexec : exec (.catchLower tm n) s = _ := exec_leverChange (s := s) (n := n) (f := fun k => { k with catchLifted := false })
    rfl hpowered hn fun e => absurd (congrArg LeverInputs.catchLifted e) (by simp [hlifted])
  have hin := s.withLever_outside tm n (fun k => { k with catchLifted := false })
  have hdrafts := State.withLever_drafts (tm := tm) (n := n) (f := fun k => { k with catchLifted := false }) hemitted
  refine ⟨fun hcatch => ?_, fun hfree => ?_⟩
  · rw [State.catchLowers_seats (s := s.withLever tm n _) hmode hcatch] at hexec
    obtain ⟨hlevers, hann, hchanges⟩ := lever_event_changes_lever_alone hin hmode (.refl _ _) hdrafts
    exact ⟨_, hexec, hlevers, State.close_withLever_inputs (State.putLever_outside _ _ _) (by decide), hann, hchanges⟩
  · rw [State.catchLowers_givesUp (s := s.withLever tm n _) hmode hfree] at hexec
    obtain ⟨hown, hothers, hfirst, hchanges⟩ := moveLever_event (n := n)
      (l := { s.lever n with fresh := true }.atRest (s.lever n).phase.seated) hin hmode hdrafts hn
      (LeverPhase.seated_facts hfree) (e := .leverGivenUp) (by decide)
    exact ⟨_, hexec, hown, hothers, State.close_withLever_inputs (State.moveLever_settled_outside _ _ _ _ _)
      (by decide), hfirst, hchanges⟩

end Sys2Proof.Machine

namespace Sys2Proof.Machine

variable {ps : List Part} {s t u v : State}

/-! ### An alert of the highest priority is entered (R178) -/

theorem foldl_lowerAlert_mem (b : Alert) (l : List Alert) : ∃ o ∈ b :: l, l.foldl lowerAlert (some b) = some o := by
  induction l generalizing b with
  | nil => exact ⟨b, List.mem_cons_self .., rfl⟩
  | cons a l ih =>
    have hstep : lowerAlert (some b) a = some a ∨ lowerAlert (some b) a = some b := by
      unfold lowerAlert; dsimp only; split <;> simp
    rcases hstep with h | h
    · obtain ⟨o, ho, he⟩ := ih a
      exact ⟨o, List.mem_cons_of_mem _ ho, by rw [List.foldl_cons, h, he]⟩
    · obtain ⟨o, ho, he⟩ := ih b
      refine ⟨o, ?_, by rw [List.foldl_cons, h, he]⟩
      rcases List.mem_cons.1 ho with rfl | ho
      · exact List.mem_cons_self ..
      · exact List.mem_cons_of_mem _ (List.mem_cons_of_mem _ ho)

/-- Of a list and an alert that is no lower, the list gives up one of its own. -/
theorem lowestAlert_append_top {a : Alert} {l : List Alert} (hne : l ≠ []) (hle : ∀ b ∈ l, b.priority ≤ a.priority) :
    ∃ o ∈ l, lowestAlert (l ++ [a]) = some o := by
  obtain ⟨b, l, rfl⟩ := List.exists_cons_of_ne_nil hne
  obtain ⟨o, ho, he⟩ := foldl_lowerAlert_mem b l
  refine ⟨o, ho, ?_⟩
  have hl : (b :: l).foldl lowerAlert none = some o := he
  rw [lowestAlert_eq_foldl, List.foldl_append, hl]
  exact if_neg (Nat.not_lt.2 (hle o ho))

/-- An alert that no entry outranks stands in the list as raised, but for its count. -/
theorem mem_raiseOf_top {a : Alert} {l : List Alert} (hle : ∀ b ∈ l, b.priority ≤ a.priority) :
    ∃ n, { a with count := n } ∈ (raiseOf a l).1 := by
  have last {m : List Alert} {n : Nat} : ∃ k, { a with count := k } ∈ m ++ [{ a with count := n }] :=
    ⟨n, List.mem_append_right _ (List.mem_singleton_self _)⟩
  unfold raiseOf
  split
  · exact last
  · next hfind =>
    split
    · exact last (n := a.count)
    · next hfull =>
      split
      · exact last (n := a.count)
      · have hne : l ≠ [] := by rintro rfl; simp at hfull
        obtain ⟨o, ho, hlow⟩ := lowestAlert_append_top hne hle
        have hsame : ¬ o.same a = true := fun hs => List.find?_eq_none.1 hfind o ho
          (Alert.same_iff.2 ⟨(Alert.same_iff.1 hs).1.symm, (Alert.same_iff.1 hs).2.symm⟩)
        simp only [hlow, if_neg hsame]
        exact last (n := a.count)

/-- A forced movement stands in the alert list (R25, R178). -/
theorem State.mem_raise_forced (n : Nat) (h : s.AlertsKept) :
    ∃ a ∈ (s.raise .leverForced n).panel.alerts, a.kind = .leverForced ∧ a.object = n ∧ a.acked = false ∧ a.priority = 15 := by
  obtain ⟨-, -, hentries⟩ := h
  obtain ⟨c, hc⟩ := mem_raiseOf_top (a := s.newAlert .leverForced n 15) fun b hb => (hentries b hb).2.1
  exact ⟨_, (s.raise_makes .leverForced n).alerts ▸ hc, rfl, rfl, rfl, rfl⟩

/-! ### Faults (R25, R26) -/

theorem LeverInputs.derives_eq (i : LeverInputs) : i.derives = i.phase := by
  obtain ⟨a, b, c⟩ := i
  cases a <;> cases b <;> cases c <;> rfl

theorem State.catchLifts_start (n : Nat) (hm : s.control.mode = .start) : s.catchLifts n = s.derive n := if_pos hm
theorem State.catchLowers_start (n : Nat) (hm : s.control.mode = .start) : s.catchLowers n = s.derive n := if_pos hm
theorem State.detectorMakes_start (n : Nat) (hm : s.control.mode = .start) : s.detectorMakes n = s.derive n := if_pos hm
theorem State.detectorOpens_start (n : Nat) (hm : s.control.mode = .start) : s.detectorOpens n = s.derive n := if_pos hm

/-- In the start interval a change at a lever's terminals derives its state and does nothing else (R44). -/
theorem exec_leverChange_start {tm : Time} {n : Nat} {c : Instr} {i : LeverInputs} (hb : s.between)
    (hm : s.control.mode = .start) (hn : isLever n = true) (hc : LeverChange tm n (s.leverInputs n) c i)
    (hne : s.leverInputs n ≠ i) :
    ∃ f, f (s.leverInputs n) = i ∧ exec c s = .next ((s.withLever tm n f).derive n).close := by
  rcases hc with ⟨rfl, rfl⟩ | ⟨rfl, rfl⟩ | ⟨side, rfl, rfl⟩ | ⟨side, rfl, rfl⟩
  · refine ⟨fun k => { k with catchLifted := true }, rfl, (exec_leverChange rfl hb.1 hn hne).trans ?_⟩
    rw [State.catchLifts_start (s := s.withLever tm n _) n hm]
  · refine ⟨fun k => { k with catchLifted := false }, rfl, (exec_leverChange rfl hb.1 hn hne).trans ?_⟩
    rw [State.catchLowers_start (s := s.withLever tm n _) n hm]
  · refine ⟨LeverInputs.setSide side true, rfl, (exec_leverChange rfl hb.1 hn hne).trans ?_⟩
    rw [State.detectorMakes_start (s := s.withLever tm n _) n hm]
  · refine ⟨LeverInputs.setSide side false, rfl, (exec_leverChange rfl hb.1 hn hne).trans ?_⟩
    rw [State.detectorOpens_start (s := s.withLever tm n _) n hm]

theorem State.start_lever_event {tm : Time} {n : Nat} {c : Instr} {i : LeverInputs} (hb : s.between)
    (hm : s.control.mode = .start) (hn : isLever n = true) (hc : LeverChange tm n (s.leverInputs n) c i)
    (hne : s.leverInputs n ≠ i) :
    ∃ u, exec c s = .next u ∧ u.inputs = { s.inputs with levers := s.inputs.levers.put n i } ∧
      u.levers = s.levers.put n { s.lever n with phase := i.derives } ∧
      u.link.outbox = s.link.outbox ∧ u.link.lost = s.link.lost ∧ ChangesOnly [.inputs, .levers] s u := by
  obtain ⟨f, rfl, hexec⟩ := exec_leverChange_start hb hm hn hc hne
  have hin := s.withLever_outside tm n f
  have hderive := State.derive_outside n (s.withLever tm n f)
  have hall : Outside [.now, .inputs, .levers] s ((s.withLever tm n f).derive n) :=
    (hin.mono (by simp)).trans (hderive.mono (by simp))
  obtain ⟨hout, hlost, -⟩ := State.close_places_nothing ((hall .emitted (by decide)).trans hb.2)
  obtain ⟨hout', hlost', -⟩ := hall .outbox (by decide)
  refine ⟨_, hexec, State.close_withLever_inputs hderive (by decide), ?_, hout.trans hout', hlost.trans hlost',
    changesOnly_close (hall.mono (by simp [closing]))⟩
  rw [State.close_levers, LeverInputs.derives_eq, State.derive, State.withLever_leverInputs tm f s hn]
  rfl

theorem State.forcedMovement_lever (n m : Nat) (s : State) (hn : isLever n = true) :
    (s.forcedMovement n).lever m = if m = n then (s.lever n).toFault else s.lever m := by
  have hf : Outside [.counters, .alerts, .sounder, .emitted] (s.putLever n (s.lever n).toFault) (s.forcedMovement n) := by
    simp [State.forcedMovement]
  rw [State.lever_of_outside hf (by decide), State.lever_putLever]
  simp [isLever_range hn]

/-- What a forced movement leaves, through the examination and the close of its event (R25). -/
theorem State.forced_event {n : Nat} (hv : Outside [.now, .inputs] s v) (ha : s.AlertsKept) (hn : isLever n = true) :
    (v.forcedMovement n).settle.close.lever n = (s.lever n).toFault ∧
      (∀ m ∈ Tab.numbers 24, m ≠ n → (s.lever m).phase.isCatch = false → (s.lever m).phase.isFree = false →
        (v.forcedMovement n).settle.close.lever m = s.lever m) ∧
      (v.forcedMovement n).settle.close.store =
        s.store.putCounter (.forced n) (s.store.counter (.forced n)).increment ∧
      (∃ a ∈ (v.forcedMovement n).settle.close.panel.alerts,
        a.kind = .leverForced ∧ a.object = n ∧ a.acked = false ∧ a.priority = 15) ∧
      ChangesOnly [.inputs, .levers, .holds, .choices, .counters, .alerts, .sounder] s (v.forcedMovement n).settle.close := by
  have hlever (m : Nat) : v.lever m = s.lever m := State.lever_of_outside hv (by decide) m
  have hend : Outside [.levers, .holds, .choices, .emitted, .now, .outbox, .transmitter] (v.forcedMovement n)
      (v.forcedMovement n).settle.close :=
    ((State.settle_outside _).mono (by simp)).trans ((State.close_outside _).mono (by simp))
  have hcounted : Outside [.now, .inputs, .levers, .counters] s ((v.putLever n (v.lever n).toFault).count (.forced n)) :=
    (hv.mono (by simp)).trans (by simp)
  refine ⟨?_, fun m _ hmn hc hf => ?_, ?_, ?_, ?_⟩
  · rw [State.close_settle_lever] <;> rw [State.forcedMovement_lever n n v hn, if_pos rfl, hlever]
    rfl
  · rw [State.close_settle_lever] <;> rw [State.forcedMovement_lever n m v hn, if_neg hmn, hlever]
    exact LeverPhase.movable_eq_false.2 ⟨hc, hf⟩
  · have hraised : Outside [.alerts, .sounder, .emitted] ((v.putLever n (v.lever n).toFault).count (.forced n))
        (v.forcedMovement n) := by simp [State.forcedMovement]
    rw [hend.store_eq (by decide), hraised.store_eq (by decide), ← hv.store_eq (by decide)]
    rfl
  · obtain ⟨a, hmem, hfacts⟩ := State.mem_raise_forced n (ha.outside hcounted (by decide))
    exact ⟨a, (hend .alerts (by decide)).symm ▸ hmem, hfacts⟩
  · have hall : Outside [.now, .inputs, .levers, .holds, .choices, .counters, .alerts, .sounder, .emitted] s
        (v.forcedMovement n).settle :=
      (hv.mono (by simp)).trans (((State.forcedMovement_outside n v).mono (by simp)).trans
        ((State.settle_outside _).mono (by simp)))
    exact changesOnly_close (hall.mono (by simp [closing]))

theorem State.detectorMakes_faults {n : Nat} (hm : s.control.mode ≠ .start) (hp : (s.lever n).phase ≠ .fault)
    (hi : (s.leverInputs n).normalMade = true ∧ (s.leverInputs n).reverseMade = true) :
    s.detectorMakes n = (s.moveLever n (s.lever n).toFault .leverBothDetectors [] false).settle := by
  unfold State.detectorMakes
  dsimp only
  rw [if_neg hm, hi.1, hi.2]
  exact if_neg hp

/-- Settles O31: a detector that opens under the lock is a forced movement, and both made are a fault. -/
theorem detectorsFaultTheLever : Obligations.DetectorsFaultTheLever := by
  refine ⟨fun s tm n c i hb hm hn hc hne => State.start_lever_event hb hm hn hc hne,
    fun s tm n side ⟨⟨hpowered, hemitted⟩, hmode⟩ hn => ⟨fun ha hopens hp => ?_, fun hp hmakes hnormal hreverse => ?_⟩⟩
  · have hexec : exec (.detectorOpen tm n side) s = _ := exec_leverChange (s := s) rfl hpowered hn hopens
    have hphase : (s.lever n).phase = .normal ∨ (s.lever n).phase = .normalCatch ∨ (s.lever n).phase = .reverse ∨
        (s.lever n).phase = .reverseCatch := by
      rcases hp with hc | h | h
      · revert hc; cases (s.lever n).phase <;> decide
      · exact .inl h
      · exact .inr (.inr (.inl h))
    rw [State.detectorOpens_forces (s := s.withLever tm n _) hmode hphase] at hexec
    exact ⟨_, hexec, State.forced_event (s.withLever_outside _ _ _) ha hn⟩
  · have hexec : exec (.detectorMake tm n side) s = _ := exec_leverChange (s := s) rfl hpowered hn hmakes
    have hinputs := State.withLever_leverInputs tm (LeverInputs.setSide side true) s hn
    rw [State.detectorMakes_faults (s := s.withLever tm n _) hmode hp (hinputs ▸ ⟨hnormal, hreverse⟩)] at hexec
    exact ⟨_, hexec, moveLever_event (s.withLever_outside _ _ _) hmode (State.withLever_drafts hemitted) hn rfl (by decide)⟩

end Sys2Proof.Machine

namespace Sys2Proof.Machine

variable {ps : List Part} {s t u v : State}

/-! ### What an examination keeps (R29, R32) -/

/-- What withdrawals and grants keep, and what reads neither the free choices nor the notices, an examination keeps. -/
structure ExaminationKeeps (P : State → Prop) : Prop where
  withdraw : ∀ (v : State) (n : Nat) (f : GrantFail), n ∈ Tab.numbers 24 → (v.lever n).phase.isFree = true → P v →
    P (v.withdraw n f)
  grant : ∀ (v : State) (n : Nat), n ∈ Tab.numbers 24 → (v.lever n).phase.isCatch = true → v.grantFail n = none → P v →
    P (v.grantLever n)
  frame : ∀ v u : State, Outside [.choices, .emitted] v u → P v → P u

variable {P : State → Prop}

theorem ExaminationKeeps.withdrawals (h : ExaminationKeeps P) {l : List (Nat × GrantFail)} (hl : (l.map (·.1)).Nodup)
    (hf : ∀ n ∈ l.map (·.1), n ∈ Tab.numbers 24 ∧ (v.lever n).phase.isFree = true) (hv : P v) :
    P (l.foldl (fun v k => v.withdraw k.1 k.2) v) := by
  induction l generalizing v with
  | nil => exact hv
  | cons k l ih =>
    obtain ⟨hnew, hl⟩ := List.nodup_cons.1 hl
    obtain ⟨hn, hfree⟩ := hf k.1 (List.mem_cons_self ..)
    refine ih hl (fun n hmem => ?_) (h.withdraw v k.1 k.2 hn hfree hv)
    have hne : n ≠ k.1 := by rintro rfl; exact hnew hmem
    obtain ⟨hnum, hphase⟩ := hf n (List.mem_cons_of_mem _ hmem)
    rw [State.withdraw_lever, if_neg fun e => hne e.1]
    exact ⟨hnum, hphase⟩

theorem ExaminationKeeps.withdrawPass (h : ExaminationKeeps P) (hv : P v) : P v.withdrawPass := by
  refine h.withdrawals ?_ (fun n hn => ?_) hv
  · rw [State.failing_numbers]
    exact (Tab.nodup_numbers 24).filter _
  · rw [State.failing_numbers, List.mem_filter, Bool.and_eq_true] at hn
    exact ⟨hn.1, hn.2.1⟩

theorem ExaminationKeeps.settleLevers (h : ExaminationKeeps P) (fuel : Nat) (hv : P v) : P (v.settleLevers fuel) := by
  induction fuel generalizing v with
  | zero => exact h.withdrawPass hv
  | succ fuel ih =>
    have hw := h.withdrawPass hv
    have grants {w : State} {n : Nat} (hp : P w) (hn : n ∈ w.grantable) : P (w.grantLever n) := by
      obtain ⟨hnum, hcatch, hgrant⟩ := State.grantable_iff.1 hn
      exact h.grant w n hnum hcatch hgrant hp
    unfold State.settleLevers; dsimp only
    split
    · exact hw
    · next n hl => exact ih (grants hw (by simp [hl]))
    · next n m rest hl =>
      refine ih (grants (h.frame _ _ ((State.nextChoice_outside _).mono (by simp)) hw) ?_)
      rw [show State.grantable { v.withdrawPass with choices := v.withdrawPass.choices + 1 } = n :: m :: rest from hl]
      exact getD_mod_mem (by simp) _ _

theorem ExaminationKeeps.settle (h : ExaminationKeeps P) (hs : P s) : P s.settle :=
  h.frame _ _ ((State.removalsLast_outside _).mono (by simp)) (h.settleLevers 48 hs)

/-! ### Holds of other signals (R52, R56) -/

theorem State.hold?_removeHold (n k : Nat) (c : HoldCause) (s : State) :
    (s.removeHold n c).hold? k = if k = n then none else s.hold? k := State.hold?_putHolds_filter ..

theorem State.testSequential_other {n k : Nat} (h : k ≠ n) (s : State) : (s.testSequential n).hold? k = s.hold? k := by
  unfold State.testSequential
  repeat' split
  case h_2.isTrue => rw [State.hold?_removeHold, if_neg h]
  all_goals rfl

theorem State.testApproach_other {n k : Nat} (h : k ≠ n) (s : State) : (s.testApproach n).hold? k = s.hold? k := by
  unfold State.testApproach
  repeat' split
  case h_2.isTrue => rw [State.hold?_removeHold, if_neg h]
  all_goals rfl

theorem State.testRelease_other {n k : Nat} (h : k ≠ n) (s : State) : (s.testRelease n).hold? k = s.hold? k :=
  (State.testApproach_other h _).trans (State.testSequential_other h s)

theorem State.putHold_other {k : Nat} {h : Hold} (hk : k ≠ h.signal) (s : State) : (s.putHold h).hold? k = s.hold? k := by
  rw [State.hold?_putHold, if_neg hk]

/-- A lever that moves without arriving reaches no hold but its own (R52, R56). -/
theorem State.present_other {n k : Nat} (h : k ≠ n) (old : Standing) (s : State) :
    (s.present n old false).hold? k = s.hold? k := by
  unfold State.present; dsimp only
  split
  · rfl
  · split
    · unfold State.signalStandsNormal
      split
      · rfl
      · next j hj =>
        dsimp only
        split
        · rw [State.testRelease_other h]
          exact State.putHold_other (by rw [State.hold?_signal hj]; exact h) s
        · exact State.testRelease_other h s
    · unfold State.signalStandsReverse
      simp only [Bool.false_eq_true, if_false]
      split
      · rfl
      · next j hj => exact State.putHold_other (by rw [State.hold?_signal hj]; exact h) s
    · rfl

theorem State.moveLever_other {n k : Nat} (h : k ≠ n) (l : Lever) (e : NoticeEvent) (x : List Byte) (s : State) :
    (s.moveLever n l e x false).hold? k = s.hold? k :=
  (State.present_other h _ _).trans rfl

/-! ### The release tests (R57, R58) -/

theorem State.testRelease_none {n : Nat} (h : s.hold? n = none) : s.testRelease n = s := by
  simp [State.testRelease, State.testSequential, State.testApproach, h]

/-- A hold that the tests reach goes where they pass. -/
theorem State.testRelease_removes {n : Nat} {g : Hold} (hg : s.hold? n = some g) (ht : g.testable = true)
    (hn : s.standing n = .normal) (hr : s.releasable g) : (s.testRelease n).hold? n = none := by
  by_cases hlast : g.stages.getLast? = some .cleared
  · have hseq : s.testSequential n = s.removeHold n .sequential := by simp [State.testSequential, hg, ht, hn, hlast]
    have hgone : (s.removeHold n .sequential).hold? n = none := by rw [State.hold?_removeHold, if_pos rfl]
    rw [State.testRelease, hseq, State.testApproach, hgone]
    exact hgone
  · obtain ⟨hwaiting, happroach⟩ := hr.resolve_left hlast
    have hseq : s.testSequential n = s := by simp [State.testSequential, hg, hlast]
    have hclear : s.approachClear g = true := by
      rw [State.approachClear, Option.all_eq_true]
      exact happroach
    have hwait : (g.stages.all fun k => decide (k = .waiting)) = true := by simpa using hwaiting
    have happ : s.testApproach n = s.removeHold n .approach := by simp [State.testApproach, hg, ht, hn, hwait, hclear]
    rw [State.testRelease, hseq, happ, State.hold?_removeHold, if_pos rfl]

/-- A hold that fails the tests, or that they do not reach, stays. -/
theorem State.testRelease_stays {n : Nat} {g : Hold} (hg : s.hold? n = some g)
    (h : ¬ (g.testable = true ∧ s.standing n = .normal ∧ s.releasable g)) : s.testRelease n = s := by
  have hseq : s.testSequential n = s := by
    unfold State.testSequential
    rw [hg]
    refine if_neg fun hc => h ?_
    simp only [Bool.and_eq_true, decide_eq_true_eq] at hc
    exact ⟨hc.1.1, hc.1.2, .inl hc.2⟩
  rw [State.testRelease, hseq]
  unfold State.testApproach
  rw [hg]
  refine if_neg fun hc => h ?_
  simp only [Bool.and_eq_true, decide_eq_true_eq, List.all_eq_true, State.approachClear, Option.all_eq_true] at hc
  exact ⟨hc.1.1.1, hc.1.1.2, .inr ⟨hc.1.2, hc.2⟩⟩

theorem State.releasable_of_outside (k : Outside ps s u) (hp : .configuration ∉ ps ∧ .tracks ∉ ps) {g h : Hold}
    (hs : g.signal = h.signal) (hg : g.stages = h.stages) : u.releasable g ↔ s.releasable h := by
  have hclear (t : Nat) : u.clear t = s.clear t := by rw [State.clear, State.track, k.tracks_eq hp.2]; rfl
  simp only [State.releasable, State.approachOf, k.conf_eq hp.1, hs, hg, hclear]

/-! ### A ready window that lapses (R52, R63) -/

/-- A hold back in its prior state with its reversal set or clear. -/
def Hold.lapsedWith (h : Hold) (b : Bool) : Hold := { h.backToPrior with reversal := b }

/-- What the lapse of the ready window of hold `h` may have made of it by `v`: gone, where the release tests reach it and
pass, or back in its prior state, its reversal set anew at most. -/
def State.Lapsed (s : State) (n : Nat) (h : Hold) (v : State) : Prop :=
  (v.hold? n = none ∧ h.prior = some .holding ∧ s.releasable h) ∨ ∃ b, v.hold? n = some (h.lapsedWith b)

/-- What the lapse and its examination change. -/
def lapsing : List Part := [.now, .holds, .levers, .choices, .alerts, .sounder, .emitted]

theorem Hold.backToPrior_testable {h : Hold} {b : Bool} (ht : (h.lapsedWith b).testable = true) :
    h.prior = some .holding := by
  cases hp : h.prior with
  | none => simp [Hold.lapsedWith, Hold.testable, Hold.backToPrior, hp] at ht
  | some p => cases p <;> simp_all [Hold.lapsedWith, Hold.testable, Hold.backToPrior, PriorState.toState]

theorem State.Lapsed.testRelease {n : Nat} {h : Hold} (k : Outside lapsing s v) (hv : s.Lapsed n h v) :
    s.Lapsed n h (v.testRelease n) := by
  rcases hv with ⟨hnone, hwhy⟩ | ⟨b, hb⟩
  · rw [State.testRelease_none hnone]
    exact .inl ⟨hnone, hwhy⟩
  · by_cases hc : (h.lapsedWith b).testable = true ∧ v.standing n = .normal ∧
        v.releasable (h.lapsedWith b)
    · obtain ⟨ht, hn, hr⟩ := hc
      exact .inl ⟨State.testRelease_removes hb ht hn hr, Hold.backToPrior_testable ht,
        (State.releasable_of_outside k (by decide) rfl rfl).1 hr⟩
    · rw [State.testRelease_stays hb hc]
      exact .inr ⟨b, hb⟩

/-- A hold back in its prior state is not ACTIVE: a signal that comes to stand normal binds it no more. -/
theorem Hold.lapsedWith_bound (h : Hold) (b : Bool) : (h.lapsedWith b).state ≠ .active := by
  cases hp : h.prior with
  | none => simp [Hold.lapsedWith, Hold.backToPrior, hp]
  | some p => cases p <;> simp [Hold.lapsedWith, Hold.backToPrior, hp, PriorState.toState]

theorem State.Lapsed.present {n : Nat} {h : Hold} (k : Outside lapsing s v) (hv : s.Lapsed n h v) (hs : h.signal = n) (m : Nat)
    (old : Standing) : s.Lapsed n h (v.present m old false) := by
  by_cases hm : n = m
  · subst hm
    unfold State.present; dsimp only
    split
    · exact hv
    · split
      · unfold State.signalStandsNormal
        split
        · exact hv
        · next j hj =>
          rcases hv with ⟨hnone, -⟩ | ⟨b, hb⟩
          · simp [hnone] at hj
          · obtain rfl : _ = j := Option.some.inj (hb.symm.trans hj)
            dsimp only
            rw [if_neg (h.lapsedWith_bound b)]
            exact State.Lapsed.testRelease k (.inr ⟨b, hb⟩)
      · simp only [Bool.false_eq_true, if_false]
        unfold State.signalStandsReverse
        split
        · exact hv
        · next j hj =>
          rcases hv with ⟨hnone, -⟩ | ⟨b, hb⟩
          · simp [hnone] at hj
          · obtain rfl : _ = j := Option.some.inj (hb.symm.trans hj)
            refine .inr ⟨true, ?_⟩
            show (v.putHold (h.lapsedWith true)).hold? n = some (h.lapsedWith true)
            rw [State.hold?_putHold, if_pos (show n = (h.lapsedWith true).signal from hs.symm), hb]
            rfl
      · exact hv
  · have hsame := State.present_other hm old v
    unfold State.Lapsed
    rw [hsame]
    exact hv

/-- Withdrawals and grants keep what a lapse has made of a hold. -/
theorem examinationKeeps_lapsed {n : Nat} {h : Hold} (hs : h.signal = n) :
    ExaminationKeeps fun v => Outside lapsing s v ∧ s.Lapsed n h v := by
  have moves (v : State) (m : Nat) (l : Lever) (e : NoticeEvent) (x : List Byte) (hv : Outside lapsing s v ∧ s.Lapsed n h v) :
      Outside lapsing s (v.moveLever m l e x false) ∧ s.Lapsed n h (v.moveLever m l e x false) := by
    obtain ⟨hout, hlapsed⟩ := hv
    have hput : Outside lapsing s ((v.putLever m l).emit e m x) := by simpa [lapsing] using hout
    exact ⟨by simpa [lapsing] using hout, State.Lapsed.present hput hlapsed hs m _⟩
  refine ⟨fun v m f _ _ hv => moves v m _ _ _ hv, fun v m _ _ _ hv => moves v m _ _ _ hv, fun v u k hv => ?_⟩
  refine ⟨hv.1.trans (k.mono (by simp [lapsing])), ?_⟩
  unfold State.Lapsed
  rw [State.hold?_of_outside k (by decide)]
  exact hv.2

/-- A hold that is gone stays gone. -/
theorem examinationKeeps_gone (n : Nat) : ExaminationKeeps fun v => v.hold? n = none := by
  have moves (v : State) (m : Nat) (l : Lever) (e : NoticeEvent) (x : List Byte) (hv : v.hold? n = none) :
      (v.moveLever m l e x false).hold? n = none := by
    by_cases hm : n = m
    · subst hm
      have hput : ((v.putLever n l).emit e n x).hold? n = none := hv
      have hnormal : ((v.putLever n l).emit e n x).signalStandsNormal n = (v.putLever n l).emit e n x := by
        simp [State.signalStandsNormal, hput]
      have hreverse : ((v.putLever n l).emit e n x).signalStandsReverse n = (v.putLever n l).emit e n x := by
        simp [State.signalStandsReverse, hput]
      unfold State.moveLever State.present
      simp only [Bool.false_eq_true, if_false, hnormal, hreverse]
      split
      · exact hput
      · split <;> exact hput
    · exact (State.moveLever_other hm l e x v).trans hv
  exact ⟨fun v m f _ _ hv => moves v m _ _ _ hv, fun v m _ _ _ hv => moves v m _ _ _ hv,
    fun v u k hv => (State.hold?_of_outside k (by decide) n).trans hv⟩

/-- A raise of an alert sends two notices at most (R178). -/
theorem raiseOf_notices (a : Alert) (l : List Alert) : (raiseOf a l).2.1.length ≤ 2 := by
  unfold raiseOf
  repeat' split
  all_goals simp

/-- A notice that an event announces with others is in the outbox, where there is room for all of them. -/
theorem State.announcesFirst_mem {l : List (NoticeEvent × Nat)} {e : NoticeEvent} {n : Nat} (h : s.announcesFirst u l)
    (hl : (e, n) ∈ l) (hs : s.sends e.kind = true) (hroom : s.link.outbox.length + l.length ≤ 32) :
    ∃ k ∈ u.link.outbox, k.event = e ∧ k.object = n := by
  obtain ⟨more, hmore⟩ := h hroom
  have hmem : (e, n) ∈ u.link.outbox.map fun k => (k.event, k.object) := by
    rw [hmore]
    exact List.mem_append_left _ (List.mem_append_right _ (List.mem_filter.2 ⟨hl, hs⟩))
  obtain ⟨k, hk, he⟩ := List.mem_map.1 hmem
  exact ⟨k, hk, congrArg Prod.fst he, congrArg Prod.snd he⟩

/-- The ready window of a hold has lapsed, before the examination. -/
def State.windowLapsed (n : Nat) (h : Hold) (s : State) : State :=
  (((s.putHold h.backToPrior).raise .releaseLapsed n).emit .holdLapsed n []).testRelease n

/-- The hold is back in its prior state, before the release tests. -/
def State.windowEnds (n : Nat) (h : Hold) (s : State) : State :=
  ((s.putHold h.backToPrior).raise .releaseLapsed n).emit .holdLapsed n []

theorem State.windowEnds_outside (n : Nat) (h : Hold) (s : State) :
    Outside [.holds, .alerts, .sounder, .emitted] s (s.windowEnds n h) := by simp [State.windowEnds]

theorem State.windowEnds_hold? {n : Nat} {h : Hold} (hh : s.hold? n = some h) :
    (s.windowEnds n h).hold? n = some (h.lapsedWith h.reversal) := by
  have hraise : Outside [.alerts, .sounder, .emitted] (s.putHold h.backToPrior) (s.windowEnds n h) := by
    simp [State.windowEnds]
  rw [State.hold?_of_outside hraise (by decide), State.hold?_putHold, hh]
  exact if_pos (show n = h.signal from (State.hold?_signal hh).symm)

/-- The notices of a lapse: those of its alert and *lapsed*, in their order, before any other. -/
theorem State.windowLapsed_drafts (n : Nat) (h : Hold) (hd : s.drafts = []) :
    ∃ ns, ns.length ≤ 2 ∧ (∀ k ∈ ns, k.1 ≠ .holdRemoved) ∧ ns ++ [(.holdLapsed, n)] <+: (s.windowLapsed n h).drafts := by
  have hmakes := ((s.putHold h.backToPrior).raise_makes .releaseLapsed n).drafts
  refine ⟨_, raiseOf_notices _ _, State.raise_drafts_kept hmakes, ?_⟩
  have hfirst := ((State.Appends.refl (s.windowEnds n h)).testRelease n).drafts
  rwa [State.windowEnds, State.drafts_emit, hmakes, show (s.putHold h.backToPrior).drafts = [] from hd, List.nil_append] at hfirst

theorem State.windowLapsed_alert (n : Nat) (h : Hold) (hroom : s.panel.alerts.length < 16) :
    ∃ a ∈ (s.windowLapsed n h).panel.alerts, a.kind = .releaseLapsed ∧ a.object = n ∧ a.acked = false := by
  obtain ⟨a, ha, hkind, hobject, -, hacked, -⟩ := (s.putHold h.backToPrior).mem_raise .releaseLapsed n hroom
  have htest : Outside [.holds, .emitted] ((s.putHold h.backToPrior).raise .releaseLapsed n) (s.windowLapsed n h) := by
    simp [State.windowLapsed]
  exact ⟨a, (htest .alerts (by decide)).symm ▸ ha, hkind, hobject, hacked⟩

/-- What the lapse of a ready window leaves, with its examination and the close of the event (R63). -/
theorem readyWindow_event {tm : Time} {n : Nat} {h : Hold} (hs : s.started) (hh : s.hold? n = some h) :
    let u := ((s.advance tm).windowLapsed n h).settle.close
    (u.hold? n = none ∨ ∃ b, u.hold? n = some { h.backToPrior with reversal := b }) ∧
      (u.hold? n = none → h.prior = some .holding ∧ s.releasable h) ∧
      (h.prior = some .holding → s.standing n = .normal → s.releasable h → u.hold? n = none) ∧
      (s.sends .hold = true → s.link.outbox.length + 3 ≤ 32 → ∃ k ∈ u.link.outbox, k.event = .holdLapsed ∧ k.object = n) ∧
      (s.panel.alerts.length < 16 → ∃ a ∈ u.panel.alerts, a.kind = .releaseLapsed ∧ a.object = n ∧ a.acked = false) ∧
      ChangesOnly [.holds, .levers, .choices, .alerts, .sounder] s u := by
  obtain ⟨⟨-, hemitted⟩, hmode⟩ := hs
  intro u
  have hsignal := State.hold?_signal hh
  have hends := (s.advance tm).windowEnds_outside n h
  have hnarrow : Outside [.now, .holds, .alerts, .sounder, .emitted] s ((s.advance tm).windowEnds n h) :=
    ((s.advance_outside tm).mono (by simp)).trans (hends.mono (by simp))
  have hbefore : Outside lapsing s ((s.advance tm).windowEnds n h) := hnarrow.mono (by simp [lapsing])
  have hhold : ((s.advance tm).windowEnds n h).hold? n = some (h.lapsedWith h.reversal) := State.windowEnds_hold? hh
  have hlapsed : s.Lapsed n h ((s.advance tm).windowLapsed n h) := State.Lapsed.testRelease hbefore (.inr ⟨_, hhold⟩)
  have hall : Outside lapsing s ((s.advance tm).windowLapsed n h) :=
    hbefore.trans ((State.testRelease_outside n _).mono (by simp [lapsing]))
  obtain ⟨hsettled, hend⟩ := (examinationKeeps_lapsed hsignal).settle ⟨hall, hlapsed⟩
  have hclose : u.hold? n = ((s.advance tm).windowLapsed n h).settle.hold? n :=
    State.hold?_of_outside (State.close_outside _) (by decide) n
  rw [State.Lapsed, ← hclose] at hend
  refine ⟨?_, fun hnone => ?_, fun hp hn hr => ?_, fun hsends hroom => ?_, fun hroom => ?_, ?_⟩
  · rcases hend with ⟨hnone, -⟩ | hback
    · exact .inl hnone
    · exact .inr hback
  · rcases hend with ⟨-, hwhy⟩ | ⟨b, hb⟩
    · exact hwhy
    · simp [hnone] at hb
  · rw [hclose]
    refine (examinationKeeps_gone n).settle (State.testRelease_removes hhold ?_ ?_ ?_)
    · simp [Hold.lapsedWith, Hold.testable, Hold.backToPrior, hp, PriorState.toState]
    · exact (congrArg (fun l : Lever => l.phase.standing) (State.lever_of_outside hnarrow (by decide) n)).trans hn
    · exact (State.releasable_of_outside hbefore (by decide) rfl rfl).2 hr
  · obtain ⟨ns, hlength, hkept, hfirst⟩ := State.windowLapsed_drafts (s := s.advance tm) n h (State.drafts_of_emitted hemitted)
    have hann : s.announcesFirst u (ns ++ [(.holdLapsed, n)]) :=
      State.announcesFirst_of_outside hsettled (by decide) hmode (State.prefix_settle (fun k hk => by
        rcases List.mem_append.1 hk with hk | hk
        · exact hkept k hk
        · simp [List.mem_singleton.1 hk]) hfirst)
    exact State.announcesFirst_mem hann (by simp) hsends (by simp; omega)
  · obtain ⟨a, ha, hfacts⟩ := State.windowLapsed_alert (s := s.advance tm) n h hroom
    have hlast : Outside [.levers, .holds, .choices, .emitted, .now, .outbox, .transmitter]
        ((s.advance tm).windowLapsed n h) u :=
      ((State.settle_outside _).mono (by simp)).trans ((State.close_outside _).mono (by simp))
    exact ⟨a, (hlast .alerts (by decide)).symm ▸ ha, hfacts⟩
  · exact changesOnly_close (hsettled.mono (by simp [lapsing, closing]))

/-! ### The travel timer and the countdown (R37, R61) -/

theorem travelTimer_event {tm e : Time} {n : Nat} (hs : s.started) (hp : (s.lever n).phase = .travel)
    (ht : (s.lever n).timer = .running e) (he : e ≤ max s.now tm) :
    ∃ u, exec (.travelTimerExpiry tm n) s = .next u ∧
      u.levers = s.levers.put n { s.lever n with timer := .expired } ∧ s.announcesFirst u [(.leverOverdue, n)] ∧
      (s.panel.alerts.length < 16 → ∃ a ∈ u.panel.alerts, a.kind = .travelOverdue ∧ a.object = n ∧ a.acked = false) ∧
      ChangesOnly [.levers, .alerts, .sounder] s u := by
  obtain ⟨⟨hpowered, hemitted⟩, hmode⟩ := hs
  have hexec := exec_event (i := .travelTimerExpiry tm n) rfl hpowered (State.travelExpires_due (s := s.advance tm) hp ht he)
  generalize hv : ((s.advance tm).putLever n { (s.advance tm).lever n with timer := .expired }).emit .leverOverdue n [] = v at hexec
  have hbefore : Outside [.now, .levers, .emitted] s v := by subst hv; simp
  have hraise := State.raise_outside .travelOverdue n v
  have hall : Outside [.now, .levers, .alerts, .sounder, .emitted] s (v.raise .travelOverdue n) :=
    (hbefore.mono (by simp)).trans (hraise.mono (by simp))
  refine ⟨_, hexec, ?_, ?_, fun hroom => ?_, changesOnly_close (hall.mono (by simp [closing]))⟩
  · rw [State.close_levers, hraise .levers (by decide)]
    subst hv
    rfl
  · refine State.announcesFirst_of_outside hall (by decide) hmode ?_
    have hdrafts : v.drafts = [(.leverOverdue, n)] := by
      subst hv
      exact (State.drafts_emit ..).trans (congrArg (· ++ _) (State.drafts_of_emitted hemitted))
    exact hdrafts ▸ ((State.Appends.refl v).raise .travelOverdue n).drafts
  · have hroom' : v.panel.alerts.length < 16 := by
      rw [hbefore .alerts (by decide)]
      exact hroom
    obtain ⟨a, ha, hkind, hobject, -, hacked, -⟩ := v.mem_raise .travelOverdue n hroom'
    exact ⟨a, ((State.close_outside _) .alerts (by decide)).symm ▸ ha, hkind, hobject, hacked⟩

/-- A travel timer that is marked expired runs no more (R37). -/
theorem State.travelExpires_expired {n : Nat} (h : (s.lever n).timer = .expired) : s.travelExpires n = s := by
  unfold State.travelExpires
  dsimp only
  rw [h]

theorem State.countdownExpires_due {n : Nat} {h : Hold} {e : Time} (hh : s.hold? n = some h) (hs : h.state = .timing)
    (ht : h.timer = some e) (he : e ≤ s.now) : s.countdownExpires n =
      (s.putHold { h with state := .ready, timer := some (s.now + 30000) }).emit .holdReady n [] := by
  unfold State.countdownExpires
  rw [hh]
  exact if_pos (by simp [hs, ht, due, he])

theorem countdown_event {tm e : Time} {n : Nat} {h : Hold} (hs : s.started) (hh : s.hold? n = some h)
    (hstate : h.state = .timing) (ht : h.timer = some e) (he : e ≤ max s.now tm) :
    ∃ u, exec (.timeReleaseTimerExpiry tm n) s = .next u ∧
      u.hold? n = some { h with state := .ready, timer := some (max s.now tm + 30000) } ∧
      (∀ i, u.sourceTrue i .timeReleaseReady n = true) ∧ (∀ m, m ≠ n → u.hold? m = s.hold? m) ∧
      s.announces u [(.holdReady, n)] ∧ ChangesOnly [.holds] s u := by
  obtain ⟨⟨hpowered, hemitted⟩, hmode⟩ := hs
  have hexec := exec_event (i := .timeReleaseTimerExpiry tm n) rfl hpowered
    (State.countdownExpires_due (s := s.advance tm) hh hstate ht he)
  generalize hw : (((s.advance tm).putHold { h with state := .ready, timer := some ((s.advance tm).now + 30000) }).emit
    .holdReady n []) = w at hexec
  have hall : Outside [.now, .holds, .emitted] s w := by subst hw; simp
  have hread (m : Nat) : w.close.hold? m = if m = n then (s.hold? m).map
      fun _ => { h with state := .ready, timer := some (max s.now tm + 30000) } else s.hold? m := by
    rw [State.hold?_of_outside (State.close_outside w) (by decide)]
    subst hw
    refine (State.hold?_putHold _ m (s.advance tm)).trans ?_
    rw [show ({ h with state := .ready, timer := some ((s.advance tm).now + 30000) } : Hold).signal = n from
      show h.signal = n from State.hold?_signal hh]
    rfl
  have hready := hread n
  rw [if_pos rfl, hh] at hready
  refine ⟨_, hexec, hready, fun i => ?_, fun m hm => (hread m).trans (if_neg hm), ?_, changesOnly_close (hall.mono (by simp [closing]))⟩
  · simp [State.sourceTrue, hready]
  · refine State.announces_of_outside hall (by decide) hmode ?_
    subst hw
    exact (State.drafts_emit ..).trans (congrArg (· ++ _) (State.drafts_of_emitted hemitted))

/-- Settles O33: travel timer, countdown and ready window expire. -/
theorem travelAndReleaseTimersExpire : Obligations.TravelAndReleaseTimersExpire := by
  refine ⟨fun s tm n hs _ hp => ⟨fun e ht he => travelTimer_event hs hp ht he, fun ht => ?_⟩,
    fun s tm e n h hs hh ht he => ⟨fun hstate => countdown_event hs hh hstate ht he, fun hstate => ?_⟩⟩
  · have hexec := exec_event (i := .travelTimerExpiry tm n) rfl hs.1.1 (State.travelExpires_expired (s := s.advance tm) ht)
    have hall := s.advance_outside tm
    exact ⟨_, hexec, State.announces_of_outside hall (by decide) hs.2 (State.drafts_of_emitted hs.1.2),
      changesOnly_close (hall.mono (by simp [closing]))⟩
  · have hdue : (s.advance tm).readyLapses n = ((s.advance tm).windowLapsed n h).settle :=
      State.readyLapses_due hh hstate ht he
    have hexec := exec_event (i := .readyWindowLapse tm n) rfl hs.1.1 hdue
    exact ⟨_, hexec, readyWindow_event hs hh⟩

end Sys2Proof.Machine

namespace Sys2Proof.Machine

variable {ps : List Part} {s t u v w : State}

theorem Outside.invalid_eq (h : Outside ps s u) (hp : .mode ∉ ps) : u.invalid = s.invalid := by
  rw [State.invalid, h.mode_eq hp]; rfl

/-! ### A lever moves where an arrival may be presented (R23, R33, R50, R88) -/

theorem State.signalArrivesReverse_unlocks (n : Nat) (s : State) : s.Unlocks (s.signalArrivesReverse n) := by
  unfold State.signalArrivesReverse
  split
  · exact .of_outside (.refl [] s) (by decide)
  · split
    · exact .of_outside (.refl [] s) (by decide)
    · split
      · exact State.createHold_unlocks _ _ _ _ _ s
      · refine .of_outside (ps := [.holds, .emitted]) ?_ (by decide)
        dsimp only
        split <;> simp

/-- A change of standing position costs a lever in TRAVEL its lock at most. -/
theorem State.present_unlocks (n : Nat) (old : Standing) (b : Bool) (s : State) : s.Unlocks (s.present n old b) := by
  unfold State.present; dsimp only
  split
  · exact .of_outside (.refl [] s) (by decide)
  · split
    · exact .of_outside (State.signalStandsNormal_outside n s) (by decide)
    · split
      · exact (s.signalArrivesReverse_unlocks n).trans (.of_outside (State.consumeRelease_outside n _) (by decide))
      · exact .of_outside (State.signalStandsReverse_outside n s) (by decide)
    · exact .of_outside (.refl [] s) (by decide)

/-- A lever moved to rest stands there, and another may lose the lock of its travel. -/
theorem State.moveLever_levers {n : Nat} {l : Lever} (e : NoticeEvent) (x : List Byte) (b : Bool) (hn : isLever n = true)
    (hl : l.phase ≠ .travel) (s : State) : (s.moveLever n l e x b).lever n = l ∧
      ∀ m, m ≠ n → (s.moveLever n l e x b).lever m = s.lever m ∨
        (s.lever m).phase = .travel ∧ (s.moveLever n l e x b).lever m = { s.lever m with solenoid := false } := by
  have hput (m : Nat) : ((s.putLever n l).emit e n x).lever m = if m = n ∧ 1 ≤ n ∧ n ≤ 24 then l else s.lever m :=
    State.lever_putLever ..
  have hown := hput n
  rw [if_pos ⟨rfl, isLever_range hn⟩] at hown
  have hmove := ((s.putLever n l).emit e n x).present_unlocks n (s.standing n) b
  refine ⟨(hmove.eq_of_not_travel (by rwa [hown])).trans hown, fun m hm => ?_⟩
  have hother := hput m
  rw [if_neg fun k => hm k.1] at hother
  have := hmove m
  rwa [hother] at this

/-- Where a signal comes to stand elsewhere than at REVERSE no arrival is presented (R35). -/
theorem State.moveLever_not_reverse {n : Nat} {l : Lever} (e : NoticeEvent) (x : List Byte) (b : Bool) (hn : isLever n = true)
    (hl : l.phase.standing ≠ .reverse) (s : State) : s.moveLever n l e x b = s.moveLever n l e x false := by
  have hnew : ((s.putLever n l).emit e n x).standing n = l.phase.standing := by
    show ((s.putLever n l).lever n).phase.standing = _
    rw [State.lever_putLever, if_pos ⟨rfl, isLever_range hn⟩]
  unfold State.moveLever State.present
  dsimp only
  rw [hnew]
  cases hp : l.phase.standing
  case reverse => exact absurd hp hl
  all_goals rfl

/-- A lever that comes to REVERSE from elsewhere is presented as arrived (R40). -/
theorem State.moveLever_arrives {n : Nat} {l : Lever} (e : NoticeEvent) (x : List Byte) (hn : isLever n = true)
    (hl : l.phase.standing = .reverse) (hs : s.standing n ≠ .reverse) :
    s.moveLever n l e x true = (((s.putLever n l).emit e n x).signalArrivesReverse n).consumeRelease n := by
  have hnew : ((s.putLever n l).emit e n x).standing n = .reverse := by
    show ((s.putLever n l).lever n).phase.standing = _
    rw [State.lever_putLever, if_pos ⟨rfl, isLever_range hn⟩, hl]
  unfold State.moveLever State.present
  dsimp only
  rw [hnew, if_neg fun h => hs h.symm]
  rfl

/-! ### The release of a section is consumed (R88) -/

/-- A section's line clear release is CONSUMED. -/
def State.consumed (s : State) (x : Nat) : Prop := (s.sec x).off.release = .consumed

/-- The release of section `x` is consumed, with its notice. -/
def State.consumeAt (s : State) (x : Nat) : State :=
  (s.putOff x { (s.sec x).off with release := .consumed }).emit .secReleaseConsumed x
    (b1 (s.sec x).off.release.ord ++ bFlag ((s.sec x).off.release = .none))

theorem State.consumeAt_consumed (s : State) (x j : Nat) (h : s.consumed j ∨ j = x ∧ 1 ≤ x ∧ x ≤ 6) :
    (s.consumeAt x).consumed j := by
  show ((s.putOff x { (s.sec x).off with release := .consumed }).sec j).off.release = .consumed
  rw [State.sec_putOff]
  split
  · rfl
  · next hno => exact h.resolve_right hno

theorem State.consumeAll_consumed {l : List Nat} {j : Nat} (hj : 1 ≤ j ∧ j ≤ 6) (h : s.consumed j ∨ j ∈ l) :
    (l.foldl State.consumeAt s).consumed j := by
  induction l generalizing s with
  | nil => simpa using h
  | cons x l ih =>
    refine ih ?_
    rcases h with h | h
    · exact .inl (s.consumeAt_consumed x j (.inl h))
    · rcases List.mem_cons.1 h with rfl | h
      · exact .inl (s.consumeAt_consumed j j (.inr ⟨rfl, hj⟩))
      · exact .inr h

/-- Every section whose starting signal arrives has its release consumed. -/
theorem State.consumeRelease_consumed {n x : Nat} (hi : s.invalid = false) (hx : x ∈ Tab.numbers 6)
    (hr : (s.conf.sec x).role = .offering) (hs : (s.conf.sec x).starting = n) : (s.consumeRelease n).consumed x := by
  have hrange := Tab.mem_numbers.1 hx
  have hfold : s.consumeRelease n =
      ((Tab.numbers 6).filter fun x => s.isOffering x && (s.conf.sec x).starting == n).foldl State.consumeAt s := by
    rw [State.consumeRelease, hi]; rfl
  rw [hfold]
  exact State.consumeAll_consumed hrange (.inr (List.mem_filter.2 ⟨hx, by simp [State.isOffering, isSection, hrange, hr, hs]⟩))

/-! ### Holds of levers that no examination reaches -/

/-- An examination keeps the hold of a signal whose lever it cannot move. -/
theorem State.settle_hold? {n : Nat} (h : (s.lever n).phase.movable = false) : s.settle.hold? n = s.hold? n := by
  have keeps : ExaminationKeeps fun v => s.MovesWithin v ∧ v.hold? n = s.hold? n := by
    have other {v : State} {m : Nat} (hv : s.MovesWithin v) (hm : (v.lever m).phase.movable = true) : n ≠ m := by
      rintro rfl
      rw [hv.fixed n h, h] at hm
      cases hm
    have movable {v : State} {m : Nat} (hv : s.MovesWithin v) (hm : (v.lever m).phase.movable = true) :
        (s.lever m).phase.movable = true := (hv.side m).1 ▸ hm
    refine ⟨fun v m f _ hf hv => ?_, fun v m _ hc _ hv => ?_, fun v u k hv => ?_⟩
    · have hm : (v.lever m).phase.movable = true := by simp [LeverPhase.movable, hf]
      exact ⟨hv.1.withdraw f (movable hv.1 hm), (State.moveLever_other (other hv.1 hm) _ _ _ v).trans hv.2⟩
    · have hm : (v.lever m).phase.movable = true := by simp [LeverPhase.movable, hc]
      exact ⟨hv.1.grantLever (movable hv.1 hm), (State.moveLever_other (other hv.1 hm) _ _ _ v).trans hv.2⟩
    · exact ⟨hv.1.outside k (by decide), (State.hold?_of_outside k (by decide) n).trans hv.2⟩
  exact (keeps.settle ⟨.refl s, rfl⟩).2

/-! ### Travel ends (R35, R36, R38) -/

/-- The position state of a side. -/
def seatOf : Side → LeverPhase
  | .normal => .normal
  | .reverse => .reverse

theorem seatOf_eq (side : Side) : seatOf side = if side = .normal then .normal else .reverse := by cases side <;> rfl

/-- The terminals of a lever seated on a side. -/
def seatedInputs (side : Side) : LeverInputs := ⟨decide (side = .normal), decide (side = .reverse), false⟩

theorem seatedInputs_seatedAt (side : Side) : (seatedInputs side).seatedAt = some (seatOf side) := by cases side <;> rfl

theorem State.tryEnd_travel {n : Nat} {side : Side} (hi : s.leverInputs n = (seatedInputs side)) (hp : (s.lever n).phase = .travel) :
    s.tryEnd n = (s.moveLever n ((s.lever n).atRest (seatOf side)) (travelOutcome (s.lever n).origin (seatOf side)) []
      (decide (travelOutcome (s.lever n).origin (seatOf side) = .leverArrived))).settle := by
  unfold State.tryEnd
  rw [hi, seatedInputs_seatedAt side]
  dsimp only
  rw [hp]

theorem State.tryEnd_fault {n : Nat} {side : Side} (hi : s.leverInputs n = (seatedInputs side)) (hp : (s.lever n).phase = .fault) :
    s.tryEnd n = (s.moveLever n ((s.lever n).atRest (seatOf side)) .leverFound [] false).settle := by
  unfold State.tryEnd
  rw [hi, seatedInputs_seatedAt side]
  dsimp only
  rw [hp]

/-- At `w` the terminals of `s`'s lever `n` have come to seat it on a side, and its fresh-lift flag is `b`. -/
structure State.Seated (s : State) (n : Nat) (side : Side) (b : Bool) (w : State) : Prop where
  outside : Outside [.now, .inputs, .levers] s w
  inputs : w.leverInputs n = (seatedInputs side)
  drafts : w.drafts = []
  own : w.lever n = { s.lever n with fresh := b }
  others : ∀ m, m ≠ n → w.lever m = s.lever m

/-- Each change of its inputs that seats a lever in TRAVEL or FAULT tries the end of its travel (R35, R36, R38). -/
theorem State.seats_exec {tm : Time} {n : Nat} {side : Side} {c : Instr} (hs : s.started) (hn : isLever n = true)
    (hseats : s.seats tm n side c) (hp : (s.lever n).phase = .travel ∨ (s.lever n).phase = .fault) :
    ∃ w, exec c s = .next (w.tryEnd n).close ∧
      s.Seated n side ((s.lever n).fresh || decide (c = .catchLower tm n)) w := by
  obtain ⟨⟨hpowered, hemitted⟩, hmode⟩ := hs
  obtain ⟨hmoves, hc⟩ := hseats
  have seated {f : LeverInputs → LeverInputs} (hf : f (s.leverInputs n) = (seatedInputs side)) :
      s.Seated n side (s.lever n).fresh (s.withLever tm n f) :=
    { outside := (s.withLever_outside tm n f).mono (by simp)
      inputs := (State.withLever_leverInputs tm f s hn).trans hf
      drafts := State.withLever_drafts hemitted
      own := rfl
      others := fun _ _ => rfl }
  rcases hc with ⟨rfl, hf⟩ | ⟨d, rfl, hf⟩ | ⟨d, rfl, hf⟩
  · have hexec : exec (.catchLower tm n) s = _ :=
      exec_leverChange (n := n) (f := fun k => { k with catchLifted := false }) rfl hpowered hn fun e => hmoves (e.trans hf)
    obtain ⟨hout, hin, hdrafts, -, -⟩ := seated (f := fun k => { k with catchLifted := false }) hf
    generalize hv : s.withLever tm n (fun k => { k with catchLifted := false }) = v at *
    have hlever (m : Nat) : v.lever m = s.lever m := by subst hv; rfl
    have hlowers : v.catchLowers n = (v.putLever n { s.lever n with fresh := true }).tryEnd n := by
      unfold State.catchLowers
      rw [hlever n, if_neg (by subst hv; exact hmode)]
      dsimp only
      rcases hp with h | h <;> rw [h]
    rw [hlowers] at hexec
    refine ⟨v.putLever n { s.lever n with fresh := true }, hexec, by simpa using hout, hin, hdrafts, ?_, fun m hm => ?_⟩
    · rw [State.lever_putLever, if_pos ⟨rfl, isLever_range hn⟩]
      simp
    · rw [State.lever_putLever, if_neg fun k => hm k.1, hlever m]
  · have hexec : exec (.detectorMake tm n d) s = _ :=
      exec_leverChange (n := n) (f := LeverInputs.setSide d true) rfl hpowered hn fun e => hmoves (e.trans hf)
    have hseated := seated hf
    have hmakes : (s.withLever tm n (LeverInputs.setSide d true)).detectorMakes n =
        (s.withLever tm n (LeverInputs.setSide d true)).tryEnd n := by
      unfold State.detectorMakes
      dsimp only
      rw [if_neg (show ¬ (s.withLever tm n _).control.mode = .start from hmode), if_neg]
      rw [hseated.inputs]
      cases side <;> simp [seatedInputs]
    exact ⟨_, hmakes ▸ hexec, by simpa using hseated⟩
  · have hexec : exec (.detectorOpen tm n d) s = _ :=
      exec_leverChange (n := n) (f := LeverInputs.setSide d false) rfl hpowered hn fun e => hmoves (e.trans hf)
    rw [State.detectorOpens_moving (s := s.withLever tm n _) hmode hp] at hexec
    exact ⟨_, hexec, by simpa using seated hf⟩

/-- A lever comes to rest in a position: it stands there with its lock off, another whose catch is down may lose the lock of
its travel, and its notice comes first. -/
theorem State.Seated.rests {n : Nat} {side : Side} {b : Bool} {e : NoticeEvent} {a : Bool} (h : s.Seated n side b w)
    (hm : s.control.mode ≠ .start) (hn : isLever n = true) (he : e ≠ .holdRemoved) {u : State}
    (hu : u = (w.moveLever n ((w.lever n).atRest (seatOf side)) e [] a).settle.close) :
    u.lever n = { s.lever n with
        phase := (seatOf side), solenoid := false, grant := none, origin := .none, timer := .stopped, fresh := b } ∧
      (∀ m ∈ Tab.numbers 24, m ≠ n → s.unraised m → u.lever m = s.lever m ∨
        (s.lever m).phase = .travel ∧ u.lever m = { s.lever m with solenoid := false }) ∧
      s.announcesFirst u [(e, n)] ∧ ChangesOnly [.inputs, .levers, .holds, .sections, .choices] s u := by
  subst hu
  have hseat : (seatOf side) ≠ .travel ∧ (seatOf side).movable = false := by cases side <;> decide
  obtain ⟨hown, hothers⟩ := w.moveLever_levers (l := (w.lever n).atRest (seatOf side)) e [] a hn hseat.1
  have hall : Outside [.now, .inputs, .levers, .holds, .sections, .choices, .emitted] s
      (w.moveLever n ((w.lever n).atRest (seatOf side)) e [] a).settle := by
    simpa using h.outside.mono (by simp)
  refine ⟨?_, fun m _ hmn hraised => ?_, ?_, changesOnly_close (hall.mono (by simp [closing]))⟩
  · rw [State.close_settle_lever (by rw [hown]; exact hseat.2), hown, h.own]
    rfl
  · have hmove := hothers m hmn
    rw [h.others m hmn] at hmove
    have hfixed : ((w.moveLever n ((w.lever n).atRest (seatOf side)) e [] a).lever m).phase.movable = false := by
      rcases hmove with e | ⟨-, e⟩ <;> rw [e] <;> exact LeverPhase.movable_eq_false.2 hraised
    rwa [State.close_settle_lever hfixed]
  · refine State.announcesFirst_of_outside hall (by decide) hm (State.prefix_settle (by simpa using he) ?_)
    simpa [h.drafts] using w.moveLever_drafts_first n ((w.lever n).atRest (seatOf side)) e [] a

/-- A lever that is not presented as arrived changes no section. -/
theorem State.Seated.rests_sections {n : Nat} {side : Side} {b : Bool} (h : s.Seated n side b w) (e : NoticeEvent) (l : Lever) :
    (w.moveLever n l e [] false).settle.close.sections = s.sections :=
  (State.close_outside _ .sections (by decide)).trans ((w.moveLever_settled_outside n l e [] .sections (by decide)).trans
    (h.outside .sections (by decide)))

/-- An arrival at REVERSE with a configuration that is trusted creates the hold of the signal, by which a held lever in TRAVEL
loses its lock, and consumes the release of its section (R33, R50, R88). -/
theorem State.Seated.arrives {n : Nat} {b : Bool} (h : s.Seated n .reverse b w) (hn : isLever n = true)
    (hp : (s.lever n).phase = .travel) (hi : s.invalid = false) {u : State}
    (hu : u = (w.moveLever n ((w.lever n).atRest .reverse) .leverArrived [] true).settle.close) :
    (∀ d, s.conf.holdDef n = some d → s.hold? n = none →
      u.hold? n = some { signal := n, stages := d.holding.map fun _ => .waiting, state := .active, reversal := true } ∧
        ∀ m ∈ d.held, (s.lever m).phase = .travel → (u.lever m).solenoid = false) ∧
      ∀ x ∈ Tab.numbers 6, (s.conf.sec x).role = .offering → (s.conf.sec x).starting = n →
        (u.sec x).off.release = .consumed := by
  subst hu
  have hmoves : w.moveLever n ((w.lever n).atRest .reverse) .leverArrived [] true = _ :=
    State.moveLever_arrives .leverArrived [] hn rfl (by simp [State.standing, h.own, hp, LeverPhase.standing])
  generalize hv : (w.putLever n ((w.lever n).atRest .reverse)).emit .leverArrived n [] = v at hmoves
  have hbefore : Outside [.now, .inputs, .levers, .emitted] s v := by subst hv; simpa using h.outside.mono (by simp)
  have hown : v.lever n = (w.lever n).atRest .reverse := by
    subst hv
    exact (State.lever_putLever ..).trans (if_pos ⟨rfl, isLever_range hn⟩)
  have hother (m : Nat) (hm : m ≠ n) : v.lever m = s.lever m := by
    subst hv
    exact ((State.lever_putLever ..).trans (if_neg fun k => hm k.1)).trans (h.others m hm)
  have hinvalid : v.invalid = false := hi ▸ hbefore.invalid_eq (by decide)
  rw [hmoves]
  refine ⟨fun d hd hnone => ?_, fun x hx hr hstart => ?_⟩
  · have hcreate : v.signalArrivesReverse n = v.createHold n d .active true .reversal := by
      unfold State.signalArrivesReverse
      rw [hbefore.conf_eq (by decide), hd]
      simp only [hinvalid, State.hold?_of_outside hbefore (by decide) n, hnone]
      rfl
    rw [hcreate]
    have hunlocks := v.createHold_unlocks n d .active true .reversal
    have hconsume := State.consumeRelease_outside n (v.createHold n d .active true .reversal)
    have hlever (m : Nat) := State.lever_of_outside hconsume (by decide) m
    have fixed (m : Nat) (hm : (v.lever m).phase.movable = false) :
        ((v.createHold n d .active true .reversal).consumeRelease n |>.lever m).phase.movable = false := by
      rw [hlever, hunlocks.phase]
      exact hm
    refine ⟨?_, fun m hm htravel => ?_⟩
    · rw [State.hold?_of_outside (State.close_outside _) (by decide), State.settle_hold? (fixed n (by rw [hown]; rfl)),
        State.hold?_of_outside hconsume (by decide), State.createHold_hold? (by
          rw [State.hold?_of_outside hbefore (by decide)]; exact hnone), if_pos rfl, createdHold, List.map_const']
    · have hphase : (v.lever m).phase = .travel ∨ m = n := by
        by_cases e : m = n
        · exact .inr e
        · exact .inl (by rw [hother m e]; exact htravel)
      rw [State.close_settle_lever (fixed m ?_), hlever m]
      · by_cases hnum : m ∈ Tab.numbers 24
        · rw [State.createHold_lever n d .active true .reversal v hnum]
          rcases hphase with htr | rfl
          · rw [if_pos ⟨hm, htr⟩]; rfl
          · rw [hown]; split <;> rfl
        · rw [State.lever, Tab.get_out _ _ (fun e => hnum (Tab.mem_numbers.2 e))]
      · rcases hphase with htr | rfl
        · rw [htr]; rfl
        · rw [hown]; rfl
  · have hsame : Outside [.now, .inputs, .levers, .holds, .emitted] s (v.signalArrivesReverse n) :=
      (hbefore.mono (by simp)).trans ((v.signalArrivesReverse_outside n).mono (by simp))
    have hconsumed : ((v.signalArrivesReverse n).consumeRelease n).consumed x :=
      State.consumeRelease_consumed (hi ▸ hsame.invalid_eq (by decide)) hx (by rw [hsame.conf_eq (by decide)]; exact hr)
        (by rw [hsame.conf_eq (by decide)]; exact hstart)
    generalize (v.signalArrivesReverse n).consumeRelease n = z at hconsumed
    have hsec : z.settle.close.sections = z.sections :=
      (State.close_outside _ .sections (by decide)).trans ((State.settle_outside z) .sections (by decide))
    rw [State.sec, hsec]
    exact hconsumed

/-- What an end of travel is called, by origin and side (R35). -/
theorem travelOutcome_seatOf (o : Origin) (side : Side) : travelOutcome o (seatOf side) =
    match o, side with
    | .none, _ => .leverFound
    | .normal, .reverse => .leverArrived
    | .normal, .normal => .leverReturned
    | .reverse, .normal => .leverArrived
    | .reverse, .reverse => .leverReturned := by
  cases o <;> cases side <;> rfl

/-- Settles O32: travel ends at a position. -/
theorem travelEndsAtAPosition : Obligations.TravelEndsAtAPosition := by
  intro s tm n side c hs hn hseats hp
  obtain ⟨w, hexec, hw⟩ := State.seats_exec hs hn hseats hp
  have hphase : (w.lever n).phase = (s.lever n).phase := by rw [hw.own]
  have horigin : (w.lever n).origin = (s.lever n).origin := by rw [hw.own]
  rw [← seatOf_eq side]
  rcases hp with hp | hp
  · rw [State.tryEnd_travel hw.inputs (hphase.trans hp), horigin] at hexec
    generalize he : travelOutcome (s.lever n).origin (seatOf side) = e at hexec
    have hsent : e ≠ .holdRemoved := by
      rw [← he]
      cases (s.lever n).origin <;> cases side <;> decide
    generalize hu : State.close _ = u at hexec
    obtain ⟨hown, hothers, hfirst, hchanges⟩ := hw.rests hs.2 hn hsent hu.symm
    refine ⟨u, hexec, hown, hothers, fun hf => absurd (hp.symm.trans hf) (by decide), fun _ => ⟨?_, ?_, ?_⟩, hchanges⟩
    · rw [← he, travelOutcome_seatOf] at hfirst
      exact hfirst
    · intro ho hr hi
      subst hr
      rw [ho] at he
      subst he
      exact hw.arrives hn hp hi hu.symm
    · intro hnot
      have hpresented : w.moveLever n ((w.lever n).atRest (seatOf side)) e [] (decide (e = .leverArrived)) =
          w.moveLever n ((w.lever n).atRest (seatOf side)) e [] false := by
        cases side
        · exact State.moveLever_not_reverse _ _ _ hn (by simp [Lever.atRest, seatOf, LeverPhase.standing]) w
        · have hnever : e ≠ .leverArrived := by
            rw [← he]
            cases ho : (s.lever n).origin
            case normal => exact absurd ⟨ho, rfl⟩ hnot
            all_goals decide
          rw [decide_eq_false hnever]
      rw [← hu, hpresented]
      exact hw.rests_sections e _
  · rw [State.tryEnd_fault hw.inputs (hphase.trans hp)] at hexec
    generalize hu : State.close _ = u at hexec
    obtain ⟨hown, hothers, hfirst, hchanges⟩ := hw.rests hs.2 hn (by decide) hu.symm
    refine ⟨u, hexec, hown, hothers, fun _ => ⟨hfirst, ?_⟩, fun ht => absurd (hp.symm.trans ht) (by decide), hchanges⟩
    rw [← hu]
    exact hw.rests_sections .leverFound _

end Sys2Proof.Machine

namespace Sys2Proof.Machine

variable {ps : List Part} {s t u v : State} {n : Nat} {dir : Direction} {items : List Byte}

/-! ### Terms and the levers that they name (R20) -/

theorem State.termOk_iff (s : State) (t : Term) : s.termOk t = true ↔ s.fulfils t := by
  cases t <;> simp [State.termOk, State.fulfils]

theorem mem_namedBy {e : Entry} : n ∈ namedBy e ↔ ∃ t ∈ e, n ∈ t.levers := by
  have grows (l acc : List Nat) : n ∈ l.foldl (fun l m => if l.contains m then l else l ++ [m]) acc ↔ n ∈ acc ∨ n ∈ l := by
    induction l generalizing acc with
    | nil => simp
    | cons m l ih =>
      rw [List.foldl_cons, ih]
      by_cases hm : m ∈ acc
      · rw [if_pos (by simpa using hm)]
        refine or_congr_right' fun hn => ?_
        rw [List.mem_cons, or_iff_right]
        rintro rfl
        exact hn hm
      · rw [if_neg (by simpa using hm)]
        simp [or_assoc]
  rw [namedBy, grows]
  simp

/-- What a term reads: the standing of the levers that it names, the tracks and the releases. -/
theorem State.termOk_congr (k : Outside ps s u) (hp : .tracks ∉ ps ∧ .sections ∉ ps) {t : Term}
    (h : ∀ m ∈ t.levers, u.standing m = s.standing m) : u.termOk t = s.termOk t := by
  cases t with
  | ln m | lr m => simp [State.termOk, h m (by simp [Term.levers])]
  | lnc m j => simp [State.termOk, h m (by simp [Term.levers]), h j (by simp [Term.levers])]
  | tc t => simp only [State.termOk, State.clear, State.track, k.tracks_eq hp.1]
  | lcr x =>
    have hsec : u.sec x = s.sec x := congrArg (fun l => Tab.get l _ x) (k .sections hp.2)
    simp only [State.termOk, hsec]

/-! ### The first unsatisfied term (R30) -/

theorem State.firstFailing_eq_none {e : Entry} : s.firstFailing e = none ↔ ∀ t ∈ e, s.termOk t = true := by
  rw [State.firstFailing, Option.map_eq_none_iff, List.find?_eq_none]
  refine ⟨fun h t ht => ?_, fun h k hk => by simpa using h _ (List.fst_mem_of_mem_zipIdx hk)⟩
  obtain ⟨i, hi⟩ := List.mem_iff_getElem?.1 ht
  have hmem : (t, 1 + i) ∈ e.zipIdx 1 := by
    rw [List.mem_iff_getElem?]
    exact ⟨i, by rw [List.getElem?_zipIdx, hi]; rfl⟩
  simpa using h _ hmem

theorem State.firstFailing_eq_some {e : Entry} {p : Nat} {t : Term} : s.firstFailing e = some (p, t) ↔
    ∃ i, p = i + 1 ∧ e[i]? = some t ∧ s.termOk t = false ∧ ∀ t' ∈ e.take i, s.termOk t' = true := by
  simp only [State.firstFailing, Option.map_eq_some_iff, List.find?_eq_some_iff_getElem, Prod.mk.injEq, List.length_zipIdx,
    List.getElem_zipIdx, Prod.exists]
  constructor
  · rintro ⟨-, -, ⟨hfail, i, hi, ⟨rfl, rfl⟩, hbefore⟩, rfl, rfl⟩
    refine ⟨i, Nat.add_comm .., List.getElem?_eq_getElem hi, by simpa using hfail, fun t' ht' => ?_⟩
    obtain ⟨j, hj, rfl⟩ := List.mem_take_iff_getElem.1 ht'
    simpa using hbefore j (by omega)
  · rintro ⟨i, rfl, hi, hfail, hbefore⟩
    obtain ⟨hlt, rfl⟩ := List.getElem?_eq_some_iff.1 hi
    refine ⟨_, _, ⟨by simpa using hfail, i, hlt, ⟨rfl, Nat.add_comm ..⟩, fun j hj => ?_⟩, rfl, rfl⟩
    have hmem := List.mem_take_iff_getElem.2 ⟨j, (by omega : j < min i e.length), rfl⟩
    simpa using hbefore _ hmem

theorem State.firstFailing_congr {e : Entry} (h : ∀ t ∈ e, u.termOk t = s.termOk t) : u.firstFailing e = s.firstFailing e := by
  unfold State.firstFailing
  refine congrArg _ (List.find?_congr fun k hk => ?_)
  rw [h _ (List.fst_mem_of_mem_zipIdx hk)]

/-! ### Each condition, and what it reads (R27) -/

/-- The entry that an examination of lever `n` reads (R27). -/
def State.entryNow (s : State) (n : Nat) : Entry := s.conf.entry n s.set (s.lever n).phase.direction

theorem State.entryFail_eq_none : s.entryFail n = none ↔
    (∀ t ∈ s.entryNow n, s.termOk t = true) ∧ s.conf.leverKind n ≠ .spare := by
  rw [← State.firstFailing_eq_none]
  unfold State.entryFail State.entryNow
  split
  · next h => simp [h]
  · next h => simp [h]

theorem State.entryFail_bytes {f : GrantFail} (h : s.entryFail n = some f) : ∃ l, f.bytes = b1 2 ++ l := by
  unfold State.entryFail at h
  repeat' split at h
  · exact Option.some.inj h ▸ ⟨_, List.append_assoc ..⟩
  · exact Option.some.inj h ▸ ⟨_, List.append_assoc ..⟩
  · cases h

theorem State.keepFail_eq_none : s.keepFail n = none ↔
    s.control.mode = .running ∧ s.entryFail n = none ∧ s.holdNaming n = none ∧ s.holder n = none := by
  unfold State.keepFail
  by_cases hm : s.control.mode = .running
  · cases he : s.entryFail n with
    | some f => simp [hm]
    | none => cases hh : s.holdNaming n <;> simp [hm]
  · simp [hm]

theorem State.grantFail_eq_none : s.grantFail n = none ↔ s.keepFail n = none ∧ (s.lever n).fresh = true := by
  unfold State.grantFail
  cases s.keepFail n <;> simp

theorem State.holder_eq_none : s.holder n = none ↔ ∀ m ∈ Tab.numbers 24, s.names m n = false := by
  simp [State.holder]

theorem State.entryFail_congr (k : Outside ps s u) (hp : .tracks ∉ ps ∧ .sections ∉ ps ∧ .configuration ∉ ps ∧ .set ∉ ps)
    (hd : (u.lever n).phase.direction = (s.lever n).phase.direction)
    (h : ∀ m ∈ namedBy (s.entryNow n), u.standing m = s.standing m) : u.entryFail n = s.entryFail n := by
  obtain ⟨ht, hs, hc, hset⟩ := hp
  unfold State.entryFail
  rw [k.conf_eq hc, show u.set = s.set from k .set hset, hd]
  have hfirst : u.firstFailing (s.entryNow n) = s.firstFailing (s.entryNow n) :=
    State.firstFailing_congr fun t hmem => State.termOk_congr k ⟨ht, hs⟩ fun m hm => h m (mem_namedBy.2 ⟨t, hmem, hm⟩)
  rw [State.entryNow] at hfirst
  rw [hfirst]

theorem State.holdNaming_congr (k : Outside ps s u) (hp : .holds ∉ ps ∧ .configuration ∉ ps) : u.holdNaming n = s.holdNaming n := by
  simp only [State.holdNaming, State.heldOf, k.conf_eq hp.2, show u.holds = s.holds from k .holds hp.1]

/-- What condition 4 reads of lever `m` for another lever. -/
theorem State.names_congr {m : Nat} (h : m ≠ n → u.lever m = s.lever m) : u.names m n = s.names m n := by
  unfold State.names
  by_cases e : m = n
  · simp [e]
  · rw [h e]

theorem State.holder_congr (h : ∀ m ∈ Tab.numbers 24, u.names m n = s.names m n) : u.holder n = s.holder n :=
  List.find?_congr fun m hm => h m hm

/-- What the conditions 1 to 4 of a lever read. -/
theorem State.keepFail_congr (k : Outside ps s u)
    (hp : .tracks ∉ ps ∧ .sections ∉ ps ∧ .configuration ∉ ps ∧ .set ∉ ps ∧ .holds ∉ ps ∧ .mode ∉ ps)
    (hd : (u.lever n).phase.direction = (s.lever n).phase.direction)
    (h : ∀ m ∈ namedBy (s.entryNow n), u.standing m = s.standing m) (hn : ∀ m ∈ Tab.numbers 24, u.names m n = s.names m n) :
    u.keepFail n = s.keepFail n := by
  obtain ⟨ht, hs, hc, hset, hh, hm⟩ := hp
  simp only [State.keepFail, k.mode_eq hm, State.entryFail_congr k ⟨ht, hs, hc, hset⟩ hd h, State.holdNaming_congr k ⟨hh, hc⟩,
    State.holder_congr hn]

/-! ### The conditions as the held notice names them (R30) -/

theorem Least.unique {p : Nat → Prop} {a b : Nat} (ha : Least p a) (hb : Least p b) : a = b := by
  rcases Nat.lt_trichotomy a b with h | h | h
  · exact absurd ha.1 (hb.2 a h)
  · exact h
  · exact absurd hb.1 (ha.2 b h)

theorem exists_least {p : Nat → Prop} {a : Nat} (h : p a) : ∃ b, Least p b := by
  classical
  exact ⟨Nat.find ⟨a, h⟩, Nat.find_spec ⟨a, h⟩, fun m hm => Nat.find_min ⟨a, h⟩ hm⟩

/-- The first entry with a property, of a list in the order of its keys, has the least key. -/
theorem find?_least {α : Type} {l : List α} {key : α → Nat} {p : α → Bool} (hl : (l.map key).Pairwise (· < ·)) {a : Nat} :
    (l.find? p).map key = some a ↔ Least (fun b => ∃ x ∈ l, key x = b ∧ p x = true) a := by
  have first {x : α} (hx : l.find? p = some x) : Least (fun b => ∃ x ∈ l, key x = b ∧ p x = true) (key x) := by
    obtain ⟨hpx, front, back, rfl, hfront⟩ := List.find?_eq_some_iff_append.1 hx
    refine ⟨⟨x, by simp, rfl, hpx⟩, ?_⟩
    rintro m hm ⟨y, hy, rfl, hpy⟩
    have hback : ∀ y ∈ back, key x < key y := by
      simp only [List.map_append, List.map_cons, List.pairwise_append, List.pairwise_cons] at hl
      exact fun y hy => hl.2.1.1 _ (List.mem_map_of_mem hy)
    rcases List.mem_append.1 hy with hy | hy
    · simpa [hpy] using hfront y hy
    · rcases List.mem_cons.1 hy with rfl | hy
      · exact Nat.lt_irrefl _ hm
      · exact Nat.lt_asymm hm (hback y hy)
  constructor
  · intro h
    obtain ⟨x, hx, rfl⟩ := Option.map_eq_some_iff.1 h
    exact first hx
  · intro h
    obtain ⟨x, hx, -, hpx⟩ := h.1
    obtain ⟨y, hy⟩ := Option.isSome_iff_exists.1 (List.find?_isSome.2 ⟨x, hx, hpx⟩)
    rw [hy, Option.map_some, h.unique (first hy)]

theorem State.refuses_one : s.refusesRelease n dir 1 items ↔ items = [] ∧ s.control.mode ≠ .running := Iff.rfl

theorem State.refuses_two (hd : (s.lever n).phase.direction = dir) : s.refusesRelease n dir 2 items ↔
    ∃ f, s.entryFail n = some f ∧ f.bytes = b1 2 ++ items := by
  subst hd
  have hok (e : Entry) : (∀ t ∈ e, s.fulfils t) ↔ s.firstFailing e = none := by
    simp only [State.firstFailing_eq_none, State.termOk_iff]
  show (_ ∨ _) ↔ _
  simp only [hok, State.entryFail]
  constructor
  · rintro (⟨i, t, hi, hfail, hbefore, rfl⟩ | ⟨hnone, hspare, rfl⟩)
    · have hfirst := State.firstFailing_eq_some (s := s).2 ⟨i, rfl, hi, by simpa [← State.termOk_iff] using hfail,
        State.firstFailing_eq_none.1 hbefore⟩
      rw [hfirst]
      exact ⟨_, rfl, by simp [GrantFail.bytes, bOpt, List.append_assoc]⟩
    · rw [hnone]
      exact ⟨_, if_pos hspare, by simp [GrantFail.bytes, bOpt, List.append_assoc]⟩
  · rintro ⟨f, hf, hbytes⟩
    split at hf
    · next p t hfirst =>
      obtain rfl := Option.some.inj hf
      obtain ⟨i, rfl, hi, hfail, hbefore⟩ := State.firstFailing_eq_some.1 hfirst
      refine .inl ⟨i, t, hi, by simpa [← State.termOk_iff] using hfail, State.firstFailing_eq_none.2 hbefore, ?_⟩
      simp only [GrantFail.bytes, bOpt, List.append_assoc, List.append_cancel_left_eq] at hbytes
      simp [← hbytes, List.append_assoc]
    · next hnone =>
      split at hf
      · next hspare =>
        obtain rfl := Option.some.inj hf
        simp only [GrantFail.bytes, bOpt, List.append_assoc, List.append_cancel_left_eq] at hbytes
        exact .inr ⟨hnone, hspare, hbytes.symm⟩
      · cases hf

/-- Condition 3 fails where some hold names the lever. -/
theorem State.refuses_three_any : (∃ items, s.refusesRelease n dir 3 items) ↔ s.holdNaming n ≠ none := by
  rw [State.holdNaming, ne_eq, Option.map_eq_none_iff, List.find?_eq_none]
  simp only [List.contains_eq_mem, decide_eq_true_eq, not_forall, not_not]
  constructor
  · rintro ⟨-, h, -, ⟨x, hx, -, hn⟩, -⟩
    exact ⟨x, hx, hn⟩
  · rintro ⟨x, hx, hn⟩
    obtain ⟨h, hleast⟩ := exists_least (p := fun g => ∃ x ∈ s.holds, x.signal = g ∧ n ∈ s.heldOf x) ⟨x, hx, rfl, hn⟩
    exact ⟨_, h, rfl, hleast⟩

/-- With the holds in signal order it is the first of them (R48, R49). -/
theorem State.refuses_three (hl : (s.holds.map (·.signal)).Pairwise (· < ·)) : s.refusesRelease n dir 3 items ↔
    ∃ h, s.holdNaming n = some h ∧ items = b1 h := by
  have hleast (h : Nat) := find?_least (p := fun x => (s.heldOf x).contains n) (a := h) hl
  simp only [List.contains_eq_mem, decide_eq_true_eq] at hleast
  show (∃ h, items = b1 h ∧ Least _ h) ↔ _
  simp only [State.holdNaming, List.contains_eq_mem, hleast, and_comm]

theorem State.names_iff {m : Nat} : s.names m n = true ↔ m ≠ n ∧ ((s.lever m).phase.isFree = true ∨ (s.lever m).phase = .travel) ∧
    ∃ g, (s.lever m).grant = some g ∧ n ∈ g.named := by
  simp [State.names, Option.any_eq_true, and_assoc]

theorem pairwise_numbers (k : Nat) : (Tab.numbers k).Pairwise (· < ·) := by
  rw [Tab.numbers, List.pairwise_map]
  exact List.pairwise_lt_range.imp (by omega)

theorem State.refuses_four : s.refusesRelease n dir 4 items ↔ ∃ m, s.holder n = some m ∧ items = b1 m := by
  have hleast (m : Nat) := find?_least (l := Tab.numbers 24) (key := id) (p := fun m => s.names m n) (a := m)
    (by simpa using pairwise_numbers 24)
  simp only [Option.map_id, id_eq, State.names_iff] at hleast
  show (∃ m, items = b1 m ∧ Least _ m) ↔ _
  simp only [State.holder, hleast, and_comm, isLever, Tab.mem_numbers]
  simp

theorem State.refuses_five : s.refusesRelease n dir 5 items ↔ items = [] ∧ (s.lever n).fresh = false := Iff.rfl

/-- Of the conditions 1 to 4 none fails (R27, R32). -/
theorem State.keepFail_eq_none_iff_refuses (hd : (s.lever n).phase.direction = dir) : s.keepFail n = none ↔
    ∀ k ≤ 4, ∀ items, ¬ s.refusesRelease n dir k items := by
  have hmode : (∀ items, ¬ s.refusesRelease n dir 1 items) ↔ s.control.mode = .running := by simp [State.refuses_one]
  have hentry : (∀ items, ¬ s.refusesRelease n dir 2 items) ↔ s.entryFail n = none := by
    simp only [State.refuses_two hd, not_exists, not_and]
    constructor
    · intro h
      by_contra hsome
      obtain ⟨f, hf⟩ := Option.ne_none_iff_exists'.1 hsome
      obtain ⟨l, hl⟩ := State.entryFail_bytes hf
      exact h l f hf hl
    · intro h items f hf
      rw [h] at hf
      cases hf
  have hhold : (∀ items, ¬ s.refusesRelease n dir 3 items) ↔ s.holdNaming n = none := by
    rw [← not_exists, State.refuses_three_any, not_not]
  have hnamed : (∀ items, ¬ s.refusesRelease n dir 4 items) ↔ s.holder n = none := by
    simp only [State.refuses_four, not_exists, not_and]
    exact ⟨fun h => Option.eq_none_iff_forall_ne_some.2 fun m hm => h _ m hm rfl, fun h _ m hm => by simp [h] at hm⟩
  rw [State.keepFail_eq_none, ← hmode, ← hentry, ← hhold, ← hnamed]
  constructor
  · rintro ⟨h1, h2, h3, h4⟩ k hk
    match k, hk with
    | 0, _ => exact fun _ h => h
    | 1, _ => exact h1
    | 2, _ => exact h2
    | 3, _ => exact h3
    | 4, _ => exact h4
  · exact fun h => ⟨h 1 (by omega), h 2 (by omega), h 3 (by omega), h 4 (by omega)⟩

/-- The first condition that fails for a lever, as the held notice carries it (R30). -/
theorem State.grantFail_of_refuses {k : Nat} (hl : (s.holds.map (·.signal)).Pairwise (· < ·))
    (hd : (s.lever n).phase.direction = dir) (h : s.refusesRelease n dir k items)
    (hfirst : ∀ j < k, ∀ l, ¬ s.refusesRelease n dir j l) : ∃ f, s.grantFail n = some f ∧ f.bytes = b1 k ++ items := by
  have hmode (hk : 1 < k) : s.control.mode = .running := not_not.1 fun hm => hfirst 1 hk [] ⟨rfl, hm⟩
  have hentry (hk : 2 < k) : s.entryFail n = none := Option.eq_none_iff_forall_ne_some.2 fun f hf => by
    obtain ⟨l, hl⟩ := State.entryFail_bytes hf
    exact hfirst 2 hk l ((State.refuses_two hd).2 ⟨f, hf, hl⟩)
  have hhold (hk : 3 < k) : s.holdNaming n = none := not_not.1 fun hh => by
    obtain ⟨l, hl⟩ := (State.refuses_three_any (dir := dir)).2 hh
    exact hfirst 3 hk l hl
  match k, h with
  | 1, h =>
    obtain ⟨rfl, hm⟩ := State.refuses_one.1 h
    exact ⟨.mode, by simp [State.grantFail, State.keepFail, hm], rfl⟩
  | 2, h =>
    obtain ⟨f, hf, hb⟩ := (State.refuses_two hd).1 h
    exact ⟨f, by simp [State.grantFail, State.keepFail, hmode, hf], hb⟩
  | 3, h =>
    obtain ⟨g, hg, rfl⟩ := (State.refuses_three hl).1 h
    exact ⟨.hold g, by simp [State.grantFail, State.keepFail, hmode, hentry, hg], rfl⟩
  | 4, h =>
    obtain ⟨m, hm, rfl⟩ := State.refuses_four.1 h
    exact ⟨.named m, by simp [State.grantFail, State.keepFail, hmode, hentry, hhold, hm], rfl⟩
  | 5, h =>
    obtain ⟨rfl, hfresh⟩ := State.refuses_five.1 h
    have hnamed : s.holder n = none := Option.eq_none_iff_forall_ne_some.2 fun m hm =>
      hfirst 4 (by omega) _ (State.refuses_four.2 ⟨m, hm, rfl⟩)
    exact ⟨.fresh, by simp [State.grantFail, State.keepFail, hmode, hentry, hhold, hnamed, hfresh], rfl⟩

end Sys2Proof.Machine

namespace Sys2Proof.Machine

variable {ps : List Part} {s t u v : State} {n : Nat} {dir : Direction} {items : List Byte}

/-! ### The catch lifts (R24, R28, R30) -/

/-- A lever with its catch up at the position where it stood seated. -/
def Lever.lifted (l : Lever) : Lever := { l with phase := l.phase.caught }

/-- A lever seated in the position that it leaves in a direction. -/
def LeverPhase.seatedFor (p : LeverPhase) (dir : Direction) : Prop :=
  p = .normal ∧ dir = .toReverse ∨ p = .reverse ∧ dir = .toNormal

theorem LeverPhase.seatedFor_facts {p : LeverPhase} (h : p.seatedFor dir) : p.direction = dir ∧
    p.caught.direction = dir ∧ p.caught.standing = p.standing ∧ p.caught.isCatch = true ∧
    p.caught = (if dir = .toReverse then .normalCatch else .reverseCatch) ∧
    p.caught.freed = (if dir = .toReverse then .normalFree else .reverseFree) := by
  rcases h with ⟨rfl, rfl⟩ | ⟨rfl, rfl⟩ <;> decide

theorem State.catchLifts_seated (hm : s.control.mode ≠ .start) (hp : (s.lever n).phase.seatedFor dir) :
    s.catchLifts n = match (s.putLever n (s.lever n).lifted).grantFail n with
      | none => ((s.putLever n (s.lever n).lifted).grantLever n).settle
      | some f => (s.putLever n (s.lever n).lifted).emit .leverHeld n f.bytes := by
  have hseated : (s.lever n).phase = .normal ∨ (s.lever n).phase = .reverse := hp.imp And.left And.left
  unfold State.catchLifts
  dsimp only
  rw [if_neg hm, if_pos hseated]
  rfl

/-- The lift of the catch of a seated lever fails the conditions that it failed before (R27). -/
theorem State.grantFail_lifted (hn : isLever n = true) (hp : (s.lever n).phase.seatedFor dir) :
    (s.putLever n (s.lever n).lifted).grantFail n = s.grantFail n := by
  obtain ⟨hd, hdir, hstands, -, -, -⟩ := LeverPhase.seatedFor_facts hp
  have hlever (m : Nat) : (s.putLever n (s.lever n).lifted).lever m = if m = n then (s.lever n).lifted else s.lever m := by
    rw [State.lever_putLever]
    by_cases e : m = n
    · rw [if_pos ⟨e, isLever_range hn⟩, if_pos e]
    · rw [if_neg fun k => e k.1, if_neg e]
  have hkeep : (s.putLever n (s.lever n).lifted).keepFail n = s.keepFail n := by
    refine State.keepFail_congr (State.putLever_outside n _ s) (by decide) ?_ (fun m _ => ?_) fun m _ =>
      State.names_congr fun e => by rw [hlever, if_neg e]
    · rw [hlever, if_pos rfl, hd]; exact hdir
    · rw [State.standing, hlever]
      split
      · next e => rw [e]; exact hstands
      · rfl
  have hfresh : ((s.putLever n (s.lever n).lifted).lever n).fresh = (s.lever n).fresh := by
    rw [hlever, if_pos rfl]; rfl
  rw [State.grantFail, State.grantFail, hkeep, hfresh]

/-- A lever that comes to stand nowhere presents nothing (R23). -/
theorem State.moveLever_nowhere {l : Lever} {e : NoticeEvent} {x : List Byte} {b : Bool} (hn : isLever n = true)
    (hl : l.phase.standing = .nowhere) : s.moveLever n l e x b = (s.putLever n l).emit e n x := by
  have hnew : ((s.putLever n l).emit e n x).standing n = .nowhere := by
    show ((s.putLever n l).lever n).phase.standing = _
    rw [State.lever_putLever, if_pos ⟨rfl, isLever_range hn⟩, hl]
  unfold State.moveLever State.present
  dsimp only
  rw [hnew]
  split <;> rfl

/-- Lever `n` as it is released (R28). -/
def State.released (s : State) (n : Nat) : Lever :=
  { s.lever n with phase := (s.lever n).phase.freed, solenoid := true, grant := some (s.grantNow n) }

theorem State.grantLever_eq (hn : isLever n = true) (hc : (s.lever n).phase.isCatch = true) :
    s.grantLever n = (s.putLever n (s.released n)).emit .leverReleased n [] :=
  State.moveLever_nowhere hn (LeverPhase.standing_of_free (LeverPhase.freed_facts hc).1)

theorem State.lever_putLever_of {l : Lever} (hn : isLever n = true) (m : Nat) :
    (s.putLever n l).lever m = if m = n then l else s.lever m := by
  rw [State.lever_putLever]
  by_cases e : m = n
  · rw [if_pos ⟨e, isLever_range hn⟩, if_pos e]
  · rw [if_neg fun k => e k.1, if_neg e]

/-- A lever whose own entry does not name it fails no condition by its release (R20, R28). -/
theorem State.keepFail_released (hn : isLever n = true) (hown : n ∉ namedBy (s.entryNow n)) :
    ((s.putLever n (s.released n)).emit .leverReleased n []).keepFail n = s.keepFail n := by
  have hlever (m : Nat) : ((s.putLever n (s.released n)).emit .leverReleased n []).lever m =
      if m = n then s.released n else s.lever m := State.lever_putLever_of hn m
  refine State.keepFail_congr (ps := [.levers, .emitted]) (by simp) (by decide) ?_ (fun m hm => ?_) fun m _ =>
    State.names_congr fun e => by rw [hlever, if_neg e]
  · rw [hlever, if_pos rfl]; exact LeverPhase.direction_freed _
  · have hne : m ≠ n := by rintro rfl; exact hown hm
    rw [State.standing, hlever, if_neg hne]; rfl

/-- Where a lever is released for good and no other is raised, an examination has nothing to do. -/
theorem State.settle_alone (hf : (s.lever n).phase.isFree = true) (hk : s.keepFail n = none) (ho : s.othersSeated n) :
    s.settle = s.removalsLast := by
  have hcatch : (s.lever n).phase.isCatch = false := by
    revert hf; cases (s.lever n).phase <;> decide
  refine State.settle_of_idle (List.filterMap_eq_nil_iff.2 fun m hm => ?_) (List.filter_eq_nil_iff.2 fun m hm => ?_)
  · by_cases e : m = n
    · subst e; simp [hk]
    · simp [(ho m hm e).2]
  · by_cases e : m = n
    · subst e; simp [hcatch]
    · simp [(ho m hm e).1]

theorem State.putLever_putLever (l k : Lever) : (s.putLever n l).putLever n k = s.putLever n k := by
  have hput : (s.levers.put n l).put n k = s.levers.put n k := by
    cases n with
    | zero => rfl
    | succ m =>
      unfold Tab.put
      dsimp only
      by_cases h : m < 24
      · simp only [dif_pos h]; exact Vector.set_set ..
      · simp only [dif_neg h]
  unfold State.putLever
  rw [hput]

/-- A lever with its catch up is released with no other lever up. -/
theorem State.lifts_release (hm : s.control.mode = .running) (hn : isLever n = true) (hp : (s.lever n).phase.seatedFor dir)
    (hg : s.grantFail n = none) (hown : n ∉ namedBy (s.conf.entry n s.set dir)) (ho : s.othersSeated n) :
    s.catchLifts n = ((s.putLever n { s.lever n with
      phase := if dir = .toReverse then .normalFree else .reverseFree
      solenoid := true
      grant := some ⟨dir, s.set, namedBy (s.conf.entry n s.set dir)⟩ }).emit .leverReleased n []).removalsLast := by
  obtain ⟨-, hdir, -, hcatch, -, hfreed⟩ := LeverPhase.seatedFor_facts hp
  rw [State.catchLifts_seated (by rw [hm]; decide) hp, State.grantFail_lifted hn hp, hg]
  dsimp only
  generalize hv : s.putLever n (s.lever n).lifted = v
  have hlever (m : Nat) : v.lever m = if m = n then (s.lever n).lifted else s.lever m := hv ▸ State.lever_putLever_of hn m
  have hself : v.lever n = (s.lever n).lifted := (hlever n).trans (if_pos rfl)
  have hentry : v.entryNow n = s.conf.entry n s.set dir := by
    rw [State.entryNow, hself, show (s.lever n).lifted.phase.direction = dir from hdir, ← hv]; rfl
  have hcaught : (v.lever n).phase.isCatch = true := by rw [hself]; exact hcatch
  have hreleased : v.released n = { s.lever n with
      phase := if dir = .toReverse then .normalFree else .reverseFree
      solenoid := true
      grant := some ⟨dir, s.set, namedBy (s.conf.entry n s.set dir)⟩ } := by
    unfold State.released State.grantNow
    rw [show v.conf.entry n v.set (v.lever n).phase.direction = s.conf.entry n s.set dir from hentry, hself,
      show (s.lever n).lifted.phase.direction = dir from hdir, show v.set = s.set by rw [← hv]; rfl, ← hfreed]
    rfl
  have hkeep : v.keepFail n = none := by
    refine (State.grantFail_eq_none.1 ?_).1
    rw [← hv, State.grantFail_lifted hn hp, hg]
  have hall : ∀ m, ((v.putLever n (v.released n)).emit .leverReleased n []).lever m = if m = n then v.released n else v.lever m :=
    State.lever_putLever_of hn
  rw [State.grantLever_eq hn hcaught, State.settle_alone (n := n)]
  · rw [hreleased, ← hv]
    rw [State.putLever_putLever]
  · rw [hall, if_pos rfl]; exact (LeverPhase.freed_facts hcaught).1
  · rw [State.keepFail_released hn (hentry ▸ hown), hkeep]
  · intro m hmem hne
    rw [State.unraised, hall, if_neg hne, hlever, if_neg hne]
    exact ho m hmem hne

/-- The terminals of a lever change with no effect on the conditions. -/
theorem State.grantFail_withLever (tm : Time) (m : Nat) (f : LeverInputs → LeverInputs) :
    (s.withLever tm m f).grantFail n = s.grantFail n := by
  have hkeep : (s.withLever tm m f).keepFail n = s.keepFail n :=
    State.keepFail_congr (s.withLever_outside tm m f) (by decide) rfl (fun _ _ => rfl) fun _ _ => rfl
  rw [State.grantFail, State.grantFail, hkeep]
  rfl

/-- The one notice of an event, as the outbox takes it (R191). -/
theorem State.close_outbox_one {d : Draft} (hm : s.control.mode ≠ .start) (he : s.emitted = [d])
    (hs : s.sends d.event.kind = true) (hroom : s.link.outbox.length < 32) :
    s.close.link.outbox = s.link.outbox ++ [s.noticeOf d] := by
  rw [State.close_outbox hm (by rw [he]; simpa using hroom), he]
  simp [hs]

/-- A LEVER notice, as the event leaves the state (R191). -/
theorem State.noticeOf_lever {d : Draft} (hk : d.event.kind = .lever) : s.noticeOf d =
    ⟨d.event, d.object, s.close.timebase s.close.now, s.close.stamp,
      b1 (s.close.lever d.object).phase.ord ++ (s.close.leverInputs d.object).bytes ++ d.extra⟩ := by
  have hclose := s.close_outside
  obtain ⟨-, -, hbase, -⟩ := hclose .mode (by decide)
  have hclock := hclose .clock (by decide)
  have hnow := hclose .now (by decide)
  have hinputs : s.close.leverInputs d.object = s.leverInputs d.object := by
    rw [State.leverInputs, State.leverInputs, show s.close.inputs = s.inputs from hclose .inputs (by decide)]
  rw [State.close_lever, hinputs, State.noticeOf, State.noticeFields, hk]
  simp only [State.timebase, State.stamp, hbase, show s.close.control.clock = s.control.clock from hclock,
    show s.close.now = s.now from hnow]

/-- The terminals with the catch up. -/
def liftCatch (k : LeverInputs) : LeverInputs := { k with catchLifted := true }

theorem exec_catchLift (tm : Time) (hp : s.powered = true) (hn : isLever n = true) (hdown : (s.leverInputs n).catchLifted = false) :
    exec (.catchLift tm n) s = .next ((s.withLever tm n liftCatch).catchLifts n).close :=
  exec_leverChange (n := n) (f := liftCatch) rfl hp hn fun e => absurd (congrArg LeverInputs.catchLifted e) (by simp [hdown, liftCatch])

theorem catchLift_releases {tm : Time} (hs : s.running) (hn : isLever n = true) (hdown : (s.leverInputs n).catchLifted = false)
    (hp : (s.lever n).phase.seatedFor dir) (hg : s.grantFail n = none) (hown : n ∉ namedBy (s.conf.entry n s.set dir))
    (hothers : s.othersSeated n) : ∃ u, exec (.catchLift tm n) s = .next u ∧
      u.inputs = { s.inputs with levers := s.inputs.levers.put n { s.leverInputs n with catchLifted := true } } ∧
      u.levers = s.levers.put n { s.lever n with
        phase := if dir = .toReverse then .normalFree else .reverseFree
        solenoid := true
        grant := some ⟨dir, s.set, namedBy (s.conf.entry n s.set dir)⟩ } ∧
      s.announces u [(.leverReleased, n)] ∧ ChangesOnly [.inputs, .levers] s u := by
  obtain ⟨⟨hpowered, hemitted⟩, hmode⟩ := hs
  have hexec := exec_catchLift tm hpowered hn hdown
  have hin := s.withLever_outside tm n liftCatch
  rw [State.lifts_release (s := s.withLever tm n _) hmode hn hp ((State.grantFail_withLever ..).trans hg) hown hothers] at hexec
  have hem : (s.withLever tm n liftCatch).emitted = [] := hemitted
  generalize hv : s.withLever tm n liftCatch = v at hexec hin hem
  generalize hl : ({ v.lever n with
    phase := if dir = .toReverse then .normalFree else .reverseFree
    solenoid := true
    grant := some ⟨dir, v.set, namedBy (v.conf.entry n v.set dir)⟩ } : Lever) = l at hexec
  have hdrafts : ((v.putLever n l).emit .leverReleased n []).removalsLast.drafts = [(.leverReleased, n)] := by
    simp [State.drafts, State.removalsLast, State.emit, hem, Draft.key]
  obtain ⟨hlevers, hann, hchanges⟩ := lever_event_changes_lever_alone (n := n) (l := l) hin (by rw [hmode]; decide) (by simp) hdrafts
  have hframe : Outside [.levers, .emitted] v ((v.putLever n l).emit .leverReleased n []).removalsLast := by simp
  refine ⟨_, hexec, ?_, ?_, hann, hchanges⟩
  · subst hv
    exact State.close_withLever_inputs hframe (by decide)
  · rw [hlevers, ← hl, ← hv]
    rfl

theorem catchLift_holds {tm : Time} {f : GrantFail} (hs : s.started) (hn : isLever n = true)
    (hdown : (s.leverInputs n).catchLifted = false) (hp : (s.lever n).phase.seatedFor dir) (hf : s.grantFail n = some f) :
    ∃ u, exec (.catchLift tm n) s = .next u ∧
      u.inputs = { s.inputs with levers := s.inputs.levers.put n { s.leverInputs n with catchLifted := true } } ∧
      u.levers = s.levers.put n { s.lever n with phase := if dir = .toReverse then .normalCatch else .reverseCatch } ∧
      (s.sends .lever = true → s.link.outbox.length < 32 →
        u.link.outbox = s.link.outbox ++ [⟨.leverHeld, n, u.timebase u.now, u.stamp,
          b1 (u.lever n).phase.ord ++ (u.leverInputs n).bytes ++ f.bytes⟩]) ∧
      ChangesOnly [.inputs, .levers] s u := by
  obtain ⟨⟨hpowered, hemitted⟩, hmode⟩ := hs
  have hexec := exec_catchLift tm hpowered hn hdown
  have hin := s.withLever_outside tm n liftCatch
  obtain ⟨-, -, -, -, hcaught, -⟩ := LeverPhase.seatedFor_facts hp
  rw [State.catchLifts_seated (s := s.withLever tm n _) hmode hp, State.grantFail_lifted (s := s.withLever tm n _) hn hp,
    State.grantFail_withLever, hf] at hexec
  dsimp only at hexec
  have hem : (s.withLever tm n liftCatch).emitted = [] := hemitted
  generalize hv : s.withLever tm n liftCatch = v at hexec hin hem
  have hframe : Outside [.levers, .emitted] v ((v.putLever n (v.lever n).lifted).emit .leverHeld n f.bytes) := by simp
  have hall := (hin.mono (ps := [.now, .inputs, .levers, .emitted]) (by simp)).trans (hframe.mono (by simp))
  obtain ⟨hlevers, -, hchanges⟩ := lever_event_changes_lever_alone (n := n) (l := (v.lever n).lifted) (ns := [(.leverHeld, n)]) hin
    hmode (u := (v.putLever n (v.lever n).lifted).emit .leverHeld n f.bytes) (State.emit_outside _ _ _ _) (by
      simp [State.drafts, State.emit, hem, Draft.key])
  refine ⟨_, hexec, ?_, ?_, fun hs hroom => ?_, hchanges⟩
  · subst hv
    exact State.close_withLever_inputs hframe (by decide)
  · rw [hlevers, ← hcaught, ← hv]
    rfl
  · have hout := (hall .outbox (by decide)).1
    rw [State.close_outbox_one (d := ⟨.leverHeld, n, f.bytes⟩) (by rwa [hall.mode_eq (by decide)]) (by simp [State.emit, hem])
      ((hall.sends_eq (by decide) (by decide) _).trans hs) (hout ▸ hroom), State.noticeOf_lever rfl, hout]

theorem catchLift_moving {tm : Time} (hs : s.started) (hn : isLever n = true) (hdown : (s.leverInputs n).catchLifted = false)
    (hp : (s.lever n).phase = .travel ∨ (s.lever n).phase = .fault) : ∃ u, exec (.catchLift tm n) s = .next u ∧
      u.inputs = { s.inputs with levers := s.inputs.levers.put n { s.leverInputs n with catchLifted := true } } ∧
      s.announces u [] ∧ ChangesOnly [.inputs] s u := by
  obtain ⟨⟨hpowered, hemitted⟩, hmode⟩ := hs
  have hseated : ¬ ((s.lever n).phase = .normal ∨ (s.lever n).phase = .reverse) := by
    rcases hp with h | h <;> simp [h]
  have hnothing : (s.withLever tm n liftCatch).catchLifts n = s.withLever tm n liftCatch := by
    unfold State.catchLifts
    dsimp only
    rw [if_neg (show ¬ (s.withLever tm n _).control.mode = .start from hmode)]
    exact if_neg hseated
  have hexec := exec_catchLift tm hpowered hn hdown
  rw [hnothing] at hexec
  exact ⟨_, hexec, State.close_withLever_inputs (.refl [] _) (by decide),
    lever_event_changes_nothing (s.withLever_outside tm n liftCatch) hmode (State.withLever_drafts hemitted)⟩

/-- Settles O28: the lift of a catch releases the lever, or holds it with the first condition that fails. -/
theorem catchLiftReleasesOrHolds : Obligations.CatchLiftReleasesOrHolds := by
  refine ⟨fun s tm n dir hs hn hdown hp hsat hspare hown hhold hnamed hfresh hothers => ?_,
    fun s tm n k dir items hs hholds hn hdown hp hrefuses hfirst => ?_,
    fun s tm n hs hn hdown hp => catchLift_moving hs hn hdown hp⟩
  · have hd : (s.lever n).phase.direction = dir := (LeverPhase.seatedFor_facts hp).1
    have hentry : s.entryFail n = none := by
      refine State.entryFail_eq_none.2 ⟨?_, hspare⟩
      rw [State.entryNow, hd]
      simpa [State.satisfied] using hsat
    have hgrant : s.grantFail n = none :=
      State.grantFail_eq_none.2 ⟨State.keepFail_eq_none.2 ⟨hs.2, hentry, hhold, hnamed⟩, hfresh⟩
    exact catchLift_releases hs hn hdown hp hgrant hown hothers
  · obtain ⟨f, hf, hbytes⟩ := State.grantFail_of_refuses hholds.1 (LeverPhase.seatedFor_facts hp).1 hrefuses hfirst
    have hheld := catchLift_holds (tm := tm) hs hn hdown hp hf
    simpa only [hbytes, List.append_assoc] using hheld

end Sys2Proof.Machine

namespace Sys2Proof.Machine

variable {ps : List Part} {s t u v : State} {n : Nat}

/-! ### Notices of an event that changes the mode (R191, R196) -/

/-- What an event announces first, where the notices that it sends are those that were sent before it. -/
theorem State.announcesFirst_close {l : List (NoticeEvent × Nat)} (hm : t.control.mode ≠ .start)
    (ho : t.link.outbox = s.link.outbox) (hk : ∀ k, t.sends k = s.sends k) (he : l <+: t.drafts) : s.announcesFirst t.close l := by
  have hfirst : t.announcesFirst t.close l := State.announcesFirst_of_outside (.refl [] t) (by decide) hm he
  simp only [State.announcesFirst, ho, hk] at hfirst
  exact hfirst

/-- Between RUNNING and HELD by HOLD the notices that are sent stay (R191). -/
theorem State.sends_of_valid (hs : s.invalid = false) (ht : t.invalid = false) (hc : t.conf = s.conf) (k : NoticeKind) :
    t.sends k = s.sends k := by rw [State.sends, State.sends, hs, ht, hc]

/-! ### HOLD (R67, R197) -/

/-- What is in progress of the time releases of `s` is among `l`. -/
def State.ReleasesAmong (l : List Hold) (s : State) : Prop :=
  ∀ k ∈ s.holds, k.releasing = true → ∃ h ∈ l, h.signal = k.signal

theorem Hold.backToPrior_releasing (h : Hold) : h.backToPrior.releasing = false := by
  cases hp : h.prior with
  | none => simp [Hold.backToPrior, Hold.releasing, hp]
  | some p => cases p <;> simp [Hold.backToPrior, Hold.releasing, hp, PriorState.toState]

theorem State.ReleasesAmong.cancel {h : Hold} {l : List Hold} (c : HoldCause) (hs : s.ReleasesAmong (h :: l)) :
    (s.cancelTimeRelease h c).ReleasesAmong l := by
  intro k hk hr
  obtain ⟨j, hj, he⟩ := List.mem_map.1 (show k ∈ replaceHold h.backToPrior s.holds from hk)
  split at he
  · rw [← he, Hold.backToPrior_releasing] at hr
    cases hr
  · next hne =>
    subst he
    obtain ⟨g, hg, hsame⟩ := hs j hj hr
    rcases List.mem_cons.1 hg with rfl | hg
    · exact absurd hsame.symm (by simpa [Hold.backToPrior] using hne)
    · exact ⟨g, hg, hsame⟩

theorem State.ReleasesAmong.cancelAll {l : List Hold} (c : HoldCause) (hs : s.ReleasesAmong l) :
    (l.foldl (fun s h => s.cancelTimeRelease h c) s).ReleasesAmong [] := by
  induction l generalizing s with
  | nil => exact hs
  | cons h l ih => exact ih (hs.cancel c)

/-- HOLD leaves no time release in progress (R67). -/
theorem State.holdsOnHold_releasing {h : Hold} (hh : h ∈ s.holdsOnHold.holds) : h.releasing = false := by
  have hall : s.ReleasesAmong (s.holds.filter Hold.releasing) := fun k hk hr => ⟨k, List.mem_filter.2 ⟨hk, hr⟩, rfl⟩
  by_contra hr
  obtain ⟨g, hg, -⟩ := hall.cancelAll .partHeld h hh (by simpa using hr)
  cases hg

theorem State.Appends.holdsOnHold (h : s.Appends t) : s.Appends t.holdsOnHold :=
  .foldl (fun _ k hv => hv.cancelTimeRelease k _) h

theorem State.heldBegun_outside (s : State) : Outside [.mode, .configuration, .levers, .emitted] s s.heldBegun := by
  simp [State.heldBegun, Store.loaded]

theorem State.heldBegun_drafts (hd : s.drafts = []) : s.heldBegun.drafts = [(.modeHeld, 0)] :=
  (State.drafts_emit ..).trans (congrArg (· ++ _) hd)

/-- A thing of a list without repetition that alone passes. -/
theorem filterMap_alone {α β : Type} {l : List α} {f : α → Option β} {a : α} {b : β} (hl : l.Nodup) (ha : a ∈ l)
    (hf : f a = some b) (hne : ∀ x ∈ l, x ≠ a → f x = none) : l.filterMap f = [b] := by
  obtain ⟨front, back, rfl⟩ := List.append_of_mem ha
  have hnot : a ∉ front ++ back := fun hm => (List.nodup_middle.1 hl |> List.nodup_cons.1).1 hm
  have gone {m : List α} (hm : m ⊆ front ++ back) (hin : m ⊆ front ++ a :: back) : m.filterMap f = [] :=
    List.filterMap_eq_nil_iff.2 fun x hx => hne x (hin hx) fun e => hnot (e ▸ hm hx)
  rw [List.filterMap_append, List.filterMap_cons_some hf, gone (by simp) (by simp), gone (by simp) (by simp)]
  rfl

/-- A lever that has no hold presents its standing to none (R52, R56). -/
theorem State.moveLever_unheld (l : Lever) (e : NoticeEvent) (x : List Byte) (h : s.hold? n = none) :
    s.moveLever n l e x false = (s.putLever n l).emit e n x := by
  have hput : ((s.putLever n l).emit e n x).hold? n = none := h
  have hnormal : ((s.putLever n l).emit e n x).signalStandsNormal n = (s.putLever n l).emit e n x := by
    simp [State.signalStandsNormal, hput]
  have hreverse : ((s.putLever n l).emit e n x).signalStandsReverse n = (s.putLever n l).emit e n x := by
    simp [State.signalStandsReverse, hput]
  unfold State.moveLever State.present
  simp only [Bool.false_eq_true, if_false, hnormal, hreverse]
  split
  · rfl
  · split <;> rfl

/-- The examination of a HELD part with one lever released and no hold of its own: it is withdrawn, and no more (R43). -/
theorem State.settle_withdraws_one (hm : s.control.mode ≠ .running) (hn : isLever n = true)
    (hf : (s.lever n).phase.isFree = true) (ho : s.othersSeated n) (hh : s.hold? n = none) :
    s.settle = ((s.putLever n (s.lever n).withdrawn).emit .leverWithdrawn n GrantFail.mode.bytes).removalsLast := by
  have hfails (m : Nat) : s.keepFail m = some .mode := if_pos hm
  have hmem : n ∈ Tab.numbers 24 := Tab.mem_numbers.2 (isLever_range hn)
  have hfailing : s.failing = [(n, .mode)] := by
    refine filterMap_alone (Tab.nodup_numbers 24) hmem (by rw [if_pos hf, hfails]; rfl) fun m hmm hne => ?_
    rw [if_neg (by simp [(ho m hmm hne).2])]
  generalize hw : (s.putLever n (s.lever n).withdrawn).emit .leverWithdrawn n GrantFail.mode.bytes = w
  have hpass : s.withdrawPass = w := by
    rw [State.withdrawPass, hfailing, ← hw]
    exact State.moveLever_unheld _ _ _ hh
  have hmode : w.control.mode ≠ .running := by rw [← hw]; exact hm
  have hgrantable : w.grantable = [] := List.filter_eq_nil_iff.2 fun m _ => by simp [State.grantFail, State.keepFail, hmode]
  unfold State.settle State.settleLevers
  dsimp only
  rw [hpass, hgrantable]

theorem State.drafts_removalsLast (h : ∀ k ∈ s.drafts, k.1 ≠ .holdRemoved) : s.removalsLast.drafts = s.drafts := by
  have hkept : ∀ d ∈ s.emitted, d.event ≠ .holdRemoved := fun d hd => h d.key (List.mem_map_of_mem hd)
  have hfirst : s.emitted.filter (·.event ≠ .holdRemoved) = s.emitted := List.filter_eq_self.2 fun d hd => by simpa using hkept d hd
  have hlast : s.emitted.filter (·.event = .holdRemoved) = [] := List.filter_eq_nil_iff.2 fun d hd => by simpa using hkept d hd
  simp only [State.drafts, State.removalsLast, hfirst, hlast, List.append_nil]

/-- HOLD with one lever released and one time release in progress at another signal sends *held*, *withdrawn* and *cancelled*. -/
theorem State.held_drafts {h : Hold} (hd : s.drafts = []) (hn : isLever n = true) (hf : (s.lever n).phase.isFree = true)
    (ho : s.othersSeated n) (hh : s.holds = [h]) (hr : h.releasing = true) (hne : h.signal ≠ n) :
    s.heldBegun.settle.holdsOnHold.drafts = [(.modeHeld, 0), (.leverWithdrawn, n), (.holdCancelled, h.signal)] := by
  have hlever (m : Nat) : (s.heldBegun.lever m).phase = (s.lever m).phase := by
    rw [State.heldBegun_lever]; split <;> rfl
  have hnone : s.heldBegun.hold? n = none := by
    rw [State.hold?_of_outside s.heldBegun_outside (by decide), State.hold?, hh]
    simp [hne]
  have hothers : s.heldBegun.othersSeated n := fun m hm hmn => by
    have := ho m hm hmn
    rwa [State.unraised, ← hlever] at this
  rw [State.settle_withdraws_one (s := s.heldBegun) nofun hn (by rwa [hlever]) hothers hnone]
  generalize hw : (s.heldBegun.putLever n _).emit .leverWithdrawn n GrantFail.mode.bytes = w
  have hdrafts : w.drafts = [(.modeHeld, 0), (.leverWithdrawn, n)] := by
    rw [← hw, State.drafts_emit, State.drafts_of_outside (State.putLever_outside _ _ _) (by decide), State.heldBegun_drafts hd]
    rfl
  have hholds : w.removalsLast.holds = [h] := by
    have hsame : w.holds = s.heldBegun.holds := by rw [← hw]; rfl
    exact hsame.trans ((s.heldBegun_outside .holds (by decide)).trans hh)
  have hcancel : w.removalsLast.holdsOnHold = w.removalsLast.cancelTimeRelease h .partHeld := by
    rw [State.holdsOnHold, hholds, List.filter_cons_of_pos hr]
    rfl
  rw [hcancel, State.cancelTimeRelease, State.drafts_emit]
  have hlast : w.removalsLast.drafts = w.drafts := State.drafts_removalsLast (by simp [hdrafts])
  show w.removalsLast.drafts ++ _ = _
  rw [hlast, hdrafts]
  rfl

/-! ### Requests of the technician (R185) -/

theorem State.request_owned {tm : Time} {tag : Byte} {r : Request} {k : Result} {rest : List Byte} (h : s.ready)
    (hf : s.requestFail r = none) (ho : (s.advance tm).own r = (k, rest, v)) :
    s.request tm tag r = (v.replied ⟨r.replyKind, tag, k, rest⟩).close := by
  rw [State.request_own tm tag h hf, ho]

theorem State.requestFail_hold (h : s.inputs.key = true) : s.requestFail .hold = none := by
  simp [State.requestFail, h, Request.fits]

theorem State.requestFail_resume (h : s.inputs.key = true) : s.requestFail .resume = none := by
  simp [State.requestFail, h, Request.fits]

theorem State.requestFail_restart (h : s.inputs.key = true) : s.requestFail .restart = none := by
  simp [State.requestFail, h, Request.fits]

/-- HOLD in RUNNING (R43, R67, R197). -/
theorem hold_running {tm : Time} {tag : Byte} (hs : s.ready) (hkey : s.inputs.key = true) (hm : s.control.mode = .running)
    (hl : s.LocksSafe) :
    ∃ u, exec (.hold tm tag) s = .next u ∧ u.replies 0xA0 tag .ok [] ∧ u.control.mode = .held .hold ∧
      u.store.working = s.store.inForce ∧ u.store.written = false ∧ u.store.inForce = s.store.inForce ∧
      u.store.checkGood = s.store.checkGood ∧
      (∀ n ∈ Tab.numbers 24, (u.lever n).solenoid = false) ∧ (∀ h ∈ u.holds, h.releasing = false) ∧
      s.announcesFirst u [(.modeHeld, 0)] ∧
      (∀ n h, isLever n = true → (s.lever n).phase.isFree = true → s.othersSeated n → s.holds = [h] →
        h.releasing = true → h.signal ≠ n →
        s.announces u [(.modeHeld, 0), (.leverWithdrawn, n), (.holdCancelled, h.signal)]) ∧
      ChangesOnly [.mode, .configuration, .levers, .holds, .choices, .slot] s u := by
  have hnow : (s.advance tm).control.mode = .running := hm
  have hexec : exec (.hold tm tag) s = .next ((s.advance tm).heldBegun.settle.holdsOnHold.replied ⟨0xA0, tag, .ok, []⟩).close :=
    congrArg _ (State.request_owned (r := .hold) hs (State.requestFail_hold hkey) (State.holdPart_running hnow))
  have hlocks : (s.advance tm).LocksKept True := (State.locksSafe_iff.1 hl).outside (s.advance_outside tm) (by decide)
  have hdrafts : (s.advance tm).drafts = [] := State.drafts_of_emitted (State.emitted_of_ready hs)
  have hbegun := (s.advance tm).heldBegun_outside
  generalize hb : (s.advance tm).heldBegun = b at hexec hbegun
  have hstore : b.store = s.store.loaded := by rw [← hb]; rfl
  have hsettle : Outside [.levers, .holds, .choices, .emitted] b b.settle.holdsOnHold := by simp
  have hkept : b.settle.LocksKept True := hb ▸ hlocks.heldBegun.settle
  have hfirst : [(.modeHeld, 0)] <+: b.settle.holdsOnHold.drafts :=
    (State.prefix_settle (s := b) (by simp) (by rw [← hb, State.heldBegun_drafts hdrafts])).trans
      (State.Appends.holdsOnHold (State.Appends.refl b.settle)).drafts
  have hexact : ∀ n h, isLever n = true → (s.lever n).phase.isFree = true → s.othersSeated n → s.holds = [h] →
      h.releasing = true → h.signal ≠ n →
      b.settle.holdsOnHold.drafts = [(.modeHeld, 0), (.leverWithdrawn, n), (.holdCancelled, h.signal)] := fun n h hn hf ho hh hr hne => by
    subst hb
    exact State.held_drafts hdrafts hn hf ho hh hr hne
  have hreleasing : ∀ h ∈ b.settle.holdsOnHold.holds, h.releasing = false := fun h => State.holdsOnHold_releasing
  have hlevers : b.settle.holdsOnHold.levers = b.settle.levers := b.settle.holdsOnHold_outside .levers (by decide)
  have hmode : b.control.mode = .held .hold := by rw [← hb]; rfl
  have hall : Outside [.now, .mode, .configuration, .levers, .holds, .choices, .slot, .emitted] s
      (b.settle.holdsOnHold.replied ⟨0xA0, tag, .ok, []⟩) :=
    ((s.advance_outside tm).mono (by simp)).trans ((hbegun.mono (by simp)).trans
      ((hsettle.mono (by simp)).trans ((State.replied_outside _ _).mono (by simp))))
  have hrep : Outside [.levers, .holds, .choices, .emitted, .slot] b (b.settle.holdsOnHold.replied ⟨0xA0, tag, .ok, []⟩) :=
    (hsettle.mono (by simp)).trans ((State.replied_outside _ _).mono (by simp))
  generalize hv : b.settle.holdsOnHold = v at *
  have hvmode : (v.replied ⟨0xA0, tag, .ok, []⟩).control.mode = .held .hold := (hrep.mode_eq (by decide)).trans hmode
  have hvstore : (v.replied ⟨0xA0, tag, .ok, []⟩).store = s.store.loaded := (hrep.store_eq (by decide)).trans hstore
  have hsends (k : NoticeKind) : (v.replied ⟨0xA0, tag, .ok, []⟩).sends k = s.sends k :=
    State.sends_of_valid (by rw [State.invalid, hm]; rfl) (by rw [State.invalid, hvmode]; rfl) (by rw [State.conf, hvstore]; rfl) k
  have hclose := State.close_outside (v.replied ⟨0xA0, tag, .ok, []⟩)
  have hustore := (hclose.store_eq (by decide)).trans hvstore
  refine ⟨_, hexec, State.replies_close .., (hclose.mode_eq (by decide)).trans hvmode, ?_, ?_, ?_, ?_,
    fun n hn => ?_, fun h hh => ?_, ?_, fun n h hn hf ho hh hr hne => ?_, changesOnly_close (hall.mono (by simp [closing]))⟩
  iterate 4 · rw [hustore]; rfl
  · rw [State.close_lever]
    exact lever_of_levers hlevers ▸ (hkept.held (by rw [b.settle_outside.mode_eq (by decide), hmode]; decide) hn).1
  · exact hreleasing h ((hclose .holds (by decide)) ▸ hh)
  · exact State.announcesFirst_close (by rw [hvmode]; decide) (hall .outbox (by decide)).1 hsends hfirst
  · have hann : s.announces (v.replied ⟨0xA0, tag, .ok, []⟩).close (v.replied ⟨0xA0, tag, .ok, []⟩).drafts :=
      State.announces_close (by rw [hvmode]; decide) (hall .outbox (by decide)).1 hsends
    rwa [State.drafts_of_outside (State.replied_outside _ _) (by decide), hexact n h hn hf ho hh hr hne] at hann

/-! ### RESUME and RESTART (R199, R200) -/

/-- Something is to follow the reply. -/
def State.following (a : AfterReply) (s : State) : State := s.putControl { s.control with after := some a }

theorem State.following_outside (a : AfterReply) (s : State) : Outside [.after] s (s.following a) := by
  simp [State.following]

theorem State.resumePart_refused (h : s.control.mode = .running ∨ s.control.mode = .held .invalid ∧ s.store.written = false) :
    s.resumePart = (.refusedState, [], s) := by
  unfold State.resumePart
  rcases h with h | ⟨h, hw⟩
  · rw [h]
  · rw [h]; dsimp only; rw [hw]; rfl

theorem State.resumePart_fails {cause : HeldCause} {f : CheckFail} (h : s.control.mode = .held cause) (hw : s.store.written = true)
    (hf : s.store.working.validate = some f) :
    s.resumePart = (.conditions, b1 1 ++ b1 6 ++ b1 f.index ++ b1 f.cls ++ b1 f.check, s) := by
  unfold State.resumePart
  rw [h]; dsimp only
  rw [hw, hf]
  simp [bObject, List.append_assoc]

theorem State.resumePart_writes {cause : HeldCause} (h : s.control.mode = .held cause) (hw : s.store.written = true)
    (hf : s.store.working.validate = none) :
    s.resumePart = (.ok, [], s.following .storeWrite) := by
  unfold State.resumePart
  rw [h]; dsimp only
  rw [hf, hw]
  simp [State.resumePasses, State.following, hw, h]

theorem State.resumePart_runs (h : s.control.mode = .held .hold) (hw : s.store.written = false)
    (hf : s.store.working.validate = none) : s.resumePart = (.ok, [], s.resumedBegun.settle) := by
  unfold State.resumePart
  rw [h]; dsimp only
  rw [hf]
  simp only [State.resumePasses, hw]
  rfl

theorem State.restartPart_started (h : s.control.mode ≠ .start) :
    s.restartPart = (.ok, [], s.following .restart) := by
  unfold State.restartPart
  split
  · next e => exact absurd e h
  · rfl

/-- An answer that leaves something to follow the reply (R189). -/
theorem after_event {tm : Time} {kind tag : Byte} (hs : s.ready) (a : AfterReply) (hv : v = (s.advance tm).following a) :
    (v.replied ⟨kind, tag, .ok, []⟩).close.replies kind tag .ok [] ∧
      (v.replied ⟨kind, tag, .ok, []⟩).close.control.after = some a ∧ s.announces (v.replied ⟨kind, tag, .ok, []⟩).close [] ∧
      ChangesOnly [.after, .slot] s (v.replied ⟨kind, tag, .ok, []⟩).close := by
  have hall : Outside [.now, .after, .slot] s (v.replied ⟨kind, tag, .ok, []⟩) := by
    subst hv
    exact ((s.advance_outside tm).mono (by simp)).trans ((State.following_outside a _).mono (by simp) |>.trans
      ((State.replied_outside _ _).mono (by simp)))
  have hdrafts : (v.replied ⟨kind, tag, .ok, []⟩).drafts = [] := by
    have hnone : s.drafts = [] := State.drafts_of_emitted (State.emitted_of_ready hs)
    rw [← hnone]
    exact State.drafts_of_outside hall (by decide)
  refine ⟨State.replies_close .., ?_, State.announces_of_outside hall (by decide) hs.1.2 hdrafts,
    changesOnly_close (hall.mono (by simp [closing]))⟩
  subst hv
  exact (State.close_outside _ .after (by decide)).1

/-- RESUME of a part held by HOLD with no write (R199). -/
theorem resume_runs {tm : Time} {tag : Byte} (hs : s.ready) (hkey : s.inputs.key = true) (hm : s.control.mode = .held .hold)
    (hw : s.store.written = false) (hf : s.store.working.validate = none) :
    ∃ u, exec (.resume tm tag) s = .next u ∧ u.replies 0xA1 tag .ok [] ∧ u.control.mode = .running ∧
      s.announcesFirst u [(.modeResumed, 0)] ∧ ChangesOnly [.mode, .levers, .holds, .choices, .slot] s u := by
  have hexec : exec (.resume tm tag) s = .next ((s.advance tm).resumedBegun.settle.replied ⟨0xA1, tag, .ok, []⟩).close :=
    congrArg _ (State.request_owned (r := .resume) hs (State.requestFail_resume hkey)
      (State.resumePart_runs (s := s.advance tm) hm hw hf))
  generalize hb : (s.advance tm).resumedBegun = b at hexec
  have hbegun : Outside [.now, .mode, .emitted] s b := by
    subst hb
    simp [State.resumedBegun]
  have hbmode : b.control.mode = .running := by rw [← hb]; rfl
  have hrep : Outside [.levers, .holds, .choices, .emitted, .slot] b (b.settle.replied ⟨0xA1, tag, .ok, []⟩) := by
    simp [State.replied]
  have hall : Outside [.now, .mode, .levers, .holds, .choices, .emitted, .slot] s (b.settle.replied ⟨0xA1, tag, .ok, []⟩) :=
    (hbegun.mono (by simp)).trans (hrep.mono (by simp))
  have hmode : (b.settle.replied ⟨0xA1, tag, .ok, []⟩).control.mode = .running := (hrep.mode_eq (by decide)).trans hbmode
  have hfirst : [(.modeResumed, 0)] <+: b.settle.drafts := State.prefix_settle (by simp) (by
    have hput : ((s.advance tm).putControl { (s.advance tm).control with mode := .running }).drafts = [] :=
      State.drafts_of_emitted (show s.emitted = [] from State.emitted_of_ready hs)
    rw [← hb, State.resumedBegun, State.drafts_emit, hput]
    exact List.prefix_rfl)
  refine ⟨_, hexec, State.replies_close .., ((State.close_outside _).mode_eq (by decide)).trans hmode,
    State.announcesFirst_close (by rw [hmode]; decide) (hall .outbox (by decide)).1 (State.sends_of_valid
      (by rw [State.invalid, hm]; rfl) (by rw [State.invalid, hmode]; rfl) (hall.conf_eq (by decide))) ?_,
    changesOnly_close (hall.mono (by simp [closing]))⟩
  rwa [State.drafts_of_outside (State.replied_outside _ _) (by decide)]

/-- Settles O20: HOLD, RESUME and RESTART, by mode, cause and written flag. -/
theorem modeRequests : Obligations.ModeRequests := by
  intro s tm tag hs hkey
  have unchanged {r : Request} {k : Result} {rest : List Byte} (hf : s.requestFail r = none) (hk : k ≠ .ok)
      (ho : (s.advance tm).own r = (k, rest, s.advance tm)) :
      s.onlyReplies (s.request tm tag r) r.replyKind tag k rest := by
    rw [State.request_owned hs hf ho]
    exact State.onlyReplies_close (State.emitted_of_ready hs) hk
  refine ⟨hold_running hs hkey, fun hm => ?_, resume_runs hs hkey, fun cause hm hw hf => ?_, fun f hf cause hm hw => ?_,
    fun hm => ?_, ?_⟩
  · exact ⟨_, rfl, unchanged (State.requestFail_hold hkey) (by decide) (State.holdPart_refused (s := s.advance tm) hm)⟩
  · exact ⟨_, congrArg Host.Outcome.next (State.request_owned (r := .resume) hs (State.requestFail_resume hkey)
      (State.resumePart_writes (s := s.advance tm) hm hw hf)), after_event hs _ rfl⟩
  · exact ⟨_, rfl, unchanged (State.requestFail_resume hkey) (by decide) (State.resumePart_fails (s := s.advance tm) hm hw hf)⟩
  · exact ⟨_, rfl, unchanged (State.requestFail_resume hkey) (by decide) (State.resumePart_refused (s := s.advance tm) hm)⟩
  · exact ⟨_, congrArg Host.Outcome.next (State.request_owned (r := .restart) hs (State.requestFail_restart hkey)
      (State.restartPart_started (s := s.advance tm) hs.1.2)), after_event hs _ rfl⟩

end Sys2Proof.Machine

namespace Sys2Proof.Machine

variable {ps : List Part} {s t u v : State} {n k : Nat}

/-! ### What an examination makes of the levers (R29, R32) -/

/-- A lever as an examination may leave it: at its position, waiting or released. -/
def Lever.examinedTo (l k : Lever) : Prop :=
  ∃ p b g, k = { l with phase := p, solenoid := b, grant := g } ∧ (p = l.phase.caught ∨ p = l.phase.caught.freed)

/-- From `s` to `v` an examination has reached levers in CATCH and FREE states alone, each on its own side, and no lever that
waits for a fresh lift. -/
def State.ExaminedTo (s v : State) : Prop :=
  ∀ n ∈ Tab.numbers 24,
    ((s.lever n).phase.movable = false → v.lever n = s.lever n) ∧
    ((s.lever n).phase.movable = true → (s.lever n).examinedTo (v.lever n)) ∧
    ((s.lever n).phase.isCatch = true → (s.lever n).fresh = false → v.lever n = s.lever n)

theorem LeverPhase.isFree_of_isCatch {p : LeverPhase} (h : p.isCatch = true) : p.isFree = false := by
  revert h; cases p <;> decide

theorem LeverPhase.caught_caught {p q : LeverPhase} (hp : p.movable = true) (h : q = p.caught ∨ q = p.caught.freed) :
    q.caught = p.caught ∧ q.caught.freed = p.caught.freed ∧ q.movable = true ∧
      (q.isCatch = true → q = p.caught) ∧ (q.isFree = true → q = p.caught.freed) ∧ q.direction = p.direction := by
  rcases h with rfl | rfl <;> revert hp <;> cases p <;> decide

theorem Lever.examinedTo_self {l : Lever} (h : l.phase.movable = true) : l.examinedTo l := by
  refine ⟨l.phase, l.solenoid, l.grant, rfl, ?_⟩
  revert h; cases l.phase <;> decide

/-- A step of an examination from what it has made of a lever. -/
theorem Lever.examinedTo_step {l k : Lever} (hl : l.phase.movable = true) (h : l.examinedTo k) {p : LeverPhase} (b : Bool)
    (g : Option Grant) (hp : p = k.phase.caught ∨ p = k.phase.caught.freed) :
    l.examinedTo { k with phase := p, solenoid := b, grant := g } := by
  obtain ⟨q, c, f, rfl, hq⟩ := h
  obtain ⟨hcaught, hfreed, -⟩ := LeverPhase.caught_caught hl hq
  exact ⟨p, b, g, rfl, by rwa [← hcaught]⟩

theorem examinationKeeps_examinedTo (s : State) : ExaminationKeeps (State.ExaminedTo s) := by
  have own {v : State} {m : Nat} (hv : s.ExaminedTo v) (hm : m ∈ Tab.numbers 24) (hmov : (v.lever m).phase.movable = true) :
      (s.lever m).phase.movable = true := by
    obtain ⟨hfixed, -, -⟩ := hv m hm
    by_contra h
    rw [hfixed (by simpa using h)] at hmov
    exact h hmov
  refine ⟨fun v m f hm hf hv n hn => ?_, fun v m hm hc hg hv n hn => ?_, fun v u k hv n hn => ?_⟩
  · have hmov : (v.lever m).phase.movable = true := by simp [LeverPhase.movable, hf]
    rw [State.withdraw_lever]
    by_cases e : n = m
    · subst e
      obtain ⟨-, hto, hwaits⟩ := hv n hn
      rw [if_pos ⟨rfl, Tab.mem_numbers.1 hn⟩]
      have hs := own hv hn hmov
      refine ⟨fun h => absurd hs (by simp [h]), fun _ => Lever.examinedTo_step hs (hto hs) _ _ (.inl rfl), fun hc hfr => ?_⟩
      rw [hwaits hc hfr] at hf
      exact absurd (LeverPhase.isFree_of_isCatch hc) (by simp [hf])
    · rw [if_neg fun h => e h.1]
      exact hv n hn
  · have hmov : (v.lever m).phase.movable = true := by simp [LeverPhase.movable, hc]
    rw [show (v.grantLever m).lever n = _ from State.moveLever_lever ..]
    by_cases e : n = m
    · subst e
      obtain ⟨-, hto, hwaits⟩ := hv n hn
      rw [if_pos ⟨rfl, Tab.mem_numbers.1 hn⟩]
      have hs := own hv hn hmov
      have hfreed : (v.lever n).phase.freed = (v.lever n).phase.caught.freed := by
        revert hc; cases (v.lever n).phase <;> decide
      refine ⟨fun h => absurd hs (by simp [h]), fun _ => Lever.examinedTo_step hs (hto hs) _ _ (.inr hfreed), fun hc hfr => ?_⟩
      have hfresh := (State.grantFail_eq_none.1 hg).2
      rw [hwaits hc hfr, hfr] at hfresh
      cases hfresh
    · rw [if_neg fun h => e h.1]
      exact hv n hn
  · rw [State.lever_of_outside k (by decide)]
    exact hv n hn

theorem State.ExaminedTo.refl (s : State) : s.ExaminedTo s := fun _ _ => ⟨fun _ => rfl, Lever.examinedTo_self, fun _ _ => rfl⟩

theorem State.settle_examinedTo (s : State) : s.ExaminedTo s.settle :=
  (examinationKeeps_examinedTo s).settle (.refl s)

/-! ### Grant records that hold the entry read now (R28) -/

/-- Every released lever's grant record is, so far as `R` says, that of the entry read now. -/
def State.GrantedAs (R : Grant → Grant → Prop) (s : State) : Prop :=
  ∀ n ∈ Tab.numbers 24, (s.lever n).phase.isFree = true → ∃ g, (s.lever n).grant = some g ∧ R g (s.grantNow n)

theorem State.grantNow_congr (k : Outside ps s u) (hp : .configuration ∉ ps ∧ .set ∉ ps) (hl : u.lever n = s.lever n) :
    u.grantNow n = s.grantNow n := by
  rw [State.grantNow, State.grantNow, hl, k.conf_eq hp.1, show u.set = s.set from k .set hp.2]

theorem examinationKeeps_grantedAs {R : Grant → Grant → Prop} (hR : ∀ g, R g g) : ExaminationKeeps (State.GrantedAs R) := by
  have moved {v : State} {m : Nat} {l : Lever} {e : NoticeEvent} {x : List Byte} (hv : v.GrantedAs R)
      (hl : m ∈ Tab.numbers 24 → l.phase.isFree = true →
        ∃ g, l.grant = some g ∧ R g ⟨l.phase.direction, v.set, namedBy (v.conf.entry m v.set l.phase.direction)⟩) :
      (v.moveLever m l e x false).GrantedAs R := by
    have hframe := State.moveLever_outside m l e x false v
    intro n hn hf
    have hlever := State.moveLever_lever m n l e x v
    by_cases h : n = m ∧ 1 ≤ m ∧ m ≤ 24
    · rw [if_pos h] at hlever
      obtain ⟨rfl, -⟩ := h
      rw [hlever] at hf ⊢
      obtain ⟨g, hg, hrel⟩ := hl hn hf
      refine ⟨g, hg, ?_⟩
      rwa [State.grantNow, hlever, hframe.conf_eq (by decide), show (v.moveLever n l e x false).set = v.set from hframe .set (by decide)]
    · rw [if_neg h] at hlever
      rw [hlever] at hf ⊢
      rw [State.grantNow_congr hframe (by decide) hlever]
      exact hv n hn hf
  refine ⟨fun v m f _ hf hv => moved hv fun _ hfree => ?_, fun v m _ hc _ hv => moved hv fun _ _ => ?_, fun v u k hv n hn hf => ?_⟩
  · exact absurd hfree (by simp [(LeverPhase.caught_facts hf).1])
  · refine ⟨_, rfl, ?_⟩
    have hd : (v.lever m).phase.freed.direction = (v.lever m).phase.direction := LeverPhase.direction_freed _
    show R _ ⟨(v.lever m).phase.freed.direction, _, namedBy (v.conf.entry m v.set (v.lever m).phase.freed.direction)⟩
    rw [hd]
    exact hR _
  · have hl := State.lever_of_outside k (by decide) n
    rw [hl] at hf ⊢
    rw [State.grantNow_congr k (by decide) hl]
    exact hv n hn hf

/-! ### Conditions that a withdrawal relaxes and a grant leaves (R27, R32) -/

/-- A change that removes no standing position, makes no hold and adds no grant record fails no condition of a lever. -/
theorem State.keepFail_relaxes (h : s.keepFail n = none) (k : Outside [.levers, .holds, .choices, .emitted] s u)
    (hd : (u.lever n).phase.direction = (s.lever n).phase.direction)
    (hstand : ∀ m ∈ namedBy (s.entryNow n), s.standing m ≠ .nowhere → u.standing m = s.standing m) (hholds : s.NoNewHold u)
    (hnames : ∀ m ∈ Tab.numbers 24, s.names m n = false → u.names m n = false) : u.keepFail n = none := by
  obtain ⟨hmode, hentry, hnaming, hholder⟩ := State.keepFail_eq_none.1 h
  obtain ⟨hterms, hspare⟩ := State.entryFail_eq_none.1 hentry
  have hsame : u.entryNow n = s.entryNow n := by
    rw [State.entryNow, State.entryNow, hd, k.conf_eq (by decide), show u.set = s.set from k .set (by decide)]
  refine State.keepFail_eq_none.2 ⟨(k.mode_eq (by decide)).trans hmode, State.entryFail_eq_none.2 ⟨fun t ht => ?_, ?_⟩, ?_, ?_⟩
  · rw [hsame] at ht
    have hok := hterms t ht
    have stands {m : Nat} {p : Standing} (hm : m ∈ t.levers) (hp : s.standing m = p) (hne : p ≠ .nowhere) : u.standing m = p :=
      (hstand m (mem_namedBy.2 ⟨t, ht, hm⟩) (hp ▸ hne)).trans hp
    cases t with
    | ln m => simpa [State.termOk] using stands (by simp [Term.levers]) (by simpa [State.termOk] using hok) (by decide)
    | lr m => simpa [State.termOk] using stands (by simp [Term.levers]) (by simpa [State.termOk] using hok) (by decide)
    | lnc m j =>
      have heither : s.standing m = .normal ∨ s.standing j = .normal := by simpa [State.termOk] using hok
      have : u.standing m = .normal ∨ u.standing j = .normal :=
        heither.imp (stands (by simp [Term.levers]) · (by decide)) (stands (by simp [Term.levers]) · (by decide))
      simpa [State.termOk] using this
    | tc a => rwa [State.termOk_congr k (by decide) (by simp [Term.levers])]
    | lcr x => rwa [State.termOk_congr k (by decide) (by simp [Term.levers])]
  · rwa [k.conf_eq (by decide)]
  · rw [State.holdNaming_eq_none, k.conf_eq (by decide)]
    exact fun j hj => State.holdNaming_eq_none.1 hnaming j (hholds hj)
  · exact State.holder_eq_none.2 fun m hm => hnames m hm (State.holder_eq_none.1 hholder m hm)

theorem LeverPhase.standing_withdrawn {p : LeverPhase} (h : p.isFree = true) : p.standing = .nowhere ∧
    p.caught.isFree = false ∧ p.caught ≠ .travel ∧ p.caught.isCatch = true := by
  revert h; cases p <;> decide

/-- A pass of withdrawals leaves each release that fails no condition, and it fails none then. -/
theorem State.withdrawPass_stays (hn : n ∈ Tab.numbers 24) (h : s.keepFail n = none) :
    s.withdrawPass.lever n = s.lever n ∧ s.withdrawPass.keepFail n = none := by
  have hown : s.withdrawPass.lever n = s.lever n := by
    rw [State.withdrawPass_lever s hn, if_neg]
    simp [h]
  refine ⟨hown, State.keepFail_relaxes h ((State.withdrawPass_outside s).mono (by simp)) (by rw [hown]) (fun m _ hm => ?_)
    (State.NoNewHold.withdrawPass (.refl s)) fun m hm hnames => ?_⟩
  · have hrange : 1 ≤ m ∧ m ≤ 24 := State.lever_range fun e => hm (by rw [State.standing, e]; rfl)
    rw [State.standing, State.withdrawPass_lever s (Tab.mem_numbers.2 hrange)]
    split
    · next hf => exact absurd (LeverPhase.standing_of_free hf.1) hm
    · rfl
  · by_cases hf : (s.lever m).phase.isFree = true ∧ (s.keepFail m).isSome = true
    · obtain ⟨-, hfree, htravel, -⟩ := LeverPhase.standing_withdrawn hf.1
      rw [State.names, State.withdrawPass_lever s hm, if_pos hf]
      simp [Lever.withdrawn]
    · rw [← hnames]
      exact State.names_congr fun _ => by rw [State.withdrawPass_lever s hm, if_neg hf]

theorem State.failing_eq_nil : s.failing = [] ↔ ∀ n ∈ Tab.numbers 24, (s.lever n).phase.isFree = true → s.keepFail n = none := by
  rw [State.failing, List.filterMap_eq_nil_iff]
  refine forall₂_congr fun n _ => ?_
  by_cases h : (s.lever n).phase.isFree = true <;> simp [h]

theorem State.grantable_eq_nil : s.grantable = [] ↔
    ∀ n ∈ Tab.numbers 24, (s.lever n).phase.isCatch = true → s.grantFail n ≠ none := by
  rw [State.grantable, List.filter_eq_nil_iff]
  refine forall₂_congr fun n _ => ?_
  by_cases h : (s.lever n).phase.isCatch = true <;> simp [h]

/-- After a pass of withdrawals no release fails. -/
theorem State.failing_withdrawPass (s : State) : s.withdrawPass.failing = [] := by
  refine State.failing_eq_nil.2 fun n hn hf => ?_
  by_contra hk
  have hfails : s.keepFail n ≠ none := fun h => hk (State.withdrawPass_stays hn h).2
  rw [State.withdrawPass_lever s hn] at hf
  by_cases hfree : (s.lever n).phase.isFree = true
  · rw [if_pos ⟨hfree, Option.isSome_iff_ne_none.2 hfails⟩] at hf
    exact absurd hf (by simp [Lever.withdrawn, (LeverPhase.caught_facts hfree).1])
  · rw [if_neg fun h => hfree h.1] at hf
    exact hfree hf

/-! ### The examination ends with nothing to do (R29, DESIGN CHOICE log 12) -/

/-- No entry of the set in force holds an LNC term or names its own lever. -/
def State.PlainEntries (s : State) : Prop :=
  ∀ n ∈ Tab.numbers 24, ∀ dir, n ∉ namedBy (s.conf.entry n s.set dir) ∧ ∀ t ∈ s.conf.entry n s.set dir, ∀ a b, t ≠ .lnc a b

theorem State.PlainEntries.outside (h : s.PlainEntries) (k : Outside ps s u) (hp : .configuration ∉ ps ∧ .set ∉ ps) :
    u.PlainEntries := by
  rw [State.PlainEntries, k.conf_eq hp.1, show u.set = s.set from k .set hp.2]
  exact h

/-- A plain entry that is satisfied names no lever that stands nowhere. -/
theorem State.standing_of_named {m : Nat} (he : s.PlainEntries) (hn : n ∈ Tab.numbers 24) (h : s.entryFail n = none)
    (hm : m ∈ namedBy (s.entryNow n)) : s.standing m ≠ .nowhere := by
  obtain ⟨t, ht, hmem⟩ := mem_namedBy.1 hm
  have hok := (State.entryFail_eq_none.1 h).1 t ht
  cases t with
  | ln j =>
    obtain rfl : m = j := by simpa [Term.levers] using hmem
    have hs : s.standing m = .normal := by simpa [State.termOk] using hok
    simp [hs]
  | lr j =>
    obtain rfl : m = j := by simpa [Term.levers] using hmem
    have hs : s.standing m = .reverse := by simpa [State.termOk] using hok
    simp [hs]
  | lnc a b => exact absurd rfl ((he n hn _).2 _ ht a b)
  | tc a => simp [Term.levers] at hmem
  | lcr x => simp [Term.levers] at hmem

/-- Two grant records that name the same levers. -/
def SameNamed (g h : Grant) : Prop := g.named = h.named

theorem examinationKeeps_named : ExaminationKeeps (State.GrantedAs SameNamed) := examinationKeeps_grantedAs fun _ => rfl

theorem State.standing_free (h : (s.lever n).phase.isFree = true) : s.standing n = .nowhere := LeverPhase.standing_of_free h

/-- What a waiting lever that fails no condition finds at a released one that fails none: neither names the other. -/
theorem State.grantable_apart {j : Nat} (he : s.PlainEntries) (hg : s.GrantedAs SameNamed) (hk : k ∈ s.grantable)
    (hj : j ∈ Tab.numbers 24) (hf : (s.lever j).phase.isFree = true) :
    k ∉ namedBy (s.entryNow j) ∧ j ∉ namedBy (s.entryNow k) := by
  obtain ⟨hnum, hcatch, hgrant⟩ := State.grantable_iff.1 hk
  obtain ⟨-, hentry, -, hholder⟩ := State.keepFail_eq_none.1 (State.grantFail_eq_none.1 hgrant).1
  refine ⟨fun hnamed => ?_, fun hnamed => State.standing_of_named he hnum hentry hnamed (State.standing_free hf)⟩
  obtain ⟨g, hgrant, hsame⟩ := hg j hj hf
  have hne : j ≠ k := by
    rintro rfl
    exact absurd hf (by simp [LeverPhase.isFree_of_isCatch hcatch])
  have hno := State.holder_eq_none.1 hholder j hj
  rw [Bool.eq_false_iff] at hno
  exact hno (State.names_iff.2 ⟨hne, .inl hf, g, hgrant, hsame ▸ hnamed⟩)

theorem isLever_of_mem (h : n ∈ Tab.numbers 24) : isLever n = true := by
  simpa [isLever] using Tab.mem_numbers.1 h

/-- A grant replaces one lever and leaves the rest. -/
theorem State.grantLever_lever (hk : k ∈ s.grantable) (m : Nat) :
    (s.grantLever k).lever m = if m = k then s.released k else s.lever m := by
  obtain ⟨hnum, hcatch, -⟩ := State.grantable_iff.1 hk
  rw [State.grantLever_eq (isLever_of_mem hnum) hcatch]
  exact State.lever_putLever_of (isLever_of_mem hnum) m

theorem State.grantLever_outside_levers (hk : k ∈ s.grantable) : Outside [.levers, .emitted] s (s.grantLever k) := by
  obtain ⟨hnum, hcatch, -⟩ := State.grantable_iff.1 hk
  rw [State.grantLever_eq (isLever_of_mem hnum) hcatch]
  simp

/-- A grant fails no condition of a lever that was released and fails none. -/
theorem State.grantLever_stays (he : s.PlainEntries) (hg : s.GrantedAs SameNamed) (hk : k ∈ s.grantable)
    (hn : n ∈ Tab.numbers 24) (hf : (s.lever n).phase.isFree = true) (hkeep : s.keepFail n = none) :
    (s.grantLever k).lever n = s.lever n ∧ (s.grantLever k).keepFail n = none := by
  obtain ⟨hnum, hcatch, -⟩ := State.grantable_iff.1 hk
  obtain ⟨hown, hother⟩ := State.grantable_apart he hg hk hn hf
  have hlever := State.grantLever_lever hk
  have hne : n ≠ k := by
    rintro rfl
    exact absurd hf (by simp [LeverPhase.isFree_of_isCatch hcatch])
  have hself : (s.grantLever k).lever n = s.lever n := by rw [hlever, if_neg hne]
  refine ⟨hself, State.keepFail_relaxes hkeep ((State.grantLever_outside_levers hk).mono (by simp)) (by rw [hself])
    (fun m hm _ => ?_) ((State.NoNewHold.refl s).outside (State.grantLever_outside_levers hk) (by decide)) fun m hm hno => ?_⟩
  · have hmk : m ≠ k := by rintro rfl; exact hown hm
    rw [State.standing, hlever, if_neg hmk]; rfl
  · by_cases e : m = k
    · subst e
      rw [Bool.eq_false_iff]
      intro hnames
      obtain ⟨-, -, g, hgrant, hmem⟩ := State.names_iff.1 hnames
      rw [hlever, if_pos rfl] at hgrant
      obtain rfl := Option.some.inj hgrant
      exact hother hmem
    · rw [← hno]
      exact State.names_congr fun _ => by rw [hlever, if_neg e]

/-- A grant where no release fails leaves none that does (R28). -/
theorem State.failing_grantLever (he : s.PlainEntries) (hg : s.GrantedAs SameNamed) (hk : k ∈ s.grantable)
    (hf : s.failing = []) : (s.grantLever k).failing = [] := by
  obtain ⟨hnum, hcatch, hgrant⟩ := State.grantable_iff.1 hk
  refine State.failing_eq_nil.2 fun n hn hfree => ?_
  by_cases e : n = k
  · subst e
    rw [State.grantLever_eq (isLever_of_mem hnum) hcatch, State.keepFail_released (isLever_of_mem hnum) ((he n hn _).1)]
    exact (State.grantFail_eq_none.1 hgrant).1
  · rw [State.grantLever_lever hk, if_neg e] at hfree
    exact (State.grantLever_stays he hg hk hn hfree (State.failing_eq_nil.1 hf n hn hfree)).2

/-- The levers that wait. -/
def State.waiting (s : State) : List Nat := (Tab.numbers 24).filter fun n => (s.lever n).phase.isCatch

theorem State.waiting_grantLever (hk : k ∈ s.grantable) : (s.grantLever k).waiting.length < s.waiting.length := by
  obtain ⟨hnum, hcatch, -⟩ := State.grantable_iff.1 hk
  have hlever := State.grantLever_lever hk
  have hfree : (s.released k).phase.isCatch = false := by
    have := (LeverPhase.freed_facts hcatch).1
    by_contra h
    exact absurd (LeverPhase.isFree_of_isCatch (by simpa using h)) (by simpa [State.released] using this)
  have hsub : (s.grantLever k).waiting = s.waiting.filter fun n => ((s.grantLever k).lever n).phase.isCatch := by
    rw [State.waiting, State.waiting, List.filter_filter]
    refine List.filter_congr fun n _ => ?_
    rw [hlever]
    by_cases e : n = k
    · subst e; simp [hfree]
    · simp [e]
  rw [hsub, List.length_filter_lt_length_iff_exists]
  exact ⟨k, List.mem_filter.2 ⟨hnum, hcatch⟩, by rw [hlever, if_pos rfl, hfree]; decide⟩

/-- What reads neither the free choices nor the notices finds the same levers to withdraw and to grant. -/
theorem State.keepFail_of_outside (k : Outside [.choices, .emitted] s u) (n : Nat) : u.keepFail n = s.keepFail n := by
  have hlever := State.lever_of_outside k (by decide)
  exact State.keepFail_congr k (by decide) (by rw [hlever]) (fun m _ => by rw [State.standing, hlever]; rfl) fun m _ =>
    State.names_congr fun _ => hlever m

theorem State.grantFail_of_outside (k : Outside [.choices, .emitted] s u) (n : Nat) : u.grantFail n = s.grantFail n := by
  rw [State.grantFail, State.grantFail, State.keepFail_of_outside k, State.lever_of_outside k (by decide)]

theorem State.failing_of_outside (k : Outside [.choices, .emitted] s u) : u.failing = s.failing := by
  simp only [State.failing, State.keepFail_of_outside k, State.lever_of_outside k (by decide)]

theorem State.grantable_of_outside (k : Outside [.choices, .emitted] s u) : u.grantable = s.grantable := by
  simp only [State.grantable, State.grantFail_of_outside k, State.lever_of_outside k (by decide)]

theorem State.withdrawPass_of_failing (h : s.failing = []) : s.withdrawPass = s := by
  rw [State.withdrawPass, h]; rfl

/-- An examination has ended at `u` with nothing to do, and the releases of `s` that failed no condition are as they were. -/
structure State.Idles (s u : State) : Prop where
  failing : u.failing = []
  grantable : u.grantable = []
  stays : ∀ n ∈ Tab.numbers 24, (s.lever n).phase.isFree = true → s.keepFail n = none → u.lever n = s.lever n

/-- With a round for each lever that waits, an examination ends with nothing to do. -/
theorem State.settleLevers_idle (fuel : Nat) (he : s.PlainEntries) (hg : s.GrantedAs SameNamed)
    (hw : s.withdrawPass.waiting.length ≤ fuel) : s.Idles (s.settleLevers fuel) := by
  induction fuel generalizing s with
  | zero =>
    refine ⟨s.failing_withdrawPass, List.eq_nil_iff_forall_not_mem.2 fun n hn => ?_, fun n hn _ hk =>
      (State.withdrawPass_stays hn hk).1⟩
    obtain ⟨hnum, hcatch, -⟩ := State.grantable_iff.1 hn
    have : n ∈ s.withdrawPass.waiting := List.mem_filter.2 ⟨hnum, hcatch⟩
    rw [List.length_eq_zero_iff.1 (Nat.le_zero.1 hw)] at this
    cases this
  | succ fuel ih =>
    have hentries : s.withdrawPass.PlainEntries := he.outside s.withdrawPass_outside (by decide)
    have hpassed : s.withdrawPass.GrantedAs SameNamed := examinationKeeps_named.withdrawPass hg
    have round {v : State} {k : Nat} (hv : Outside [.choices] s.withdrawPass v) (hk : k ∈ s.withdrawPass.grantable) :
        s.Idles ((v.grantLever k).settleLevers fuel) := by
      have hsame : Outside [.choices, .emitted] s.withdrawPass v := hv.mono (by simp)
      have hkv : k ∈ v.grantable := by rwa [State.grantable_of_outside hsame]
      have hev : v.PlainEntries := hentries.outside hv (by decide)
      have hgv : v.GrantedAs SameNamed := examinationKeeps_named.frame _ _ hsame hpassed
      have hfv : v.failing = [] := (State.failing_of_outside hsame).trans s.failing_withdrawPass
      have hfails := State.failing_grantLever hev hgv hkv hfv
      have hwaits : v.waiting = s.withdrawPass.waiting := by
        simp only [State.waiting, State.lever_of_outside hsame (by decide)]
      obtain ⟨hnum, hcatch, hgrant⟩ := State.grantable_iff.1 hkv
      have hless := State.waiting_grantLever hkv
      rw [hwaits] at hless
      obtain ⟨hf, hgr, hstays⟩ := ih (s := v.grantLever k) (hev.outside (State.grantLever_outside_levers hkv) (by decide))
        (examinationKeeps_named.grant v k hnum hcatch hgrant hgv) (by
          rw [State.withdrawPass_of_failing hfails]; omega)
      refine ⟨hf, hgr, fun n hn hfree hkeep => ?_⟩
      obtain ⟨hown, hkept⟩ := State.withdrawPass_stays hn hkeep
      have hlever : v.lever n = s.lever n := (State.lever_of_outside hv (by decide) n).trans hown
      obtain ⟨hself, hlasts⟩ := State.grantLever_stays hev hgv hkv hn (by rwa [hlever])
        ((State.keepFail_of_outside hsame n).trans hkept)
      rw [hstays n hn (by rwa [hself, hlever]) hlasts, hself, hlever]
    unfold State.settleLevers; dsimp only
    split
    · next hnone => exact ⟨s.failing_withdrawPass, hnone, fun n hn _ hk => (State.withdrawPass_stays hn hk).1⟩
    · next n hl => exact round (.refl _ _) (by simp [hl])
    · next n m rest hl =>
      refine round (State.nextChoice_outside _) ?_
      rw [show s.withdrawPass.grantable = n :: m :: rest from hl]
      exact getD_mod_mem (by simp) _ _

theorem State.waiting_length (s : State) : s.waiting.length ≤ 24 :=
  (List.length_filter_le _ _).trans (by simp [Tab.numbers])

/-- Where no entry holds an LNC term or names its own lever, an examination ends with nothing to do. -/
theorem State.settle_idles (he : s.PlainEntries) (hg : s.GrantedAs SameNamed) : s.Idles s.settle := by
  have hw : s.withdrawPass.waiting.length ≤ 48 := s.withdrawPass.waiting_length.trans (by decide)
  obtain ⟨hf, hgr, hstays⟩ := State.settleLevers_idle 48 he hg hw
  have hlast := (State.removalsLast_outside (s.settleLevers 48)).mono (ps := [.choices, .emitted]) (by simp)
  exact ⟨(State.failing_of_outside hlast).trans hf, (State.grantable_of_outside hlast).trans hgr, fun n hn hfree hk =>
    (State.lever_of_outside hlast (by decide) n).trans (hstays n hn hfree hk)⟩

end Sys2Proof.Machine

namespace Sys2Proof.Machine

variable {ps : List Part} {s t u v z : State} {n k : Nat} {moved : Nat → Prop}

/-! ### Examined levers (R29, R32) -/

/-- Some condition of R27 fails for a lever. -/
theorem State.grantFail_eq_none_iff_refuses {dir : Direction} (hd : (s.lever n).phase.direction = dir) :
    s.grantFail n = none ↔ ∀ k items, ¬ s.refusesRelease n dir k items := by
  rw [State.grantFail_eq_none, State.keepFail_eq_none_iff_refuses hd]
  constructor
  · rintro ⟨hkeep, hfresh⟩ k items hr
    match k, hr with
    | 0, hr => exact hr
    | 1, hr => exact hkeep 1 (by omega) _ hr
    | 2, hr => exact hkeep 2 (by omega) _ hr
    | 3, hr => exact hkeep 3 (by omega) _ hr
    | 4, hr => exact hkeep 4 (by omega) _ hr
    | 5, hr => simp [(State.refuses_five.1 hr).2] at hfresh
    | k + 6, hr => exact hr
  · intro h
    refine ⟨fun k _ items => h k items, ?_⟩
    by_contra hfresh
    exact h 5 [] (State.refuses_five.2 ⟨rfl, by simpa using hfresh⟩)

/-- The levers are examined where an examination has nothing to do. -/
theorem State.examined_iff : s.Examined ↔ s.failing = [] ∧ s.grantable = [] := by
  rw [State.failing_eq_nil, State.grantable_eq_nil]
  have hcatch (n : Nat) : (∃ k items, s.refusesRelease n (s.lever n).phase.direction k items) ↔ s.grantFail n ≠ none := by
    simp [State.grantFail_eq_none_iff_refuses]
  have hfree (n : Nat) := State.keepFail_eq_none_iff_refuses (s := s) (n := n) rfl
  simp only [State.Examined, hcatch, ← hfree]
  exact ⟨fun h => ⟨fun n hn => (h n hn).2, fun n hn => (h n hn).1⟩, fun h n hn => ⟨h.2 n hn, h.1 n hn⟩⟩

/-! ### An event up to its examination -/

/-- An event has brought `s` to `z`, where its examination is to come: but for the levers moved it has left those raised, new
releases go past the old ones, a new set finds none released, and a new hold is of a lever at rest. -/
structure State.Prepares (s z : State) (moved : Nat → Prop) : Prop where
  conf : z.conf = s.conf
  same : ∀ n ∈ Tab.numbers 24, ¬ moved n → (s.lever n).phase.movable = true → z.lever n = s.lever n
  granted : z.GrantedAs Eq
  set : ∀ n ∈ Tab.numbers 24, (s.lever n).phase.isFree = true → z.set = s.set
  freed : ∀ m ∈ Tab.numbers 24, (z.lever m).phase.isFree = true → z.lever m = s.lever m ∨
    ∀ q ∈ Tab.numbers 24, q ≠ m → (s.lever q).phase.isFree = true → m ∉ namedBy (s.entryNow q) ∧ q ∉ namedBy (z.entryNow m)
  holds : ∀ h ∈ z.holds, h.signal ∈ s.holds.map (·.signal) ∨ (z.lever h.signal).phase.movable = false

theorem State.PlainLocking.entries (h : s.PlainLocking) : s.PlainEntries := fun n hn dir => (h n hn).1 s.set dir

theorem State.PlainLocking.granted (h : s.PlainLocking) : s.GrantedAs Eq := fun n hn hf => ⟨_, (h n hn).2 hf, rfl⟩

theorem State.GrantedAs.named (h : s.GrantedAs Eq) : s.GrantedAs SameNamed := fun n hn hf => by
  obtain ⟨g, hg, rfl⟩ := h n hn hf
  exact ⟨_, hg, rfl⟩

theorem State.Prepares.entries (h : s.Prepares z moved) (hp : s.PlainLocking) : z.PlainEntries := fun n hn dir => by
  rw [h.conf]
  exact (hp n hn).1 z.set dir

theorem State.Prepares.idles (h : s.Prepares z moved) (hp : s.PlainLocking) : z.Idles z.settle :=
  State.settle_idles (h.entries hp) h.granted.named

/-- Where a lever stands after an examination it stood before, but where it was released. -/
theorem State.standing_settle {p : Standing} (hp : p ≠ .nowhere) (h : z.settle.standing n = p) :
    z.standing n = p ∨ (z.lever n).phase.isFree = true := by
  have hrange : 1 ≤ n ∧ n ≤ 24 := State.lever_range fun e => hp (by rw [← h, State.standing, e]; rfl)
  obtain ⟨hfixed, hto, -⟩ := z.settle_examinedTo n (Tab.mem_numbers.2 hrange)
  by_cases hm : (z.lever n).phase.movable = true
  · by_cases hf : (z.lever n).phase.isFree = true
    · exact .inr hf
    · obtain ⟨q, b, g, hl, hq⟩ := hto hm
      have hcatch : (z.lever n).phase.isCatch = true := by simpa [LeverPhase.movable, hf] using hm
      have hstand : q.standing = p := by rw [State.standing, hl] at h; exact h
      refine .inl ?_
      rw [← hstand, State.standing]
      rcases hq with rfl | rfl
      · revert hcatch; cases (z.lever n).phase <;> decide
      · have hnowhere : (z.lever n).phase.caught.freed.standing = .nowhere := by
          revert hcatch; cases (z.lever n).phase <;> decide
        exact absurd (hstand.symm.trans hnowhere) hp
  · exact .inl (by rw [State.standing, ← hfixed (by simpa using hm)]; exact h)

/-- What an event has made fail for a lever released before it fails still when its examination has ended (R32). -/
theorem State.Prepares.lasts (h : s.Prepares z moved) (hp : s.PlainLocking) (hn : n ∈ Tab.numbers 24) (hm : ¬ moved n)
    (hf : (s.lever n).phase.isFree = true) (hs : s.keepFail n = none) (hz : z.settle.keepFail n = none) : z.keepFail n = none := by
  obtain ⟨-, hentry, hnaming, hholder⟩ := State.keepFail_eq_none.1 hs
  obtain ⟨hmode', hentry', hnaming', hholder'⟩ := State.keepFail_eq_none.1 hz
  obtain ⟨hterms, hspare⟩ := State.entryFail_eq_none.1 hentry
  obtain ⟨hterms', -⟩ := State.entryFail_eq_none.1 hentry'
  have hframe := z.settle_outside
  have hself : z.lever n = s.lever n := h.same n hn hm (by simp [LeverPhase.movable, hf])
  have hdir : (z.settle.lever n).phase.direction = (s.lever n).phase.direction := by
    rw [(z.settle_movesWithin.side n).2, hself]
  have hnow : z.entryNow n = s.entryNow n := by
    rw [State.entryNow, State.entryNow, hself, h.conf, h.set n hn hf]
  have hnow' : z.settle.entryNow n = s.entryNow n := by
    rw [State.entryNow, hdir, hframe.conf_eq (by decide), show z.settle.set = z.set from hframe .set (by decide), h.conf,
      h.set n hn hf]
    rfl
  have stands {m : Nat} {p : Standing} (hmem : m ∈ namedBy (s.entryNow n)) (hne : p ≠ .nowhere) (hb : s.standing m = p)
      (ha : z.settle.standing m = p) : z.standing m = p := by
    rcases State.standing_settle hne ha with h' | hfree
    · exact h'
    · have hrange : 1 ≤ m ∧ m ≤ 24 := State.lever_range fun e => hne (by rw [← hb, State.standing, e]; rfl)
      rcases h.freed m (Tab.mem_numbers.2 hrange) hfree with e | hnew
      · rw [State.standing, e]; exact hb
      · have hmn : n ≠ m := by
          rintro rfl
          exact hne (hb.symm.trans (State.standing_free hf))
        exact absurd hmem (hnew n hn hmn hf).1
  refine State.keepFail_eq_none.2 ⟨(hframe.mode_eq (by decide)).symm.trans hmode', State.entryFail_eq_none.2 ⟨fun t ht => ?_, ?_⟩,
    ?_, ?_⟩
  · rw [hnow] at ht
    have hok := hterms t ht
    have hok' := hterms' t (hnow' ▸ ht)
    cases t with
    | ln m =>
      have hnamed : m ∈ namedBy (s.entryNow n) := mem_namedBy.2 ⟨_, ht, by simp [Term.levers]⟩
      simpa [State.termOk] using stands hnamed (by decide) (by simpa [State.termOk] using hok) (by simpa [State.termOk] using hok')
    | lr m =>
      have hnamed : m ∈ namedBy (s.entryNow n) := mem_namedBy.2 ⟨_, ht, by simp [Term.levers]⟩
      simpa [State.termOk] using stands hnamed (by decide) (by simpa [State.termOk] using hok) (by simpa [State.termOk] using hok')
    | lnc a b => exact absurd rfl ((hp n hn).1 s.set _ |>.2 _ ht a b)
    | tc a => rwa [← State.termOk_congr hframe (by decide) (by simp [Term.levers])]
    | lcr x => rwa [← State.termOk_congr hframe (by decide) (by simp [Term.levers])]
  · rwa [h.conf]
  · refine State.holdNaming_eq_none.2 fun j hj hnamed => ?_
    rw [h.conf] at hnamed
    obtain ⟨x, hx, rfl⟩ := List.mem_map.1 hj
    rcases h.holds x hx with hold | hrest
    · exact State.holdNaming_eq_none.1 hnaming _ hold hnamed
    · have hsome : (z.settle.hold? x.signal).isSome = true := by
        rw [State.settle_hold? hrest]
        exact List.find?_isSome.2 ⟨x, hx, by simp⟩
      obtain ⟨y, hy⟩ := Option.isSome_iff_exists.1 hsome
      refine State.holdNaming_eq_none.1 hnaming' x.signal ?_ (by rwa [hframe.conf_eq (by decide), h.conf])
      exact List.mem_map.2 ⟨y, List.mem_of_find?_eq_some hy, State.hold?_signal hy⟩
  · refine State.holder_eq_none.2 fun m hmem => ?_
    rw [Bool.eq_false_iff]
    intro hnames
    obtain ⟨hmn, hphase, g, hg, hnamed⟩ := State.names_iff.1 hnames
    rcases hphase with hfree | htravel
    · rcases h.freed m hmem hfree with e | hnew
      · have hno := State.holder_eq_none.1 hholder m hmem
        rw [Bool.eq_false_iff] at hno
        exact hno (State.names_iff.2 ⟨hmn, .inl (e ▸ hfree), g, e ▸ hg, hnamed⟩)
      · obtain ⟨g', hg', rfl⟩ := h.granted m hmem hfree
        obtain rfl := Option.some.inj (hg.symm.trans hg')
        exact (hnew n hn hmn.symm hf).2 hnamed
    · have hfixed : z.settle.lever m = z.lever m := z.settle_movesWithin.fixed m (by rw [htravel]; rfl)
      have hno := State.holder_eq_none.1 hholder' m hmem
      rw [Bool.eq_false_iff] at hno
      exact hno (State.names_iff.2 ⟨hmn, .inr (by rwa [hfixed]), g, by rwa [hfixed], hnamed⟩)

/-- What the events of R29 leave of the levers raised before them, but for the levers moved (R27, R29, R32). -/
def State.SettlesRaised (s u : State) (moved : Nat → Prop) : Prop :=
  ∀ n ∈ Tab.numbers 24, ¬ moved n → (s.lever n).phase.isCatch = true ∨ (s.lever n).phase.isFree = true →
    ((∃ k ≤ 4, ∃ items, u.refusesRelease n (s.lever n).phase.direction k items) ∨
        (s.lever n).phase.isCatch = true ∧ (s.lever n).fresh = false →
      u.lever n = { s.lever n with phase := (s.lever n).phase.caught, solenoid := false, grant := none }) ∧
    ((∀ k ≤ 4, ∀ items, ¬ u.refusesRelease n (s.lever n).phase.direction k items) →
      (s.lever n).phase.isFree = true ∨ (s.lever n).fresh = true →
      u.lever n = { s.lever n with
        phase := (s.lever n).phase.caught.freed
        solenoid := true
        grant := some ⟨(s.lever n).phase.direction, u.set, namedBy (s.conf.entry n u.set (s.lever n).phase.direction)⟩ })

/-- `u` is where the event ends whose examination has left `r`. -/
structure State.Ends (r u : State) : Prop where
  levers : u.levers = r.levers
  set : u.set = r.set
  conf : u.conf = r.conf
  conditions : ∀ n, u.keepFail n = r.keepFail n

theorem State.Ends.lever {r : State} (h : r.Ends u) (n : Nat) : u.lever n = r.lever n := lever_of_levers h.levers

theorem State.Prepares.examined (h : s.Prepares z moved) (hp : s.PlainLocking) (he : z.settle.Ends u) : u.Examined := by
  obtain ⟨hf, hg, -⟩ := h.idles hp
  refine State.examined_iff.2 ⟨State.failing_eq_nil.2 fun n hn hfree => ?_, State.grantable_eq_nil.2 fun n hn hcatch => ?_⟩
  · rw [he.conditions]
    exact State.failing_eq_nil.1 hf n hn (by rwa [← he.lever])
  · rw [State.grantFail, he.conditions, he.lever]
    exact State.grantable_eq_nil.1 hg n hn (by rwa [← he.lever])

/-- A lever that an event leaves in a CATCH state has its lock off and no grant record. -/
theorem State.LocksSafe.of_catch (h : s.LocksSafe) (hn : n ∈ Tab.numbers 24) (hc : (s.lever n).phase.isCatch = true) :
    (s.lever n).solenoid = false ∧ (s.lever n).grant = none := by
  obtain ⟨hlock, -, hgrant, -⟩ := h n hn
  have hnot : ¬ ((s.lever n).phase.isFree = true ∨ (s.lever n).phase = .travel) := by
    revert hc; cases (s.lever n).phase <;> decide
  refine ⟨Bool.eq_false_iff.2 fun e => hnot (hlock e).2.1, ?_⟩
  by_contra hsome
  exact hnot (hgrant (Option.isSome_iff_ne_none.2 hsome)).2

theorem State.Prepares.settlesRaised (h : s.Prepares z moved) (hp : s.PlainLocking) (hs : s.Examined) (he : z.settle.Ends u)
    (hu : u.LocksSafe) : s.SettlesRaised u moved := by
  intro n hn hm hraised
  have hmov : (s.lever n).phase.movable = true := by simpa [LeverPhase.movable] using hraised
  have hself : z.lever n = s.lever n := h.same n hn hm hmov
  obtain ⟨hf, hg, hstays⟩ := h.idles hp
  obtain ⟨-, hto, hwaits⟩ := z.settle_examinedTo n hn
  rw [hself] at hto hwaits
  obtain ⟨q, b, g, hl, hq⟩ := hto hmov
  rw [← he.lever] at hl
  obtain ⟨-, -, hqmov, hqcatch, hqfree, hqdir⟩ := LeverPhase.caught_caught hmov hq
  have hphase : (u.lever n).phase = q := by rw [hl]
  have hfresh : (u.lever n).fresh = (s.lever n).fresh := by rw [hl]
  have hkeep := State.keepFail_eq_none_iff_refuses (s := u) (n := n) (dir := (s.lever n).phase.direction) (by rw [hphase, hqdir])
  have hcaught (hc : q.isCatch = true) :
      u.lever n = { s.lever n with phase := (s.lever n).phase.caught, solenoid := false, grant := none } := by
    obtain ⟨hb, hn⟩ := hu.of_catch hn (by rw [hphase]; exact hc)
    rw [hl] at hb hn ⊢
    obtain rfl : b = false := hb
    obtain rfl : g = none := hn
    rw [hqcatch hc]
  have heither : q.isCatch = true ∨ q.isFree = true := by simpa [LeverPhase.movable] using hqmov
  refine ⟨fun hwhy => hcaught (heither.resolve_right fun hfree => ?_), fun hno hwhy => ?_⟩
  · rcases hwhy with ⟨k, hk, items, hr⟩ | ⟨hc, hfr⟩
    · have hnone : u.keepFail n = none := by
        rw [he.conditions]
        exact State.failing_eq_nil.1 hf n hn (by rw [← he.lever, hphase]; exact hfree)
      exact hkeep.1 hnone k hk items hr
    · have hsame := hwaits hc hfr
      rw [← he.lever] at hsame
      rw [← hphase, hsame, LeverPhase.isFree_of_isCatch hc] at hfree
      cases hfree
  · have hnone : z.settle.keepFail n = none := by rw [← he.conditions]; exact hkeep.2 hno
    have hfree : q.isFree = true := heither.resolve_left fun hc => by
      by_cases hfr : (s.lever n).fresh = true
      · refine State.grantable_eq_nil.1 hg n hn (by rw [← he.lever, hphase]; exact hc) (State.grantFail_eq_none.2 ⟨hnone, ?_⟩)
        rw [← he.lever, hfresh]; exact hfr
      · have hfs : (s.lever n).phase.isFree = true := hwhy.resolve_right hfr
        have hsfree := State.failing_eq_nil.1 (State.examined_iff.1 hs).1 n hn hfs
        have hlasts := h.lasts hp hn hm hfs hsfree hnone
        have hstill := hstays n hn (by rw [hself]; exact hfs) hlasts
        rw [← he.lever, hself] at hstill
        rw [← hphase, hstill] at hc
        exact absurd hfs (by simp [LeverPhase.isFree_of_isCatch hc])
    have hgranted := (examinationKeeps_grantedAs (R := Eq) fun _ => rfl).settle h.granted n hn (by
      rw [← he.lever, hphase]; exact hfree)
    obtain ⟨g', hg', rfl⟩ := hgranted
    obtain ⟨-, hlock, -, -⟩ := hu n hn
    have hsol := (hlock (by rw [hphase]; exact hfree)).1
    have hgr : (u.lever n).grant = some ⟨(s.lever n).phase.direction, u.set,
        namedBy (s.conf.entry n u.set (s.lever n).phase.direction)⟩ := by
      rw [he.lever, hg', State.grantNow, ← he.lever, hphase, hqdir, ← he.set, ← he.conf]
      have hconf : u.conf = s.conf := he.conf.trans ((z.settle_outside.conf_eq (by decide)).trans h.conf)
      rw [hconf]
    rw [hl] at hsol hgr ⊢
    obtain rfl : b = true := hsol
    obtain rfl : g = _ := hgr
    rw [hqfree hfree]

end Sys2Proof.Machine

namespace Sys2Proof.Machine

variable {ps : List Part} {s t u v w z : State} {n k : Nat} {moved : Nat → Prop}

/-! ### Events that examine (R29) -/

/-- An event on `s`, with its examination, ends at `w`. -/
def State.Examining (s w : State) (moved : Nat → Prop) : Prop := ∃ z, s.Prepares z moved ∧ z.settle.Ends w

theorem State.Ends.refl (s : State) : s.Ends s := ⟨rfl, rfl, rfl, fun _ => rfl⟩

theorem State.Ends.trans (h : s.Ends t) (k : t.Ends u) : s.Ends u :=
  ⟨k.levers.trans h.levers, k.set.trans h.set, k.conf.trans h.conf, fun n => (k.conditions n).trans (h.conditions n)⟩

/-- What a change to other parts ends at. -/
theorem State.Ends.of_outside (k : Outside ps s u)
    (hp : .levers ∉ ps ∧ .set ∉ ps ∧ .configuration ∉ ps ∧ .tracks ∉ ps ∧ .sections ∉ ps ∧ .holds ∉ ps ∧ .mode ∉ ps) :
    s.Ends u := by
  obtain ⟨hl, hset, hc, ht, hsec, hh, hm⟩ := hp
  have hlever := State.lever_of_outside k hl
  exact ⟨k .levers hl, k .set hset, k.conf_eq hc, fun n => State.keepFail_congr k ⟨ht, hsec, hc, hset, hh, hm⟩
    (by rw [hlever]) (fun m _ => by rw [State.standing, hlever]; rfl) fun m _ => State.names_congr fun _ => hlever m⟩

theorem State.Examining.ends (h : s.Examining v moved) (k : v.Ends w) : s.Examining w moved := by
  obtain ⟨z, hz, he⟩ := h
  exact ⟨z, hz, he.trans k⟩

/-- What an event that examines leaves. -/
theorem State.Examining.concludes (h : s.Examining w moved) (hp : s.PlainLocking) (he : s.Examined) (hu : w.LocksSafe) :
    w.Examined ∧ s.SettlesRaised w moved := by
  obtain ⟨z, hz, hends⟩ := h
  exact ⟨hz.examined hp hends, hz.settlesRaised hp he hends hu⟩

/-- An event that leaves the levers and the set, and makes no hold, up to its examination. -/
theorem State.Prepares.frame (hp : s.PlainLocking) (k : Outside ps s z) (hps : .levers ∉ ps ∧ .set ∉ ps ∧ .configuration ∉ ps)
    (hn : s.NoNewHold z) : s.Prepares z moved := by
  obtain ⟨hl, hset, hc⟩ := hps
  have hlever := State.lever_of_outside k hl
  exact
    { conf := k.conf_eq hc
      same := fun n _ _ _ => hlever n
      granted := fun n hnum hf => by
        rw [hlever] at hf ⊢
        rw [State.grantNow_congr k ⟨hc, hset⟩ (hlever n)]
        exact hp.granted n hnum hf
      set := fun _ _ _ => k .set hset
      freed := fun m _ _ => .inl (hlever m)
      holds := fun h hh => .inl (hn (List.mem_map_of_mem hh)) }

theorem State.Examining.frame (hp : s.PlainLocking) (k : Outside ps s z) (hps : .levers ∉ ps ∧ .set ∉ ps ∧ .configuration ∉ ps)
    (hn : s.NoNewHold z) : s.Examining z.settle moved := ⟨z, .frame hp k hps hn, .refl _⟩

/-- Where an examination has nothing to do, none is made. -/
theorem State.settle_ends (hf : w.failing = []) (hg : w.grantable = []) : w.settle.Ends w := by
  have hlast := State.removalsLast_outside w
  have hsettle := State.settle_of_idle hf hg
  rw [hsettle]
  have hlever := State.lever_of_outside hlast (by decide)
  exact ⟨(hlast .levers (by decide)).symm, (hlast .set (by decide)).symm, (hlast.conf_eq (by decide)).symm, fun n =>
    (State.keepFail_of_outside (hlast.mono (by simp)) n).symm⟩

/-- An event that leaves every condition needs no examination. -/
theorem State.Examining.quiet (hp : s.PlainLocking) (he : s.Examined) (k : Outside ps s w)
    (hps : .levers ∉ ps ∧ .set ∉ ps ∧ .configuration ∉ ps ∧ .holds ∉ ps) (hc : ∀ n, w.keepFail n = s.keepFail n) :
    s.Examining w moved := by
  obtain ⟨hl, hset, hconf, hh⟩ := hps
  obtain ⟨hf, hg⟩ := State.examined_iff.1 he
  have hlever := State.lever_of_outside k hl
  refine ⟨w, .frame hp k ⟨hl, hset, hconf⟩ ((State.NoNewHold.refl s).outside k hh), State.settle_ends ?_ ?_⟩
  · rw [← hf]
    simp only [State.failing, hlever, hc]
  · rw [← hg]
    simp only [State.grantable, State.grantFail, hlever, hc]

/-- An event that reaches none of the parts that the conditions read. -/
theorem State.Examining.idle (hp : s.PlainLocking) (he : s.Examined) (k : Outside ps s w)
    (hps : .levers ∉ ps ∧ .set ∉ ps ∧ .configuration ∉ ps ∧ .tracks ∉ ps ∧ .sections ∉ ps ∧ .holds ∉ ps ∧ .mode ∉ ps) :
    s.Examining w moved :=
  .quiet hp he k ⟨hps.1, hps.2.1, hps.2.2.1, hps.2.2.2.2.2.1⟩ (State.Ends.of_outside k hps).conditions

theorem State.Examining.refl (hp : s.PlainLocking) (he : s.Examined) : s.Examining s moved := .idle hp he (.refl [] s) (by decide)

/-- A change to a track that leaves it effectively clear or not, and to a section that leaves its release. -/
theorem State.keepFail_of_terms (k : Outside ps s w)
    (hps : .levers ∉ ps ∧ .set ∉ ps ∧ .configuration ∉ ps ∧ .holds ∉ ps ∧ .mode ∉ ps) (hclear : ∀ t, w.clear t = s.clear t)
    (hrelease : ∀ x, (w.sec x).off.release = (s.sec x).off.release) (n : Nat) : w.keepFail n = s.keepFail n := by
  obtain ⟨hl, hset, hc, hh, hm⟩ := hps
  have hlever := State.lever_of_outside k hl
  have hstanding (m : Nat) : w.standing m = s.standing m := by rw [State.standing, hlever]; rfl
  have hterm (t : Term) : w.termOk t = s.termOk t := by
    cases t <;> simp [State.termOk, hstanding, hclear, hrelease]
  have hentry : w.entryFail n = s.entryFail n := by
    unfold State.entryFail
    rw [k.conf_eq hc, show w.set = s.set from k .set hset, hlever]
    have hfirst (e : Entry) : w.firstFailing e = s.firstFailing e := State.firstFailing_congr fun t _ => hterm t
    simp only [hfirst]
  simp only [State.keepFail, k.mode_eq hm, hentry, State.holdNaming_congr k ⟨hh, hc⟩,
    State.holder_congr fun m _ => State.names_congr fun _ => hlever m]

/-! ### The events of a track (R4 to R6, R12) -/

/-- A track that is effectively clear or not as it was. -/
theorem State.clear_putTrack {a : Nat} {c : Track} (h : c.effectivelyClear = (s.track a).effectivelyClear) (b : Nat) :
    (s.putTrack a c).clear b = s.clear b := by
  rw [State.clear, State.clear, State.track_putTrack]
  split
  · next e => rw [h, e.1]
  · rfl

/-- The filter and the marks of a track change and leave it effectively clear or not. -/
theorem State.Examining.track {a : Nat} {c : Track} (hp : s.PlainLocking) (he : s.Examined)
    (hc : c.effectivelyClear = (s.track a).effectivelyClear) (k : Outside ps (s.putTrack a c) w)
    (hps : .levers ∉ ps ∧ .set ∉ ps ∧ .configuration ∉ ps ∧ .holds ∉ ps ∧ .mode ∉ ps ∧ .tracks ∉ ps ∧ .sections ∉ ps) :
    s.Examining w moved := by
  obtain ⟨hl, hset, hconf, hh, hm, ht, hsec⟩ := hps
  have hput : Outside [.tracks] s (s.putTrack a c) := by simp
  have hall : Outside (.tracks :: ps) s w := (hput.mono (by simp)).trans (k.mono (List.subset_cons_self ..))
  have not_mem {p : Part} (h : p ∉ ps) (hne : p ≠ .tracks) : p ∉ .tracks :: ps := by simp [h, hne]
  have hclear (b : Nat) : w.clear b = s.clear b := by
    rw [← State.clear_putTrack hc b, State.clear, State.track, k.tracks_eq ht]
    rfl
  refine .quiet hp he hall ⟨not_mem hl nofun, not_mem hset nofun, not_mem hconf nofun, not_mem hh nofun⟩
    (State.keepFail_of_terms hall ⟨not_mem hl nofun, not_mem hset nofun, not_mem hconf nofun, not_mem hh nofun, not_mem hm nofun⟩
      hclear fun x => ?_)
  rw [State.sec, show w.sections = s.sections from hall .sections (not_mem hsec nofun)]
  rfl

theorem State.flicker_examining (a : Nat) (hp : s.PlainLocking) (he : s.Examined) (hf : (s.track a).filter = .picking) :
    s.Examining (s.flicker a) moved := by
  have hclear (c : Track) (hc : c.filter = .occupied) : c.effectivelyClear = (s.track a).effectivelyClear := by
    simp [Track.effectivelyClear, hf, hc]
  unfold State.flicker; dsimp only
  split
  · exact .track hp he (hclear _ rfl) (.refl [] _) (by decide)
  · exact .track hp he (hclear _ rfl) (State.emit_outside _ _ _ _) (by decide)
  · split
    · split
      · exact .track (ps := [.counters, .emitted, .alerts, .sounder]) hp he (hclear _ rfl) (w := State.raise _ _ _)
          (by simp; exact .refl _ _) (by decide)
      · exact .track hp he (hclear _ rfl) (.refl [] _) (by decide)
    · exact .track hp he (hclear _ rfl) (.refl [] _) (by decide)

theorem State.occupationStarts_examining (a : Nat) (hp : s.PlainLocking) (he : s.Examined) :
    s.Examining (s.occupationStarts a) moved := by
  cases hm : (s.track a).marked with
  | true =>
    rw [State.occupationStarts_marked hm]
    exact .track hp he (by simp [Track.effectivelyClear, hm]) (State.attributeRunning_outside a _) (by decide)
  | false =>
    rw [State.occupationStarts_unmarked hm]
    generalize hv : (s.setOccupied a).emit .trackOccupied a [] = v
    have hbefore : Outside [.tracks, .emitted] s v := by
      rw [← hv]
      simp [State.setOccupied]
    have hocc := v.becomesOccupied_outside a
    have hatt := State.attributeRunning_outside a (v.becomesOccupied a)
    have hholds : s.NoNewHold (v.becomesOccupied a) := ((State.NoNewHold.refl s).outside hbefore (by decide)).becomesOccupied a
    exact .frame (ps := [.tracks, .holds, .sections, .register, .alerts, .sounder, .emitted]) hp
      ((hbefore.mono (by simp)).trans ((hocc.mono (by simp)).trans (hatt.mono (by simp)))) (by decide)
      (hholds.outside hatt (by decide))

theorem State.relayDrops_examining (a : Nat) (hp : s.PlainLocking) (he : s.Examined) :
    s.Examining (s.relayDrops a) moved := by
  unfold State.relayDrops
  split
  · split
    · exact State.occupationStarts_examining a hp he
    · next hf => exact State.flicker_examining a hp he hf
    · exact .refl hp he
  · exact .refl hp he

/-- A track that clears, with its examination. -/
theorem State.becomesClear_examining {a : Nat} (hp : s.PlainLocking) (k : Outside [.tracks, .emitted] s v) :
    s.Examining (v.becomesClear a).settle moved := by
  have hclears := v.becomesClear_outside a
  exact .frame (ps := [.tracks, .holds, .sections, .register, .emitted]) hp ((k.mono (by simp)).trans (hclears.mono (by simp)))
    (by decide) (((State.NoNewHold.refl s).outside k (by decide)).becomesClear a)

theorem Track.effectivelyClear_marked {c : Track} (h : c.marked = true) : c.effectivelyClear = false := by
  simp [Track.effectivelyClear, h]

theorem State.pickUpExpires_examining (a : Nat) (hp : s.PlainLocking) (he : s.Examined) :
    s.Examining (s.pickUpExpires a) moved := by
  unfold State.pickUpExpires; dsimp only
  split
  · split
    · next hm =>
      exact .track (a := a) (c := { s.track a with filter := .clear, timer := none, flickers := 0 }) hp he
        (.trans (Track.effectivelyClear_marked (c := { s.track a with filter := .clear, timer := none, flickers := 0 }) hm)
          (Track.effectivelyClear_marked hm).symm) (.refl [] _) (by decide)
    · exact State.becomesClear_examining hp (by simp)
  · exact .refl hp he

theorem State.trackRestore_examining (a : Nat) (hp : s.PlainLocking) (he : s.Examined) :
    s.Examining (s.trackRestore a).2.2 moved := by
  unfold State.trackRestore; dsimp only
  split
  · next hf =>
    dsimp only
    split
    · exact State.becomesClear_examining hp (by simp)
    · next hm => exact .track hp he (by simp_all [Track.effectivelyClear, Track.marked]) (State.emit_outside _ _ _ _) (by decide)
  · exact .refl hp he

theorem State.graceExpires_examining (r : Nat) (hp : s.PlainLocking) (he : s.Examined) :
    s.Examining (s.graceExpires r) moved := by
  cases hh : (s.record r).head with
  | none =>
    have hnothing : s.graceExpires r = s := by simp [State.graceExpires, hh]
    rw [hnothing]
    exact .refl hp he
  | some h =>
    by_cases hd : due (s.record r).grace s.now = true
    · obtain ⟨e, hg, hle⟩ : ∃ e, (s.record r).grace = some e ∧ e ≤ s.now := by
        cases hg : (s.record r).grace <;> simp_all [due]
      rw [State.graceExpires_lost hh hg hle]
      exact .frame hp (s.recordLost_outside r h) (by decide) ((State.NoNewHold.refl s).recordLost r h)
    · have hnothing : s.graceExpires r = s := by simp [State.graceExpires, hh, hd]
      rw [hnothing]
      exact .refl hp he

/-! ### Events of sections and holds (R62, R63, R64, R73) -/

theorem State.stabilityExpires_examining (x : Nat) (hp : s.PlainLocking) (he : s.Examined) :
    s.Examining (s.stabilityExpires x) moved := by
  unfold State.stabilityExpires; dsimp only
  split
  · have hput : Outside [.sections] s (s.putOff x { (s.sec x).off with timer := none }) := by simp
    split
    · refine .frame (ps := [.sections, .register, .emitted]) hp ?_ (by decide) ((State.NoNewHold.refl s).outside (ps := [.sections, .register, .emitted]) ?_ (by decide))
      all_goals exact (hput.mono (by simp)).trans (State.repeaterTransition_outside _ _ _)
    · refine .quiet hp he hput (by decide) (State.keepFail_of_terms hput (by decide) (fun _ => rfl) fun y => ?_)
      rw [State.sec_putOff]
      split
      · next e => rw [e.1]
      · rfl
  · exact .refl hp he

theorem State.readyLapses_examining (k : Nat) (hp : s.PlainLocking) (he : s.Examined) :
    s.Examining (s.readyLapses k) moved := by
  unfold State.readyLapses
  split
  · exact .refl hp he
  · next h _ =>
    split
    · generalize hv : ((s.putHold h.backToPrior).raise .releaseLapsed k).emit .holdLapsed k [] = v
      have hbefore : Outside [.holds, .alerts, .sounder, .emitted] s v := by subst hv; simp
      have hholds : s.NoNewHold v := by
        subst hv
        exact ((State.NoNewHold.refl s).putHold h.backToPrior).outside (ps := [.alerts, .sounder, .emitted]) (by simp) (by decide)
      exact .frame (ps := [.holds, .alerts, .sounder, .emitted]) hp
        (hbefore.trans ((State.testRelease_outside k v).mono (by simp))) (by decide) (hholds.testRelease k)
    · exact .refl hp he

theorem State.timeReleaseConfirm_examining (k : Nat) (hp : s.PlainLocking) (he : s.Examined) :
    s.Examining (s.timeReleaseConfirm k).2.2 moved := by
  unfold State.timeReleaseConfirm
  repeat' split
  case _ => exact .refl hp he
  case _ => exact .refl hp he
  · have hcount : Outside [.counters] (s.removeHold k .timeRelease) ((s.removeHold k .timeRelease).count (.release k)) := by simp
    exact .frame (ps := [.holds, .counters, .emitted]) hp (by simp) (by decide)
      (((State.NoNewHold.refl s).removeHold k _).outside hcount (by decide))
  · exact .refl hp he

theorem State.timeReleaseCancel_examining (k : Nat) (hp : s.PlainLocking) (he : s.Examined) :
    s.Examining (s.timeReleaseCancel k).2.2 moved := by
  unfold State.timeReleaseCancel
  repeat' split
  case _ => exact .refl hp he
  case _ => exact .refl hp he
  · exact .frame (ps := [.holds, .emitted]) hp (by simp) (by decide)
      (((State.NoNewHold.refl s).cancelTimeRelease _ _).testRelease k)
  · exact .refl hp he

end Sys2Proof.Machine

namespace Sys2Proof.Machine

variable {ps : List Part} {s t u v w z : State} {n k : Nat} {moved : Nat → Prop}

/-! ### Events of one lever (R24 to R26, R34 to R36, R38) -/

/-- A lever that stands as it stood and names what it named is neither released nor ready for it: no condition of another
changes. -/
theorem State.Examining.lever (hp : s.PlainLocking) (he : s.Examined) (k : Outside [.levers, .emitted] s w)
    (hother : ∀ m, m ≠ n → w.lever m = s.lever m) (hstand : w.standing n = s.standing n)
    (hnames : ∀ m, w.names n m = s.names n m) (hfree : (w.lever n).phase.isFree = false)
    (hcatch : (w.lever n).phase.isCatch = true → w.grantFail n ≠ none) : s.Examining w (· = n) := by
  obtain ⟨hf, hg⟩ := State.examined_iff.1 he
  have hkeep (m : Nat) (hm : m ≠ n) : w.keepFail m = s.keepFail m := by
    refine State.keepFail_congr k (by decide) (by rw [hother m hm]) (fun q _ => ?_) fun q _ => ?_
    · by_cases e : q = n
      · rw [e, hstand]
      · rw [State.standing, hother q e]; rfl
    · by_cases e : q = n
      · rw [e, hnames]
      · exact State.names_congr fun _ => hother q e
  refine ⟨w, ?_, State.settle_ends (State.failing_eq_nil.2 fun m hm hmf => ?_) (State.grantable_eq_nil.2 fun m hm hmc => ?_)⟩
  · exact
      { conf := k.conf_eq (by decide)
        same := fun m _ hm _ => hother m hm
        granted := fun m hm hmf => by
          have hne : m ≠ n := by rintro rfl; simp [hfree] at hmf
          rw [hother m hne] at hmf ⊢
          rw [State.grantNow_congr k (by decide) (hother m hne)]
          exact hp.granted m hm hmf
        set := fun _ _ _ => k .set (by decide)
        freed := fun m _ hmf => .inl (hother m (by rintro rfl; simp [hfree] at hmf))
        holds := fun h hh => .inl (List.mem_map_of_mem ((show w.holds = s.holds from k .holds (by decide)) ▸ hh)) }
  · have hne : m ≠ n := by rintro rfl; simp [hfree] at hmf
    rw [hkeep m hne]
    exact State.failing_eq_nil.1 hf m hm (by rwa [← hother m hne])
  · by_cases e : m = n
    · subst e; exact hcatch hmc
    · rw [State.grantFail, hkeep m e, hother m e]
      exact State.grantable_eq_nil.1 hg m hm (by rwa [← hother m e])

/-- An event up to its examination that has brought one lever where no examination reaches it. -/
theorem State.Prepares.move (hp : s.PlainLocking) (k : Outside ps s z) (hps : .set ∉ ps ∧ .configuration ∉ ps)
    (hrest : (z.lever n).phase.movable = false)
    (hother : ∀ m, m ≠ n → z.lever m = s.lever m ∨
      (s.lever m).phase = .travel ∧ z.lever m = { s.lever m with solenoid := false })
    (hholds : ∀ h ∈ z.holds, h.signal ∈ s.holds.map (·.signal) ∨ h.signal = n) : s.Prepares z (· = n) := by
  have hnot {m : Nat} (hm : (z.lever m).phase.movable = true) : m ≠ n := by rintro rfl; simp [hrest] at hm
  have hsame {m : Nat} (hm : (z.lever m).phase.movable = true) : z.lever m = s.lever m := by
    refine (hother m (hnot hm)).resolve_right fun h => ?_
    rw [h.2, h.1] at hm
    cases hm
  have hfree {m : Nat} (hm : (z.lever m).phase.isFree = true) : (z.lever m).phase.movable = true := by simp [LeverPhase.movable, hm]
  exact
    { conf := k.conf_eq hps.2
      same := fun m _ hne hmov => (hother m hne).resolve_right fun h => by simp [h.1, LeverPhase.movable, LeverPhase.isCatch, LeverPhase.isFree] at hmov
      granted := fun m hm hmf => by
        have hs := hsame (hfree hmf)
        rw [hs] at hmf ⊢
        rw [State.grantNow_congr k hps.symm hs]
        exact hp.granted m hm hmf
      set := fun _ _ _ => k .set hps.1
      freed := fun m _ hmf => .inl (hsame (hfree hmf))
      holds := fun h hh => (hholds h hh).imp_right fun e => by rw [e]; exact hrest }

/-- The signals of the holds after a lever's change of standing: its own may be new. -/
theorem State.present_holds (n : Nat) (old : Standing) (b : Bool) (s : State) {h : Hold} (hh : h ∈ (s.present n old b).holds) :
    h.signal ∈ s.holds.map (·.signal) ∨ h.signal = n := by
  have keeps {v : State} (hv : s.NoNewHold v) (hh : h ∈ v.holds) : h.signal ∈ s.holds.map (·.signal) ∨ h.signal = n :=
    .inl (hv (List.mem_map_of_mem hh))
  unfold State.present at hh; dsimp only at hh
  split at hh
  · exact .inl (List.mem_map_of_mem hh)
  · split at hh
    · exact keeps ((State.NoNewHold.refl s).signalStandsNormal n) hh
    · split at hh
      · rw [show ((s.signalArrivesReverse n).consumeRelease n).holds = (s.signalArrivesReverse n).holds from
          State.consumeRelease_outside n _ .holds (by decide)] at hh
        unfold State.signalArrivesReverse at hh
        split at hh
        · exact .inl (List.mem_map_of_mem hh)
        · split at hh
          · exact .inl (List.mem_map_of_mem hh)
          · split at hh
            · rw [State.createHold_holds, mem_insertHold] at hh
              rcases hh with rfl | hh
              · exact .inr rfl
              · exact .inl (List.mem_map_of_mem hh)
            · next j _ =>
              dsimp only at hh
              refine keeps (.emit _ _ _ (.putHold _ ?_)) hh
              split
              · exact (State.NoNewHold.refl s).cancelTimeRelease j _
              · exact .refl s
      · exact keeps ((State.NoNewHold.refl s).signalStandsReverse n) hh
    · exact .inl (List.mem_map_of_mem hh)

/-- A lever moved where no examination reaches it, with the examination that ends the event. -/
theorem State.Examining.moveLever {l : Lever} {e : NoticeEvent} {x : List Byte} {b : Bool} (hn : isLever n = true)
    (hp : s.PlainLocking) (k : Outside [.levers, .emitted] s t) (hother : ∀ m, m ≠ n → t.lever m = s.lever m)
    (hl : l.phase.movable = false ∧ l.phase ≠ .travel) : s.Examining (t.moveLever n l e x b).settle (· = n) := by
  obtain ⟨hown, hothers⟩ := t.moveLever_levers e x b hn hl.2
  have hmoves := t.moveLever_outside n l e x b
  have hholds : t.holds = s.holds := k .holds (by decide)
  refine ⟨_, .move (ps := [.levers, .holds, .sections, .emitted]) hp ((k.mono (by simp)).trans hmoves) (by decide)
    (by rw [hown]; exact hl.1) (fun m hm => ?_) (fun h hh => ?_), .refl _⟩
  · have := hothers m hm
    rwa [hother m hm] at this
  · rw [← hholds]
    exact State.present_holds n (t.standing n) b ((t.putLever n l).emit e n x) hh

theorem LeverInputs.seatedAt_rest {i : LeverInputs} {p : LeverPhase} (h : i.seatedAt = some p) : p.movable = false ∧ p ≠ .travel := by
  rcases i with ⟨_ | _, _ | _, _ | _⟩ <;> cases h <;> decide

/-- The end of travel is tried at a lever in TRAVEL or in FAULT whose fresh-lift flag alone may have changed. -/
theorem State.tryEnd_examining {f : Bool} (hn : isLever n = true) (hp : s.PlainLocking) (he : s.Examined)
    (hphase : (s.lever n).phase = .travel ∨ (s.lever n).phase = .fault) (k : Outside [.levers, .emitted] s t)
    (hself : t.lever n = { s.lever n with fresh := f }) (hother : ∀ m, m ≠ n → t.lever m = s.lever m) :
    s.Examining (t.tryEnd n) (· = n) := by
  have hmov : (s.lever n).phase.movable = false := by rcases hphase with h | h <;> rw [h] <;> rfl
  have hquiet : s.Examining t (· = n) := by
    refine .lever hp he k hother (by rw [State.standing, hself]; rfl) (fun m => ?_) ?_ ?_
    · rw [State.names, State.names, hself]
    · rw [hself]; exact (LeverPhase.movable_eq_false.1 hmov).2
    · rw [hself]
      exact fun h => absurd h (by simp [(LeverPhase.movable_eq_false.1 hmov).1])
  unfold State.tryEnd; dsimp only
  split
  · exact hquiet
  · next p hseat =>
    split
    · exact .moveLever hn hp k hother (LeverInputs.seatedAt_rest hseat)
    · exact .moveLever hn hp k hother (LeverInputs.seatedAt_rest hseat)
    · exact hquiet

/-- A lever neither in TRAVEL nor in FAULT has no travel to end. -/
theorem State.tryEnd_resting (h : ¬ ((s.lever n).phase = .travel ∨ (s.lever n).phase = .fault)) : s.tryEnd n = s := by
  unfold State.tryEnd; dsimp only
  split
  · rfl
  · split
    · next e => exact absurd (.inl e) h
    · next e => exact absurd (.inr e) h
    · rfl

theorem LeverPhase.rest_of_seated {p : LeverPhase} (h : p = .normal ∨ p = .reverse) : p.isFree = false ∧ p.isCatch = false ∧
    p.caught.isFree = false ∧ p.caught.standing = p.standing ∧ p.movable = false ∧ p ≠ .travel ∧ p.caught ≠ .travel := by
  rcases h with rfl | rfl <;> decide

theorem State.catchLowers_examining (hn : isLever n = true) (hp : s.PlainLocking) (he : s.Examined) (hm : s.control.mode ≠ .start) :
    s.Examining (s.catchLowers n) (· = n) := by
  have hlever (l : Lever) (m : Nat) := State.lever_putLever_of (s := s) (l := l) hn m
  have quiet {p : LeverPhase} (hstand : p.standing = (s.lever n).phase.standing) (hpm : p.movable = false) (hpt : p ≠ .travel)
      (hs : (s.lever n).phase.isFree = false ∧ (s.lever n).phase ≠ .travel) :
      s.Examining (s.putLever n { s.lever n with phase := p, fresh := true }) (· = n) := by
    obtain ⟨hpc, hpf⟩ := LeverPhase.movable_eq_false.1 hpm
    refine .lever hp he (by simp) (fun m hm => (hlever _ m).trans (if_neg hm)) ?_ (fun m => ?_) ?_ ?_
    · rw [State.standing, hlever, if_pos rfl]; exact hstand
    · rw [State.names, State.names, hlever, if_pos rfl]
      simp [hpf, hpt, hs]
    · rw [hlever, if_pos rfl]; exact hpf
    · rw [hlever, if_pos rfl]
      exact fun h => absurd h (by simp [hpc])
  by_cases hcatch : (s.lever n).phase.isCatch = true
  · rw [State.catchLowers_seats hm hcatch]
    refine quiet ?_ ?_ ?_ ?_ <;> revert hcatch <;> cases (s.lever n).phase <;> decide
  · by_cases hfree : (s.lever n).phase.isFree = true
    · rw [State.catchLowers_givesUp hm hfree]
      obtain ⟨-, -, htravel⟩ := LeverPhase.seated_of_movable (p := (s.lever n).phase) (by simp [LeverPhase.movable, hfree])
      exact .moveLever hn hp (.refl _ _) (fun _ _ => rfl) ⟨LeverPhase.seated_facts hfree, htravel⟩
    · unfold State.catchLowers; dsimp only
      rw [if_neg hm]
      split
      case h_1 e | h_2 e => simp [e, LeverPhase.isCatch] at hcatch
      case h_3 e | h_4 e => simp [e, LeverPhase.isFree] at hfree
      case h_5 e => exact State.tryEnd_examining hn hp he (.inl e) (by simp) ((hlever _ n).trans (if_pos rfl)) fun m hm => (hlever _ m).trans (if_neg hm)
      case h_6 e => exact State.tryEnd_examining hn hp he (.inr e) (by simp) ((hlever _ n).trans (if_pos rfl)) fun m hm => (hlever _ m).trans (if_neg hm)
      case h_7 e | h_8 e =>
        obtain ⟨hf, -, -, -, hmov, htr, -⟩ := LeverPhase.rest_of_seated (p := (s.lever n).phase) (by simp [e])
        exact quiet rfl hmov htr ⟨hf, htr⟩

theorem State.detectorMakes_examining (hn : isLever n = true) (hp : s.PlainLocking) (he : s.Examined) (hm : s.control.mode ≠ .start) :
    s.Examining (s.detectorMakes n) (· = n) := by
  unfold State.detectorMakes; dsimp only
  rw [if_neg hm]
  split
  · split
    · exact .refl hp he
    · exact .moveLever hn hp (.refl _ _) (fun _ _ => rfl) ⟨rfl, nofun⟩
  · by_cases h : (s.lever n).phase = .travel ∨ (s.lever n).phase = .fault
    · exact State.tryEnd_examining hn hp he h (.refl _ _) rfl fun _ _ => rfl
    · rw [State.tryEnd_resting h]
      exact .refl hp he

theorem State.detectorOpens_examining (hn : isLever n = true) (hp : s.PlainLocking) (he : s.Examined) (hm : s.control.mode ≠ .start) :
    s.Examining (s.detectorOpens n) (· = n) := by
  by_cases hmoving : (s.lever n).phase = .travel ∨ (s.lever n).phase = .fault
  · rw [State.detectorOpens_moving hm hmoving]
    exact State.tryEnd_examining hn hp he hmoving (.refl _ _) rfl fun _ _ => rfl
  · by_cases hfree : (s.lever n).phase.isFree = true
    · rw [State.detectorOpens_leaves hm hn hfree]
      have hlever (m : Nat) : ((s.putLever n ((s.lever n).leaving s.now)).emit .leverLeft n []).lever m = _ :=
        State.lever_putLever_of hn m
      refine .lever hp he (by simp) (fun m hm => (hlever m).trans (if_neg hm)) ?_ (fun m => ?_) ?_ ?_
      · rw [State.standing, hlever, if_pos rfl, State.standing_free hfree]; rfl
      · rw [State.names, State.names, hlever, if_pos rfl]
        simp [Lever.leaving, hfree]
      · rw [hlever, if_pos rfl]; rfl
      · rw [hlever, if_pos rfl]
        exact nofun
    · have hphase : (s.lever n).phase = .normal ∨ (s.lever n).phase = .normalCatch ∨ (s.lever n).phase = .reverse ∨
          (s.lever n).phase = .reverseCatch := by
        revert hmoving hfree; cases (s.lever n).phase <;> decide
      rw [State.detectorOpens_forces hm hphase]
      have hframe : Outside [.levers, .counters, .alerts, .sounder, .emitted] s (s.forcedMovement n) := by simp [State.forcedMovement]
      have hlever (m : Nat) : (s.forcedMovement n).lever m = if m = n then (s.lever n).toFault else s.lever m := by
        have hrest : Outside [.counters, .alerts, .sounder, .emitted] (s.putLever n (s.lever n).toFault) (s.forcedMovement n) := by
          simp [State.forcedMovement]
        rw [State.lever_of_outside hrest (by decide)]
        exact State.lever_putLever_of hn m
      refine ⟨_, .move hp hframe (by decide) (by rw [hlever, if_pos rfl]; rfl) (fun m hm => .inl ((hlever m).trans (if_neg hm)))
        (fun h hh => .inl (List.mem_map_of_mem ((show (s.forcedMovement n).holds = s.holds from hframe .holds (by decide)) ▸ hh))), .refl _⟩

/-- A release granted at the lift of its catch goes past those granted before (R27, R28). -/
theorem State.Prepares.lift {dir : Direction} (hn : isLever n = true) (hp : s.PlainLocking) (hseated : (s.lever n).phase.seatedFor dir)
    (hg : s.grantFail n = none) : s.Prepares ((s.putLever n (s.lever n).lifted).grantLever n) (· = n) := by
  obtain ⟨-, -, -, hcaught, -, -⟩ := LeverPhase.seatedFor_facts hseated
  have hnum : n ∈ Tab.numbers 24 := Tab.mem_numbers.2 (isLever_range hn)
  have hgrant := State.grantFail_lifted hn hseated
  have hlift : Outside [.levers] s (s.putLever n (s.lever n).lifted) := by simp
  have hw (m : Nat) := State.lever_putLever_of (s := s) (l := (s.lever n).lifted) hn m
  generalize s.putLever n (s.lever n).lifted = w at *
  have hself : w.lever n = (s.lever n).lifted := (hw n).trans (if_pos rfl)
  have hother (m : Nat) (hm : m ≠ n) : w.lever m = s.lever m := (hw m).trans (if_neg hm)
  have hmem : n ∈ w.grantable := State.grantable_iff.2 ⟨hnum, by rw [hself]; exact hcaught, hgrant.trans hg⟩
  have hentries : w.PlainEntries := hp.entries.outside hlift (by decide)
  have hgranted : w.GrantedAs Eq := fun m hm hf => by
    have hne : m ≠ n := by
      rintro rfl
      rw [hself] at hf
      exact absurd hf (by simp [LeverPhase.isFree_of_isCatch (p := (s.lever m).lifted.phase) hcaught])
    rw [hother m hne] at hf ⊢
    rw [State.grantNow_congr hlift (by decide) (hother m hne)]
    exact hp.granted m hm hf
  have hlever := State.grantLever_lever hmem
  have hframe := State.grantLever_outside_levers hmem
  have hall : Outside [.levers, .emitted] s (w.grantLever n) := (hlift.mono (by simp)).trans hframe
  exact
    { conf := hall.conf_eq (by decide)
      same := fun m _ hm _ => ((hlever m).trans (if_neg hm)).trans (hother m hm)
      granted := (examinationKeeps_grantedAs (R := Eq) fun _ => rfl).grant w n hnum (by rw [hself]; exact hcaught) (hgrant.trans hg) hgranted
      set := fun _ _ _ => hall .set (by decide)
      freed := fun m hm _ => by
        by_cases e : m = n
        · subst e
          refine .inr fun q hq hne hf => ?_
          have hqf : (w.lever q).phase.isFree = true := by rwa [hother q hne]
          obtain ⟨hown, hnamed⟩ := State.grantable_apart hentries hgranted.named hmem hq hqf
          have hdir : ((w.grantLever m).lever m).phase.direction = (w.lever m).phase.direction := by
            rw [hlever, if_pos rfl]; exact LeverPhase.direction_freed _
          refine ⟨?_, ?_⟩
          · rw [State.entryNow, hlift.conf_eq (by decide), show w.set = s.set from hlift .set (by decide), hother q hne] at hown
            exact hown
          · rw [State.entryNow, hdir, hframe.conf_eq (by decide), show (w.grantLever m).set = w.set from hframe .set (by decide)]
            exact hnamed
        · exact .inl (((hlever m).trans (if_neg e)).trans (hother m e))
      holds := fun h hh => .inl (List.mem_map_of_mem ((show (w.grantLever n).holds = s.holds from hall .holds (by decide)) ▸ hh)) }

theorem State.catchLifts_examining (hn : isLever n = true) (hp : s.PlainLocking) (he : s.Examined) (hm : s.control.mode ≠ .start) :
    s.Examining (s.catchLifts n) (· = n) := by
  by_cases hseated : (s.lever n).phase = .normal ∨ (s.lever n).phase = .reverse
  · obtain ⟨dir, hdir⟩ : ∃ dir, (s.lever n).phase.seatedFor dir := by
      rcases hseated with h | h
      · exact ⟨.toReverse, .inl ⟨h, rfl⟩⟩
      · exact ⟨.toNormal, .inr ⟨h, rfl⟩⟩
    obtain ⟨hfree, -, hcfree, hstand, -, htr, hctr⟩ := LeverPhase.rest_of_seated hseated
    rw [State.catchLifts_seated hm hdir]
    split
    · next hg =>
      rw [State.grantFail_lifted hn hdir] at hg
      exact ⟨_, .lift hn hp hdir hg, .refl _⟩
    · next f hg =>
      have hlever (m : Nat) : ((s.putLever n (s.lever n).lifted).emit .leverHeld n f.bytes).lever m = _ :=
        State.lever_putLever_of hn m
      refine .lever hp he (by simp) (fun m hm => (hlever m).trans (if_neg hm)) ?_ (fun m => ?_) ?_ fun _ => ?_
      · rw [State.standing, hlever, if_pos rfl]; exact hstand
      · rw [State.names, State.names, hlever, if_pos rfl]
        simp [Lever.lifted, hfree, hcfree, htr, hctr]
      · rw [hlever, if_pos rfl]; exact hcfree
      · rw [State.grantFail_of_outside ((State.emit_outside _ _ _ _).mono (by simp)), hg]
        simp
  · have hnothing : s.catchLifts n = s := by
      unfold State.catchLifts; dsimp only
      rw [if_neg hm, if_neg hseated]
    rw [hnothing]
    exact .refl hp he

end Sys2Proof.Machine

namespace Sys2Proof.Machine

variable {ps : List Part} {s t u v w z : State} {n k : Nat} {moved : Nat → Prop}

/-! ### Requests that examine (R62, R64, R165, R171, R197, R199) -/

theorem State.not_free_of_misplaced (h : s.misplaced = none) : ∀ n ∈ Tab.numbers 24, (s.lever n).phase.isFree = false := by
  intro n hn
  have hplace : s.inPlace n = true := by simpa using List.find?_eq_none.1 h n hn
  by_contra hf
  have hstand := State.standing_free (s := s) (n := n) (by simpa using hf)
  unfold State.inPlace at hplace
  rw [hstand] at hplace
  cases hp : s.conf.switchOut.place n <;> simp [hp] at hplace

theorem State.misplaced_of_switchOut (h : s.switchOutFail = none) : s.misplaced = none := by
  by_contra hne
  obtain ⟨m, hm⟩ := Option.ne_none_iff_exists'.1 hne
  unfold State.switchOutFail at h
  simp only [hm] at h
  repeat' split at h
  all_goals cases h

theorem State.misplaced_of_switchIn (h : s.switchInFail = none) : s.misplaced = none := by
  by_contra hne
  obtain ⟨m, hm⟩ := Option.ne_none_iff_exists'.1 hne
  unfold State.switchInFail at h
  simp only [hm] at h
  repeat' split at h
  all_goals cases h

/-- A change of the set in force, with no lever released (R42, R165, R171). -/
theorem State.Examining.switched (hf : s.misplaced = none) (k : Outside [.box, .set, .sections, .bells, .emitted] s z) :
    s.Examining z.settle moved := by
  have hfree := State.not_free_of_misplaced hf
  have hlever := State.lever_of_outside k (by decide)
  exact ⟨z,
    { conf := k.conf_eq (by decide)
      same := fun n _ _ _ => hlever n
      granted := fun n hn h => by rw [hlever, hfree n hn] at h; cases h
      set := fun n hn h => by rw [hfree n hn] at h; cases h
      freed := fun m _ _ => .inl (hlever m)
      holds := fun h hh => .inl (List.mem_map_of_mem ((show z.holds = s.holds from k .holds (by decide)) ▸ hh)) }, .refl _⟩

theorem State.switchOut_examining (hp : s.PlainLocking) (he : s.Examined) : s.Examining s.switchOut.2.2 moved := by
  unfold State.switchOut
  split
  · exact .refl hp he
  · split
    · exact .refl hp he
    · next h => exact .switched (State.misplaced_of_switchOut h) s.doSwitchOut_outside

theorem State.switchIn_examining (hp : s.PlainLocking) (he : s.Examined) : s.Examining s.switchIn.2.2 moved := by
  unfold State.switchIn
  split
  · exact .refl hp he
  · split
    · exact .refl hp he
    · next h => exact .switched (State.misplaced_of_switchIn h) s.doSwitchIn_outside

/-- HOLD: what follows the examination of the levers changes no condition, for the mode fails them all (R43, R67). -/
theorem State.holdPart_examining (hp : s.PlainLocking) (he : s.Examined) : s.Examining s.holdPart.2.2 moved := by
  by_cases hm : s.control.mode = .running
  · rw [State.holdPart_running hm]
    have hbegun := s.heldBegun_outside
    have hlever {n : Nat} (h : (s.heldBegun.lever n).phase ≠ .travel ∨ (s.lever n).phase ≠ .travel) :
        s.heldBegun.lever n = s.lever n := by
      have hl := s.heldBegun_lever n
      split at hl
      · next ht => simp [hl, Lever.unlocked, ht] at h
      · exact hl
    have hconf : s.heldBegun.conf = s.conf := rfl
    have hset : s.heldBegun.set = s.set := rfl
    have hholds : s.heldBegun.holds = s.holds := rfl
    have hmode : s.heldBegun.control.mode = .held .hold := rfl
    generalize s.heldBegun = z at *
    have hfree {n : Nat} (h : (z.lever n).phase.isFree = true) : z.lever n = s.lever n :=
      hlever (.inl fun e => by rw [e] at h; cases h)
    have hlast := z.settle.holdsOnHold_outside
    have hkeep {v : State} (hv : v.control.mode = .held .hold) (n : Nat) : v.keepFail n = some .mode := if_pos (by rw [hv]; decide)
    have hsettled : z.settle.control.mode = .held .hold := (z.settle_outside.mode_eq (by decide)).trans hmode
    refine ⟨z,
      { conf := hconf
        same := fun n _ _ h => hlever (.inr fun e => by rw [e] at h; cases h)
        granted := fun n hn h => ?_
        set := fun _ _ _ => hset
        freed := fun m _ h => .inl (hfree h)
        holds := fun h hh => .inl (List.mem_map_of_mem (hholds ▸ hh)) }, ?_⟩
    · have hl := hfree h
      rw [hl] at h ⊢
      rw [State.grantNow, hl, hconf, hset]
      exact hp.granted n hn h
    · exact ⟨hlast .levers (by decide), hlast .set (by decide), hlast.conf_eq (by decide), fun n => by
        rw [hkeep ((hlast.mode_eq (by decide)).trans hsettled), hkeep hsettled]⟩
  · rw [State.holdPart_refused hm]
    exact .refl hp he

theorem State.resumePart_examining (hp : s.PlainLocking) (he : s.Examined) : s.Examining s.resumePart.2.2 moved := by
  unfold State.resumePart
  split
  · split
    · exact .refl hp he
    · split
      · exact .refl hp he
      · unfold State.resumePasses; dsimp only
        split
        · exact .idle hp he (s.following_outside .storeWrite) (by decide)
        · have hbegun : Outside [.mode, .emitted] s s.resumedBegun := by simp [State.resumedBegun]
          exact .frame hp hbegun (by decide) ((State.NoNewHold.refl s).outside hbegun (by decide))
  · exact .refl hp he

/-- A request that a part takes at once, whether its owner grants it or not (R185, R190). -/
theorem State.request_examining {tm : Time} {tag : Byte} {r : Request} (hs : s.ready) (hp : (s.advance tm).PlainLocking)
    (he : (s.advance tm).Examined) (ho : (s.advance tm).Examining ((s.advance tm).own r).2.2 moved) :
    (s.advance tm).Examining (s.request tm tag r) moved := by
  have hserve : (s.advance tm).Examining ((s.advance tm).serve r).2.2 moved := by
    unfold State.serve
    split
    · exact .refl hp he
    · exact ho
  rw [State.request_ready tm tag r hs]
  refine hserve.ends (.of_outside (ps := [.slot, .emitted, .outbox, .transmitter]) ?_ (by decide))
  exact ((State.replied_outside _ _).mono (by simp)).trans ((State.close_outside _).mono (by simp))

/-! ### Every event of R29 -/

/-- What an event of R29 has to show for the levers raised before it. -/
def State.Examines (s : State) (tm : Time) (c : Instr) : Prop :=
  ∃ w, exec c s = .next w ∧ ∃ b, Outside [.now, .inputs] s b ∧ b.Examining w fun n => MovesLever tm n c

theorem State.Examining.mono {moved' : Nat → Prop} (h : s.Examining w moved) (hm : ∀ n, moved n → moved' n) :
    s.Examining w moved' := by
  obtain ⟨z, ⟨hconf, hsame, hgranted, hset, hfreed, hholds⟩, he⟩ := h
  exact ⟨z, ⟨hconf, fun n hn hno => hsame n hn fun h => hno (hm n h), hgranted, hset, hfreed, hholds⟩, he⟩

theorem State.Examining.close (h : s.Examining w moved) : s.Examining w.close moved :=
  h.ends (.of_outside w.close_outside (by decide))

/-- Time and the terminals say nothing of the locking. -/
theorem State.PlainLocking.outside (h : s.PlainLocking) (k : Outside [.now, .inputs] s u) : u.PlainLocking := fun n hn => by
  have hlever := State.lever_of_outside k (by decide) n
  rw [k.conf_eq (by decide), hlever, State.grantNow_congr k (by decide) hlever]
  exact h n hn

theorem State.keepFail_of_inputs (k : Outside [.now, .inputs] s u) (n : Nat) : u.keepFail n = s.keepFail n :=
  (State.Ends.of_outside k (by decide)).conditions n

theorem State.Examined.outside (h : s.Examined) (k : Outside [.now, .inputs] s u) : u.Examined := by
  rw [State.examined_iff] at h ⊢
  have hlever := State.lever_of_outside k (by decide)
  have hkeep := State.keepFail_of_inputs k
  rw [State.failing, State.grantable] at h ⊢
  simpa only [State.grantFail, hlever, hkeep] using h

/-- An event of a timer. -/
theorem State.Examines.timer {c : Instr} {tm : Time} {f : State → State} (hc : exec c s = .next (s.event tm f))
    (hs : s.started) (hp : s.PlainLocking) (he : s.Examined)
    (hf : ∀ v : State, v.PlainLocking → v.Examined → v.Examining (f v) fun n => MovesLever tm n c) : s.Examines tm c := by
  have hnow : Outside [.now, .inputs] s (s.advance tm) := (s.advance_outside tm).mono (by simp)
  exact ⟨_, exec_event hc hs.1.1 rfl, _, hnow, (hf _ (hp.outside hnow) (he.outside hnow)).close⟩

/-- A change at the terminals. -/
theorem State.Examines.terminal {c : Instr} {tm : Time} {i : Inputs → Inputs} {f : State → State}
    (hc : exec c s = .next (s.terminal tm i f)) (hs : s.started) (hp : s.PlainLocking) (he : s.Examined)
    (hf : i s.inputs ≠ s.inputs → ∀ v : State, v.PlainLocking → v.Examined → v.control.mode ≠ .start →
      v.Examining (f v) fun n => MovesLever tm n c) : s.Examines tm c := by
  by_cases hi : i s.inputs = s.inputs
  · have hnow : Outside [.now, .inputs] s (s.advance tm) := (s.advance_outside tm).mono (by simp)
    have hterm : s.terminal tm i f = s.advance tm := if_pos hi
    exact ⟨_, hterm ▸ hc, _, hnow, .refl (hp.outside hnow) (he.outside hnow)⟩
  · have hin : Outside [.now, .inputs] s ((s.advance tm).putInputs (i s.inputs)) := by simp
    rw [State.terminal_powered tm _ _ hs.1.1 hi] at hc
    exact ⟨_, hc, _, hin, (hf hi _ (hp.outside hin) (he.outside hin) hs.2).close⟩

/-- A request. -/
theorem State.Examines.request {c : Instr} {tm : Time} {tag : Byte} {r : Request} (hc : exec c s = .next (s.request tm tag r))
    (hs : s.ready) (hp : s.PlainLocking) (he : s.Examined)
    (hf : ∀ v : State, v.PlainLocking → v.Examined → v.Examining (v.own r).2.2 fun n => MovesLever tm n c) : s.Examines tm c := by
  have hnow : Outside [.now, .inputs] s (s.advance tm) := (s.advance_outside tm).mono (by simp)
  have hp' := hp.outside hnow
  have he' := he.outside hnow
  exact ⟨_, hc, _, hnow, State.request_examining hs hp' he' (hf _ hp' he')⟩

/-- A lever number out of range changes no terminal. -/
theorem Inputs.isLever_of_setLever {f : LeverInputs → LeverInputs} {i : Inputs} (h : Inputs.setLever n f i ≠ i) :
    isLever n = true := by
  by_contra hn
  refine h ?_
  have hrange : ¬ (1 ≤ n ∧ n ≤ 24) := by simpa [isLever] using hn
  rw [Inputs.setLever, Tab.put_out _ _ hrange]

theorem State.examines (tm : Time) (c : Instr) (hs : s.started) (hp : s.PlainLocking) (he : s.Examined)
    (hc : s.examiningEvent tm c) : s.Examines tm c := by
  rcases hc with ⟨n, hc⟩ | ⟨hr, tag, hc⟩
  · have own {v w : State} (h : v.Examining w (· = n)) (hm : MovesLever tm n c) : v.Examining w fun m => MovesLever tm m c :=
      h.mono fun m e => e ▸ hm
    rcases hc with rfl | rfl | rfl | rfl | rfl | rfl | rfl | ⟨side, rfl | rfl⟩
    · exact .terminal rfl hs hp he fun _ v hv hx _ => State.relayDrops_examining n hv hx
    · exact .timer rfl hs hp he fun v hv hx => State.pickUpExpires_examining n hv hx
    · exact .timer rfl hs hp he fun v hv hx => State.graceExpires_examining n hv hx
    · exact .timer rfl hs hp he fun v hv hx => State.stabilityExpires_examining n hv hx
    · exact .timer rfl hs hp he fun v hv hx => State.readyLapses_examining n hv hx
    · exact .terminal rfl hs hp he fun hi v hv hx hm =>
        own (State.catchLifts_examining (Inputs.isLever_of_setLever hi) hv hx hm) (.inl rfl)
    · exact .terminal rfl hs hp he fun hi v hv hx hm =>
        own (State.catchLowers_examining (Inputs.isLever_of_setLever hi) hv hx hm) (.inr (.inl rfl))
    · exact .terminal rfl hs hp he fun hi v hv hx hm =>
        own (State.detectorMakes_examining (Inputs.isLever_of_setLever hi) hv hx hm) (.inr (.inr ⟨side, .inl rfl⟩))
    · exact .terminal rfl hs hp he fun hi v hv hx hm =>
        own (State.detectorOpens_examining (Inputs.isLever_of_setLever hi) hv hx hm) (.inr (.inr ⟨side, .inr rfl⟩))
  · rcases hc with rfl | rfl | rfl | rfl | ⟨b, rfl | rfl | rfl⟩
    · exact .request (r := .switchOut) rfl hr hp he fun v hv hx => State.switchOut_examining hv hx
    · exact .request (r := .switchIn) rfl hr hp he fun v hv hx => State.switchIn_examining hv hx
    · exact .request (r := .hold) rfl hr hp he fun v hv hx => State.holdPart_examining hv hx
    · exact .request (r := .resume) rfl hr hp he fun v hv hx => State.resumePart_examining hv hx
    · exact .request (r := .trackRestore b) rfl hr hp he fun v hv hx => State.trackRestore_examining b.toNat hv hx
    · exact .request (r := .timeReleaseConfirm b) rfl hr hp he fun v hv hx => State.timeReleaseConfirm_examining b.toNat hv hx
    · exact .request (r := .timeReleaseCancel b) rfl hr hp he fun v hv hx => State.timeReleaseCancel_examining b.toNat hv hx

/-- Every command keeps the locks safe. -/
theorem State.LocksSafe.exec {c : Instr} (h : s.LocksSafe) (hu : exec c s = .next u) : u.LocksSafe := by
  obtain ⟨w, hw, hq⟩ := keepsLocks.exec c s.pending (State.locksSafe_iff.1 h)
  obtain rfl : w = u := Host.Outcome.next.inj (hw.symm.trans hu)
  exact State.locksSafe_iff.2 hq

/-- What an event of R29 leaves of the levers raised before it (R27, R29, R32). -/
theorem State.examines_settles {tm : Time} {c : Instr} (hs : s.started) (hl : s.LocksSafe) (hp : s.PlainLocking)
    (he : s.Examined) (hc : s.examiningEvent tm c) :
    ∃ u, exec c s = .next u ∧ u.Examined ∧ s.SettlesRaised u fun n => MovesLever tm n c := by
  obtain ⟨w, hw, b, hb, hex⟩ := State.examines tm c hs hp he hc
  obtain ⟨hexamined, hraised⟩ := hex.concludes (hp.outside hb) (he.outside hb) (hl.exec hw)
  refine ⟨w, hw, hexamined, fun n hn hm hup => ?_⟩
  have hlever := State.lever_of_outside hb (by decide) n
  have := hraised n hn hm (by rwa [hlever])
  rwa [hlever, hb.conf_eq (by decide)] at this

end Sys2Proof.Machine

namespace Sys2Proof.Machine

variable {ps : List Part} {s t u v w z : State} {n k : Nat}

/-! ### How many notices an occupation sends (R4, R82, R149) -/

/-- From `s` to `u` at most `k` notices are drafted. -/
def State.AtMost (k : Nat) (s u : State) : Prop := u.emitted.length ≤ s.emitted.length + k

theorem State.AtMost.refl (s : State) : State.AtMost 0 s s := Nat.le_refl _

theorem State.AtMost.trans {a b : Nat} (h : State.AtMost a s t) (k : State.AtMost b t u) : State.AtMost (a + b) s u := by
  unfold State.AtMost at *; omega

theorem State.AtMost.weaken {a b : Nat} (h : State.AtMost a s u) (hab : a ≤ b) : State.AtMost b s u := by
  unfold State.AtMost at *; omega

theorem State.AtMost.outside {a : Nat} (h : State.AtMost a s t) (k : Outside ps t u) (hp : .emitted ∉ ps) : State.AtMost a s u := by
  unfold State.AtMost
  rw [show u.emitted = t.emitted from k .emitted hp]
  exact h

theorem State.AtMost.emit {a : Nat} (h : State.AtMost a s t) (e : NoticeEvent) (o : Nat) (x : List Byte) :
    State.AtMost (a + 1) s (t.emit e o x) := by
  unfold State.AtMost at *
  simp only [State.emit, List.length_append, List.length_singleton]
  omega

theorem State.AtMost.raise {a : Nat} (h : State.AtMost a s t) (k : AlertKind) (o : Nat) : State.AtMost (a + 2) s (t.raise k o) := by
  have hdrafts := congrArg List.length (t.raise_makes k o).drafts
  have htwo := raiseOf_notices (t.newAlert k o (k.priority t.control.box)) t.panel.alerts
  simp only [State.drafts, List.length_append, List.length_map] at hdrafts
  unfold State.AtMost at *
  omega

theorem State.AtMost.foldl {α : Type} {f : State → α → State} {b : Nat} (hf : ∀ v a, State.AtMost b v (f v a)) (l : List α)
    (s : State) : State.AtMost (l.length * b) s (l.foldl f s) := by
  induction l generalizing s with
  | nil => exact (State.AtMost.refl s).weaken (Nat.zero_le _)
  | cons a l ih => exact ((hf s a).trans (ih _)).weaken (by rw [List.length_cons, Nat.add_mul]; omega)

/-- An accepting section whose clearing point is fouled (R82). -/
def Accepting.fouled (a : Accepting) : Accepting := { a.enterTol true with disagreement := true }

theorem State.foul_eq (x : Nat) (s : State) : s.foul x = (((s.putAcc x (s.sec x).acc.fouled).emit .secStateChanged x
    (b1 SecCause.clearingFouled.ord)).emit .secClearingFouled x []).raise .clearingFouled x := rfl

theorem State.clearingOccupied_atMost (v : State) (x : Nat) : State.AtMost 4 v (v.clearingOccupied x) := by
  unfold State.clearingOccupied; dsimp only
  split
  · exact ((State.AtMost.refl v).outside (ps := [.sections]) (by simp) (by decide)).weaken (by omega)
  · have hput : State.AtMost 0 v (v.putAcc x (v.sec x).acc.fouled) :=
      (State.AtMost.refl v).outside (ps := [.sections]) (by simp) (by decide)
    rw [State.foul_eq]
    exact ((hput.emit _ _ _).emit _ _ _).raise _ _
  · exact (State.AtMost.refl v).weaken (by omega)

theorem State.attributeRunning_atMost (v : State) (a : Nat) : State.AtMost 3 v (v.attributeRunning a) := by
  have put {u : State} (h : Outside [.register] v u) : State.AtMost 0 v u := (State.AtMost.refl v).outside h (by decide)
  unfold State.attributeRunning
  split
  · unfold State.attributed State.attributeTo; dsimp only
    repeat' split
    · exact ((put (by simp)).emit _ _ _).weaken (by omega)
    · exact ((put (by simp)).emit _ _ _).weaken (by omega)
    · exact ((put (by simp)).emit _ _ _).weaken (by omega)
    · exact ((State.AtMost.refl v).emit _ _ _).raise _ _
  · exact (State.AtMost.refl v).weaken (by omega)

theorem State.becomesOccupied_atMost (v : State) (a : Nat) (h : v.holds = []) : State.AtMost 24 v (v.becomesOccupied a) := by
  have hholds : v.holdsTrackOccupied a = v := by rw [State.holdsTrackOccupied, h]; rfl
  have hsections : (v.clearingSections a).length ≤ 6 := (List.length_filter_le _ _).trans (by simp [Tab.numbers])
  rw [State.becomesOccupied, hholds]
  exact (State.AtMost.foldl State.clearingOccupied_atMost _ v).weaken (by omega)

/-! ### A track that drops under a released lever (R27, R32) -/

/-- The clearing point is the accepting side's: an occupation leaves every line clear release. -/
theorem State.becomesOccupied_off (v : State) (a x : Nat) : ((v.becomesOccupied a).sec x).off = (v.sec x).off := by
  have hput (w : State) (y : Nat) (c : Accepting) : ((w.putAcc y c).sec x).off = (w.sec x).off := by
    rw [State.sec_putAcc]
    split
    · next e => rw [e.1]
    · rfl
  have hone (w : State) (y : Nat) : ((w.clearingOccupied y).sec x).off = (w.sec x).off := by
    have frame {p q : State} (k : Outside [.alerts, .sounder, .emitted] p q) : (q.sec x).off = (p.sec x).off := by
      rw [State.sec, show q.sections = p.sections from k .sections (by decide)]; rfl
    unfold State.clearingOccupied; dsimp only
    split
    · exact hput _ _ _
    · have hfoul : Outside [.alerts, .sounder, .emitted] (w.putAcc y (w.sec y).acc.fouled) (w.foul y) := by
        rw [State.foul_eq]
        generalize w.putAcc y (w.sec y).acc.fouled = q
        simp
      exact (frame hfoul).trans (hput w y _)
    · rfl
  have hall (l : List Nat) (w : State) : ((l.foldl State.clearingOccupied w).sec x).off = (w.sec x).off := by
    induction l generalizing w with
    | nil => rfl
    | cons y l ih => exact (ih _).trans (hone w y)
  have hholds : (v.holdsTrackOccupied a).sections = v.sections := State.holdsTrackOccupied_outside a v .sections (by decide)
  rw [State.becomesOccupied, State.sectionsTrackOccupied, hall, State.sec, hholds]
  rfl

/-- The examination of one failing release with no hold of its own and no other lever up: it is withdrawn, and no more (R32). -/
theorem State.settle_withdraws {f : GrantFail} (hn : isLever n = true) (hf : (s.lever n).phase.isFree = true) (ho : s.othersSeated n)
    (hk : s.keepFail n = some f) (hh : s.hold? n = none)
    (hstill : ((s.putLever n (s.lever n).withdrawn).emit .leverWithdrawn n f.bytes).keepFail n ≠ none) :
    s.settle = ((s.putLever n (s.lever n).withdrawn).emit .leverWithdrawn n f.bytes).removalsLast := by
  have hmem : n ∈ Tab.numbers 24 := Tab.mem_numbers.2 (isLever_range hn)
  have hfailing : s.failing = [(n, f)] := by
    refine filterMap_alone (Tab.nodup_numbers 24) hmem (by rw [if_pos hf, hk]; rfl) fun m hmm hne => ?_
    rw [if_neg (by simp [(ho m hmm hne).2])]
  have hpass : s.withdrawPass = (s.putLever n (s.lever n).withdrawn).emit .leverWithdrawn n f.bytes := by
    rw [State.withdrawPass, hfailing]
    exact State.moveLever_unheld _ _ _ hh
  have hlever (m : Nat) : ((s.putLever n (s.lever n).withdrawn).emit .leverWithdrawn n f.bytes).lever m = _ :=
    State.lever_putLever_of hn m
  have hgrantable : ((s.putLever n (s.lever n).withdrawn).emit .leverWithdrawn n f.bytes).grantable = [] := by
    refine State.grantable_eq_nil.2 fun m hm hc hgrant => ?_
    by_cases e : m = n
    · subst e
      exact hstill (State.grantFail_eq_none.1 hgrant).1
    · rw [hlever, if_neg e, (ho m hm e).1] at hc
      cases hc
  unfold State.settle State.settleLevers
  dsimp only
  rw [hpass, hgrantable]

/-- An occupation of an unmarked track as the units take it, before the examination (R4, R14). -/
def State.occupying (a : Nat) (s : State) : State :=
  (((s.setOccupied a).emit .trackOccupied a []).becomesOccupied a).attributeRunning a

theorem State.occupying_outside (a : Nat) (s : State) :
    Outside [.tracks, .holds, .sections, .register, .alerts, .sounder, .emitted] s (s.occupying a) := by
  have hset : Outside [.tracks, .emitted] s ((s.setOccupied a).emit .trackOccupied a []) := by simp [State.setOccupied]
  exact (hset.mono (by simp)).trans (((State.becomesOccupied_outside a _).mono (by simp)).trans
    ((State.attributeRunning_outside a _).mono (by simp)))

theorem State.occupying_track (a b : Nat) (s : State) :
    (s.occupying a).track b = (s.setOccupied a).track b := by
  have hrest : Outside [.holds, .sections, .alerts, .sounder, .register, .emitted] (s.setOccupied a) (s.occupying a) :=
    ((State.emit_outside .trackOccupied a [] _).mono (by simp)).trans (((State.becomesOccupied_outside a _).mono (by simp)).trans
      ((State.attributeRunning_outside a _).mono (by simp)))
  rw [State.track, hrest.tracks_eq (by decide)]
  rfl

theorem State.occupying_clear {a : Nat} (ha : isTrack a = true) (b : Nat) (s : State) :
    (s.occupying a).clear b = (decide (b ≠ a) && s.clear b) := by
  have hrange : 1 ≤ a ∧ a ≤ 16 := by simpa [isTrack] using ha
  rw [State.clear, State.occupying_track, State.setOccupied, State.track_putTrack]
  by_cases e : b = a
  · rw [if_pos ⟨e, hrange⟩]
    simp [Track.effectivelyClear, e]
  · rw [if_neg fun h => e h.1]
    simp [e, State.clear]

theorem State.occupying_holds (a : Nat) (h : s.holds = []) : (s.occupying a).holds = [] := by
  have hnone : s.NoNewHold (s.occupying a) := by
    have hset : s.NoNewHold ((s.setOccupied a).emit .trackOccupied a []) :=
      (State.NoNewHold.refl s).outside (ps := [.tracks, .emitted]) (by simp [State.setOccupied]) (by decide)
    exact (hset.becomesOccupied a).outside (State.attributeRunning_outside a _) (by decide)
  refine List.eq_nil_iff_forall_not_mem.2 fun x hx => ?_
  have := hnone (List.mem_map_of_mem hx)
  simp [h] at this

theorem State.occupying_release (a x : Nat) (s : State) : ((s.occupying a).sec x).off = (s.sec x).off := by
  have frame {p q : State} (h : q.sections = p.sections) : (q.sec x).off = (p.sec x).off := by
    rw [State.sec, h]; rfl
  have hatt := State.attributeRunning_outside a (((s.setOccupied a).emit .trackOccupied a []).becomesOccupied a)
  exact (frame (hatt .sections (by decide))).trans ((State.becomesOccupied_off _ a x).trans rfl)

theorem State.occupying_atMost (a : Nat) (h : s.holds = []) : State.AtMost 28 s (s.occupying a) := by
  have hset : State.AtMost 1 s ((s.setOccupied a).emit .trackOccupied a []) :=
    ((State.AtMost.refl s).outside (ps := [.tracks]) (by simp [State.setOccupied]) (by decide)).emit _ _ _
  exact (hset.trans (State.becomesOccupied_atMost _ a h)).trans (State.attributeRunning_atMost _ a)

/-- The first term of an entry that is `t`. -/
theorem exists_first {α : Type} {l : List α} {a : α} (h : a ∈ l) : ∃ i, l[i]? = some a ∧ a ∉ l.take i := by
  obtain ⟨front, back, rfl, hnot⟩ := List.eq_append_cons_of_mem h
  exact ⟨front.length, by simp, by simpa using hnot⟩

/-- A released lever whose entry asks for a track fails at that term when the track is occupied (R30, R32). -/
theorem State.occupying_fails {a i : Nat} (ha : isTrack a = true) (hk : s.keepFail n = none)
    (hi : (s.entryNow n)[i]? = some (.tc a)) (hfirst : Term.tc a ∉ (s.entryNow n).take i) :
    (s.occupying a).keepFail n = some (.entry (i + 1) (some (.tc a))) := by
  obtain ⟨hmode, hentry, -, -⟩ := State.keepFail_eq_none.1 hk
  have hframe := State.occupying_outside a s
  have hlever := State.lever_of_outside hframe (by decide)
  have hterms := (State.entryFail_eq_none.1 hentry).1
  have hfails : (s.occupying a).firstFailing (s.entryNow n) = some (i + 1, .tc a) := by
    refine State.firstFailing_eq_some.2 ⟨i, rfl, hi, by simp [State.termOk, State.occupying_clear ha], fun t ht => ?_⟩
    have hok := hterms t (List.mem_of_mem_take ht)
    have hstand (m : Nat) : (s.occupying a).standing m = s.standing m := by rw [State.standing, hlever]; rfl
    cases t with
    | tc b =>
      have hne : b ≠ a := by rintro rfl; exact hfirst ht
      simpa [State.termOk, State.occupying_clear ha, hne] using hok
    | lcr x => simpa [State.termOk, State.occupying_release] using hok
    | ln m | lr m | lnc m j => simpa [State.termOk, hstand] using hok
  rw [State.entryNow] at hfails
  rw [State.keepFail, hframe.mode_eq (by decide), State.entryFail, hlever, hframe.conf_eq (by decide),
    show (s.occupying a).set = s.set from hframe .set (by decide), hfails]
  simp [hmode]

theorem State.removalsLast_length (s : State) : s.removalsLast.emitted.length = s.emitted.length := by
  have hparts := List.length_eq_length_filter_add (l := s.emitted) fun d => decide (d.event ≠ .holdRemoved)
  simp only [State.removalsLast, List.length_append]
  rw [hparts]
  simp

/-- An occupation under a released lever that asks for the track withdraws it, and no more. -/
theorem State.occupying_settle {a i : Nat} (ha : isTrack a = true) (hn : isLever n = true) (hf : (s.lever n).phase.isFree = true)
    (ho : s.othersSeated n) (hk : s.keepFail n = none) (hh : s.holds = []) (hi : (s.entryNow n)[i]? = some (.tc a))
    (hfirst : Term.tc a ∉ (s.entryNow n).take i) :
    (s.occupying a).settle = (((s.occupying a).putLever n (s.lever n).withdrawn).emit .leverWithdrawn n
      (GrantFail.entry (i + 1) (some (.tc a))).bytes).removalsLast := by
  have hframe := State.occupying_outside a s
  have hlever := State.lever_of_outside hframe (by decide)
  have hfails := State.occupying_fails ha hk hi hfirst
  have hclear : (s.occupying a).clear a = false := by simp [State.occupying_clear ha]
  have hnone : (s.occupying a).hold? n = none := by rw [State.hold?, State.occupying_holds a hh]; rfl
  have hdir : (s.lever n).withdrawn.phase.direction = (s.lever n).phase.direction := LeverPhase.direction_caught _
  rw [State.settle_withdraws hn (by rwa [hlever]) (fun m hm hne => by rw [State.unraised, hlever]; exact ho m hm hne) hfails hnone,
    hlever]
  rw [hlever]
  generalize s.occupying a = z at *
  intro hkeep
  have hput : Outside [.levers, .emitted] z ((z.putLever n (s.lever n).withdrawn).emit .leverWithdrawn n
      (GrantFail.entry (i + 1) (some (.tc a))).bytes) := by simp
  have hself : ((z.putLever n (s.lever n).withdrawn).emit .leverWithdrawn n
      (GrantFail.entry (i + 1) (some (.tc a))).bytes).lever n = (s.lever n).withdrawn :=
    (State.lever_putLever_of hn n).trans (if_pos rfl)
  have hterms := (State.entryFail_eq_none.1 (State.keepFail_eq_none.1 hkeep).2.1).1 (.tc a) (by
    rw [State.entryNow, hself, hdir, hput.conf_eq (by decide), hframe.conf_eq (by decide)]
    rw [State.entryNow, ← show z.set = s.set from hframe .set (by decide)] at hi
    exact List.mem_of_getElem? hi)
  rw [State.termOk_congr hput (by decide) (by simp [Term.levers])] at hterms
  simp [State.termOk, hclear] at hterms

/-- A notice that an event sends, with room for all that it drafts, is in the outbox (R191). -/
theorem State.close_outbox_mem {d : Draft} (hm : s.control.mode ≠ .start) (hroom : s.link.outbox.length + s.emitted.length ≤ 32)
    (hd : d ∈ s.emitted) (hs : s.sends d.event.kind = true) : s.noticeOf d ∈ s.close.link.outbox := by
  rw [State.close_outbox hm hroom]
  exact List.mem_append_right _ (List.mem_map_of_mem (List.mem_filter.2 ⟨hd, hs⟩))

/-- A track that drops under a released lever whose entry asks for it: the notice *withdrawn* carries condition 2 with that
term (R30, R32). -/
theorem trackDrop_withdraws {tm : Time} {a : Nat} (hs : s.working) (ha : isTrack a = true) (hfit : s.conf.fitted a = true)
    (hpick : s.relayPicked a = true) (hclear : s.clear a = true) (hn : isLever n = true) (hf : (s.lever n).phase.isFree = true)
    (ho : s.othersSeated n) (he : s.Examined) (hterm : Term.tc a ∈ s.conf.entry n s.set (s.lever n).phase.direction)
    (hh : s.holds = []) :
    ∃ u, exec (.trackRelayDrop tm a) s = .next u ∧
      u.lever n = { s.lever n with phase := (s.lever n).phase.caught, solenoid := false, grant := none } ∧
      (s.sends .lever = true → s.link.outbox.length + 29 ≤ 32 →
        ∃ k ∈ u.link.outbox, k.event = .leverWithdrawn ∧ k.object = n ∧ ∃ front i,
          (s.conf.entry n s.set (s.lever n).phase.direction)[i]? = some (.tc a) ∧
          Term.tc a ∉ (s.conf.entry n s.set (s.lever n).phase.direction).take i ∧
          k.fields = front ++ (b1 2 ++ b1 (i + 1) ++ b1 1 ++ bTerm (.tc a))) := by
  obtain ⟨hpowered, hemitted, hmode⟩ := State.started_of_working hs
  obtain ⟨i, hi, hfirst⟩ := exists_first hterm
  have hin := s.withRelay_outside tm a false
  have hlever := State.lever_of_outside hin (by decide)
  have hkeep : (s.withRelay tm a false).keepFail n = none := by
    rw [State.keepFail_of_inputs hin]
    exact State.failing_eq_nil.1 (State.examined_iff.1 he).1 n (Tab.mem_numbers.2 (isLever_range hn)) hf
  have hfilter : (s.track a).filter = .clear ∧ (s.track a).marked = false := by
    simpa [State.clear, Track.effectivelyClear] using hclear
  have hdrops : (s.withRelay tm a false).relayDrops a = ((s.withRelay tm a false).occupying a).settle := by
    have hfilters : (s.live && s.conf.fitted a) = true := by rw [hs.2, hfit]; rfl
    rw [State.relayDrops_clear (s := s.withRelay tm a false) hfilters hfilter.1]
    exact State.occupationStarts_unmarked (s := s.withRelay tm a false) hfilter.2
  have hexec := exec_trackRelayDrop (tm := tm) hpowered ha hpick
  rw [hdrops, State.occupying_settle ha hn (by rwa [hlever]) (fun m hm hne => by rw [State.unraised, hlever]; exact ho m hm hne)
    hkeep hh hi hfirst, hlever] at hexec
  have hocc := State.occupying_outside a (s.withRelay tm a false)
  have hmost := State.occupying_atMost (s := s.withRelay tm a false) a hh
  have hnone : (s.withRelay tm a false).emitted = [] := hemitted
  have hall : Outside [.now, .inputs, .tracks, .holds, .sections, .register, .alerts, .sounder, .emitted] s
      ((s.withRelay tm a false).occupying a) := (hin.mono (by simp)).trans (hocc.mono (by simp))
  rw [State.AtMost, hnone] at hmost
  generalize (s.withRelay tm a false).occupying a = z at *
  generalize hd : (⟨.leverWithdrawn, n, (GrantFail.entry (i + 1) (some (.tc a))).bytes⟩ : Draft) = d
  generalize hw : (z.putLever n (s.lever n).withdrawn).emit .leverWithdrawn n _ = w at hexec
  have hput : Outside [.levers, .emitted] z w := by subst hw; simp
  have hwe : w.emitted = z.emitted ++ [d] := by rw [← hw, ← hd]; rfl
  have hself : w.lever n = (s.lever n).withdrawn := by
    rw [← hw]
    exact (State.lever_putLever_of hn n).trans (if_pos rfl)
  have hlast := w.removalsLast_outside
  have hto := (hall.mono (ps := .levers :: _) (List.subset_cons_self ..)).trans ((hput.mono (by simp)).trans (hlast.mono (by simp)))
  refine ⟨_, hexec, ?_, fun hsends hroom => ?_⟩
  · rw [State.close_lever, State.lever_of_outside hlast (by decide), hself]
    rfl
  · have hout := (hto .outbox (by decide)).1
    have hlength : w.removalsLast.emitted.length ≤ 29 := by
      rw [List.length_nil] at hmost
      rw [State.removalsLast_length, hwe, List.length_append, List.length_singleton]
      omega
    have hmem := State.close_outbox_mem (d := d) ((hto.mode_eq (by decide)).symm ▸ hmode) (by rw [hout]; omega)
      ((State.mem_removalsLast d).2 (by simp [hwe])) (by rw [hto.sends_eq (by decide) (by decide), ← hd]; exact hsends)
    refine ⟨_, hmem, by rw [State.noticeOf_event, ← hd], by rw [State.noticeOf_object, ← hd],
      b1 (w.removalsLast.close.lever n).phase.ord ++ (w.removalsLast.close.leverInputs n).bytes, i, hi, hfirst, ?_⟩
    rw [State.noticeOf_lever (by rw [← hd]; rfl), ← hd]
    simp only [GrantFail.bytes, bOpt, List.append_assoc]

/-- Settles O34: the examination that ends an event. -/
theorem examinationSettlesRaisedCatches : Obligations.ExaminationSettlesRaisedCatches := by
  refine ⟨fun s => ⟨s.settle_outside, fun n hn => ?_⟩, fun s hentries hgrants => ?_, fun s tm c hs hl hp he hc => ?_,
    fun s tm a n hs ha hfit hpick hclear hn hf ho _ _ he hterm hh => trackDrop_withdraws hs ha hfit hpick hclear hn hf ho he hterm hh⟩
  · obtain ⟨hfixed, hto, -⟩ := s.settle_examinedTo n hn
    exact ⟨fun hc hf => hfixed (LeverPhase.movable_eq_false.2 ⟨hc, hf⟩), fun h => hto (by simpa [LeverPhase.movable] using h)⟩
  · obtain ⟨hf, hg, -⟩ := State.settle_idles (s := s) hentries hgrants
    exact ⟨hf, hg⟩
  · exact State.examines_settles hs hl hp he hc

end Sys2Proof.Machine

namespace Sys2Proof.Machine

variable {ps : List Part} {s t u v : State} {c : Conf} {h : Hold}

/-! ### A well formed hold (R48) -/

/-- What R48 asks of a hold under a configuration: its definition is present, it has a stage for each holding track, and a
timer and a prior state in TIMING and READY alone. -/
structure Hold.Kept (c : Conf) (h : Hold) : Prop where
  defined : (c.holdDef h.signal).isSome = true
  stages : h.stages.length = (((c.holdDef h.signal).map (·.holding)).getD []).length
  timer : h.timer.isSome = h.releasing
  prior : h.prior.isSome = h.releasing

theorem State.holdsKept_iff : s.HoldsKept ↔ (s.holds.map (·.signal)).Pairwise (· < ·) ∧ (∀ h ∈ s.holds, h.Kept s.conf) ∧
    (s.control.mode = .start ∨ s.invalid = true → s.holds = []) := by
  refine and_congr_right fun _ => and_congr_left fun _ => forall₂_congr fun h _ => ?_
  exact ⟨fun ⟨hd, hs, ht, hp⟩ => ⟨hd, hs, ht, hp⟩, fun ⟨hd, hs, ht, hp⟩ => ⟨hd, hs, ht, hp⟩⟩

theorem Hold.Kept.restaged (hk : h.Kept c) {l : List HoldStage} (hl : l.length = h.stages.length) :
    Hold.Kept c { h with stages := l } := ⟨hk.defined, hl.trans hk.stages, hk.timer, hk.prior⟩

theorem Hold.Kept.backToPrior (hk : h.Kept c) : h.backToPrior.Kept c :=
  ⟨hk.defined, hk.stages, h.backToPrior_releasing.symm, h.backToPrior_releasing.symm⟩

theorem Hold.Kept.reversed (hk : h.Kept c) : Hold.Kept c { h with reversal := true } :=
  ⟨hk.defined, hk.stages, hk.timer, hk.prior⟩

/-- A hold that is reactivated (R51). -/
def Hold.reactivated (h : Hold) : Hold := { h with state := .active, prior := none, timer := none, reversal := true }

theorem Hold.Kept.reactivated (hk : h.Kept c) : h.reactivated.Kept c := ⟨hk.defined, hk.stages, rfl, rfl⟩

/-- A hold that is not in TIMING or READY may change its state among those that are not. -/
theorem Hold.Kept.restated (hk : h.Kept c) {st : HoldState} (hr : h.releasing = false)
    (hst : st ≠ .timing ∧ st ≠ .ready) : Hold.Kept c { h with state := st } := by
  have hnew : Hold.releasing { h with state := st } = false := by simp [Hold.releasing, hst]
  exact ⟨hk.defined, hk.stages, (hk.timer.trans hr).trans hnew.symm, (hk.prior.trans hr).trans hnew.symm⟩

/-- An irregularity as R55 words it. -/
theorem Hold.makeIrregular_eq (h : Hold) : h.makeIrregular = h.afterIrregularity := by
  unfold Hold.makeIrregular Hold.afterIrregularity Hold.releasing
  cases hs : h.state <;> simp

theorem Hold.afterIrregularity_releasing (h : Hold) : h.afterIrregularity.releasing = h.releasing := by
  cases hr : h.releasing <;> simp_all [Hold.afterIrregularity, Hold.releasing]

theorem Hold.Kept.afterIrregularity (hk : h.Kept c) : h.afterIrregularity.Kept c := by
  refine ⟨hk.defined, hk.stages, hk.timer.trans h.afterIrregularity_releasing.symm, ?_⟩
  rw [h.afterIrregularity_releasing, ← hk.prior, hk.prior]
  cases hr : h.releasing
  · simpa [Hold.afterIrregularity, hr] using hk.prior.trans hr
  · simp [Hold.afterIrregularity, hr]

/-- What an occupation makes of a hold: a stage in order, an irregularity out of order or after CLEARED, or nothing (R53). -/
theorem Hold.trackOccupied_cases (h : Hold) (i : Nat) :
    h.trackOccupied i = ({ h with stages := h.stages.set i .occupied }, false) ∨
      h.trackOccupied i = (h.afterIrregularity, true) ∨
      h.trackOccupied i = (Hold.afterIrregularity { h with stages := h.stages.set i .occupied }, true) ∨
      h.trackOccupied i = (h, false) := by
  unfold Hold.trackOccupied
  simp only [Hold.makeIrregular_eq]
  split
  · generalize (if i = 0 then h.reversal else (h.stages[i - 1]?).any (· ≠ .waiting)) = inOrder
    cases inOrder
    · exact .inr (.inl rfl)
    · exact .inl rfl
  · exact .inr (.inr (.inl rfl))
  · exact .inr (.inr (.inr rfl))

theorem Hold.Kept.trackOccupied (hk : h.Kept c) (i : Nat) : (h.trackOccupied i).1.Kept c := by
  have hset : Hold.Kept c { h with stages := h.stages.set i .occupied } := hk.restaged (List.length_set ..)
  rcases h.trackOccupied_cases i with e | e | e | e <;> rw [e]
  · exact hset
  · exact hk.afterIrregularity
  · exact hset.afterIrregularity
  · exact hk

theorem Hold.Kept.trackCleared (hk : h.Kept c) (i : Nat) (next : Bool) : (h.trackCleared i next).1.Kept c := by
  have hset (g : HoldStage) : Hold.Kept c { h with stages := h.stages.set i g } := hk.restaged (List.length_set ..)
  unfold Hold.trackCleared
  simp only [Hold.makeIrregular_eq]
  repeat' split
  · exact hset _
  · exact (hset _).afterIrregularity
  · exact hk

theorem createdHold_kept {n : Nat} {d : HoldDef} {st : HoldState} {r : Bool} (hd : c.holdDef n = some d)
    (hst : st ≠ .timing ∧ st ≠ .ready) : (createdHold n d st r).Kept c := by
  have hnew : (createdHold n d st r).releasing = false := by simp [createdHold, Hold.releasing, hst]
  have hdef : c.holdDef (createdHold n d st r).signal = some d := hd
  refine ⟨by rw [hdef]; rfl, ?_, hnew.symm, hnew.symm⟩
  rw [hdef]
  exact List.length_replicate

/-! ### What keeps the list of holds (R48) -/

theorem State.HoldsKept.of_eq (hs : s.HoldsKept) (hh : u.holds = s.holds) (hc : u.conf = s.conf)
    (hm : u.control.mode = s.control.mode) : u.HoldsKept := by
  rw [State.holdsKept_iff, State.invalid] at hs ⊢
  rw [hh, hc, hm]
  exact hs

theorem State.HoldsKept.frame (k : Outside ps s u) (hp : .holds ∉ ps ∧ .mode ∉ ps ∧ .configuration ∉ ps)
    (hs : s.HoldsKept) : u.HoldsKept := hs.of_eq (k .holds hp.1) (k.conf_eq hp.2.2) (k.mode_eq hp.2.1)

theorem State.HoldsKept.foldl {α : Type} {f : State → α → State} (hf : ∀ (v : State) a, v.HoldsKept → (f v a).HoldsKept)
    {l : List α} (hs : s.HoldsKept) : (l.foldl f s).HoldsKept := by
  induction l generalizing s with
  | nil => exact hs
  | cons a l ih => exact ih (hf s a hs)

theorem State.HoldsKept.kept {n : Nat} (hs : s.HoldsKept) (hh : s.hold? n = some h) : h.Kept s.conf :=
  (State.holdsKept_iff.1 hs).2.1 h (List.mem_of_find?_eq_some hh)

/-- A part without holds keeps none. -/
theorem State.holdsKept_of_nil (hn : s.holds = []) : s.HoldsKept :=
  State.holdsKept_iff.2 ⟨by rw [hn]; exact .nil, by rw [hn]; nofun, fun _ => hn⟩

theorem State.HoldsKept.putHold (hs : s.HoldsKept) (hk : h.Kept s.conf) : (s.putHold h).HoldsKept := by
  obtain ⟨horder, hkept, hnone⟩ := State.holdsKept_iff.1 hs
  refine State.holdsKept_iff.2 ⟨?_, fun j hj => ?_, fun hm => ?_⟩
  · rw [State.putHold, State.putHolds_holds, signals_replaceHold]
    exact horder
  · obtain ⟨g, hg, rfl⟩ := List.mem_map.1 (show j ∈ replaceHold h s.holds from hj)
    split
    · exact hk
    · exact hkept g hg
  · show replaceHold h s.holds = []
    rw [hnone hm]; rfl

theorem State.HoldsKept.emit (e : NoticeEvent) (o : Nat) (x : List Byte) (hs : s.HoldsKept) : (s.emit e o x).HoldsKept :=
  hs.frame (State.emit_outside e o x s) (by decide)

theorem State.HoldsKept.removeHold (n : Nat) (k : HoldCause) (hs : s.HoldsKept) : (s.removeHold n k).HoldsKept := by
  obtain ⟨horder, hkept, hnone⟩ := State.holdsKept_iff.1 hs
  have hsub : (s.removeHold n k).holds.Sublist s.holds := List.filter_sublist
  exact State.holdsKept_iff.2 ⟨horder.sublist (hsub.map _), fun j hj => hkept j (hsub.subset hj),
    fun hm => List.sublist_nil.1 (hnone hm ▸ hsub)⟩

/-- A hold entered among those of other signals keeps the order. -/
theorem pairwise_insertHold {l : List Hold} (hl : (l.map (·.signal)).Pairwise (· < ·)) (hn : ∀ k ∈ l, k.signal ≠ h.signal) :
    ((insertHold h l).map (·.signal)).Pairwise (· < ·) := by
  induction l with
  | nil => exact List.pairwise_singleton ..
  | cons k l ih =>
    obtain ⟨hk, hl⟩ := List.pairwise_cons.1 hl
    unfold insertHold; split
    · next hlt =>
      refine List.pairwise_cons.2 ⟨fun m hm => ?_, List.pairwise_cons.2 ⟨hk, hl⟩⟩
      rcases List.mem_cons.1 hm with rfl | hm
      · exact hlt
      · exact hlt.trans (hk m hm)
    · next hge =>
      have hlt : k.signal < h.signal := Nat.lt_of_le_of_ne (Nat.not_lt.1 hge) (hn k (List.mem_cons_self ..))
      refine List.pairwise_cons.2 ⟨fun m hm => ?_, ih hl fun j hj => hn j (List.mem_cons_of_mem _ hj)⟩
      obtain ⟨j, hj, rfl⟩ := List.mem_map.1 hm
      rcases mem_insertHold.1 hj with rfl | hj
      · exact hlt
      · exact hk _ (List.mem_map_of_mem hj)

theorem State.HoldsKept.createHold {n : Nat} {d : HoldDef} {st : HoldState} (r : Bool) (k : HoldCause) (hs : s.HoldsKept)
    (hd : s.conf.holdDef n = some d) (hst : st ≠ .timing ∧ st ≠ .ready) (hm : s.control.mode ≠ .start)
    (hi : s.invalid = false) (hh : s.hold? n = none) : (s.createHold n d st r k).HoldsKept := by
  obtain ⟨horder, hkept, -⟩ := State.holdsKept_iff.1 hs
  have hframe := State.createHold_outside n d st r k s
  rw [State.holdsKept_iff, hframe.conf_eq (by decide), hframe.mode_eq (by decide), hframe.invalid_eq (by decide),
    State.createHold_holds]
  refine ⟨pairwise_insertHold horder fun j hj e => List.find?_eq_none.1 hh j hj (beq_iff_eq.2 e), fun j hj => ?_,
    fun e => by simp [hm, hi] at e⟩
  rcases mem_insertHold.1 hj with rfl | hj
  · exact createdHold_kept hd hst
  · exact hkept j hj

/-! ### The Route Hold Unit keeps its list (R50 to R68) -/

theorem State.HoldsKept.testSequential (n : Nat) (hs : s.HoldsKept) : (s.testSequential n).HoldsKept := by
  unfold State.testSequential
  repeat' split
  case h_2.isTrue => exact hs.removeHold ..
  all_goals exact hs

theorem State.HoldsKept.testApproach (n : Nat) (hs : s.HoldsKept) : (s.testApproach n).HoldsKept := by
  unfold State.testApproach
  repeat' split
  case h_2.isTrue => exact hs.removeHold ..
  all_goals exact hs

theorem State.HoldsKept.testRelease (n : Nat) (hs : s.HoldsKept) : (s.testRelease n).HoldsKept :=
  (hs.testSequential n).testApproach n

theorem State.HoldsKept.cancelTimeRelease (k : HoldCause) (hs : s.HoldsKept) (hk : h.Kept s.conf) :
    (s.cancelTimeRelease h k).HoldsKept := (hs.putHold hk.backToPrior).emit ..

theorem State.HoldsKept.signalStandsReverse (n : Nat) (hs : s.HoldsKept) : (s.signalStandsReverse n).HoldsKept := by
  unfold State.signalStandsReverse
  split
  · exact hs
  · next h hh => exact hs.putHold (hs.kept hh).reversed

theorem State.HoldsKept.signalStandsNormal (n : Nat) (hs : s.HoldsKept) : (s.signalStandsNormal n).HoldsKept := by
  unfold State.signalStandsNormal
  split
  · exact hs
  · next h hh =>
    dsimp only
    split
    · next ha =>
      refine ((hs.putHold ((hs.kept hh).restated (by simp [Hold.releasing, ha]) ?_)).emit ..).testRelease n
      cases h.irregular <;> decide
    · exact hs.testRelease n

/-- An arrival at REVERSE creates a hold past the start interval alone, and under a configuration that is trusted (R50, R68). -/
theorem State.HoldsKept.signalArrivesReverse (n : Nat) (hs : s.HoldsKept) (hm : s.control.mode ≠ .start) :
    (s.signalArrivesReverse n).HoldsKept := by
  unfold State.signalArrivesReverse
  split
  · exact hs
  · next d hd =>
    split
    · exact hs
    · next hi =>
      split
      · next hh => exact hs.createHold _ _ hd (by decide) hm (by simpa using hi) hh
      · next h hh =>
        have hk := hs.kept hh
        dsimp only
        split
        · exact ((hs.cancelTimeRelease _ hk).putHold hk.reactivated).emit ..
        · exact (hs.putHold hk.reactivated).emit ..

theorem State.HoldsKept.stageDone {r : Hold × Bool} (a i : Nat) (hs : s.HoldsKept) (hr : r.1.Kept s.conf) :
    (s.stageDone a i r).HoldsKept := by
  unfold State.stageDone; dsimp only
  split
  · exact (hs.putHold hr).emit ..
  · exact hs.putHold hr

theorem State.HoldsKept.holdTrackOccupied (a n : Nat) (hs : s.HoldsKept) : (s.holdTrackOccupied a n).HoldsKept := by
  unfold State.holdTrackOccupied
  split
  · exact hs
  · next h hh =>
    repeat' split
    · exact hs.stageDone _ _ ((hs.kept hh).trackOccupied _)
    · exact (hs.cancelTimeRelease _ (hs.kept hh)).testRelease n
    · exact hs

theorem State.HoldsKept.holdTrackCleared (a n : Nat) (hs : s.HoldsKept) : (s.holdTrackCleared a n).HoldsKept := by
  unfold State.holdTrackCleared
  split
  · exact hs
  · next h hh =>
    dsimp only
    repeat' split
    · exact (hs.stageDone _ _ ((hs.kept hh).trackCleared _ _)).testSequential n
    · exact hs.testApproach n
    · exact hs

theorem State.HoldsKept.countdownExpires (n : Nat) (hs : s.HoldsKept) : (s.countdownExpires n).HoldsKept := by
  unfold State.countdownExpires
  split
  · exact hs
  · next h hh =>
    split
    · next hd =>
      simp only [Bool.and_eq_true, decide_eq_true_eq] at hd
      have hk := hs.kept hh
      have hprior : h.prior.isSome = true := hk.prior.trans (by simp [Hold.releasing, hd.1])
      exact (hs.putHold (h := { h with state := .ready, timer := some (s.now + 30000) })
        ⟨hk.defined, hk.stages, rfl, hprior⟩).emit ..
    · exact hs

/-- A time release that starts (R60). -/
theorem State.HoldsKept.releaseStarts (p : PriorState) (hs : s.HoldsKept) (hk : h.Kept s.conf) :
    (s.releaseStarts h p).HoldsKept := by
  have hput (period : Nat) : Hold.Kept s.conf { h with state := .timing, prior := some p, timer := some (s.now + period) } :=
    ⟨hk.defined, hk.stages, rfl, rfl⟩
  exact (hs.putHold (hput _)).emit ..

theorem State.HoldsKept.holdsOnHold (hs : s.HoldsKept) : s.holdsOnHold.HoldsKept := by
  have cancels (l : List Hold) (v : State) (hv : v.HoldsKept) (hl : ∀ k ∈ l, k.Kept v.conf) :
      (l.foldl (fun s k => s.cancelTimeRelease k .partHeld) v).HoldsKept := by
    induction l generalizing v with
    | nil => exact hv
    | cons k l ih =>
      refine ih _ (hv.cancelTimeRelease _ (hl k (List.mem_cons_self ..))) fun j hj => ?_
      rw [(State.cancelTimeRelease_outside k _ v).conf_eq (by decide)]
      exact hl j (List.mem_cons_of_mem _ hj)
  exact cancels _ s hs fun k hk => (State.holdsKept_iff.1 hs).2.1 k (List.mem_filter.1 hk).1

/-- The start-up rule makes a hold for a signal that has none, in RUNNING (R68). -/
theorem State.HoldsKept.startUpHold {n : Nat} (hs : s.HoldsKept) (hm : s.control.mode = .running) (hh : s.hold? n = none) :
    (s.startUpHold n).HoldsKept := by
  have hmode : s.control.mode ≠ .start := by rw [hm]; decide
  have hvalid : s.invalid = false := by rw [State.invalid, hm]; rfl
  unfold State.startUpHold
  split
  · exact hs
  · next d hd =>
    repeat' split
    · exact hs.createHold _ _ hd (by decide) hmode hvalid hh
    · exact hs.createHold _ _ hd (by decide) hmode hvalid hh
    · exact hs

theorem State.HoldsKept.startUpHolds (hn : s.holds = []) (hm : s.control.mode = .running) : s.startUpHolds.HoldsKept := by
  have each (l : List Nat) (hl : l.Nodup) (v : State) (hv : v.HoldsKept) (hvm : v.control.mode = .running)
      (hnone : ∀ n ∈ l, v.hold? n = none) : (l.foldl (fun s n => s.startUpHold n) v).HoldsKept := by
    induction l generalizing v with
    | nil => exact hv
    | cons a l ih =>
      obtain ⟨ha, hl⟩ := List.nodup_cons.1 hl
      have hfree := hnone a (List.mem_cons_self ..)
      refine ih hl _ (hv.startUpHold hvm hfree) (((State.startUpHold_outside a v).mode_eq (by decide)).trans hvm)
        fun n hmem => ?_
      rw [State.startUpHold_hold? hfree, if_neg fun e : n = a => ha (e ▸ hmem)]
      exact hnone n (List.mem_cons_of_mem _ hmem)
  exact each _ (Tab.nodup_numbers 24) s (State.holdsKept_of_nil hn) hm fun n _ => by rw [State.hold?, hn]; rfl

/-! ### Levers move (R23, R29) -/

theorem State.HoldsKept.present (n : Nat) (old : Standing) (arrived : Bool) (hs : s.HoldsKept)
    (ha : arrived = true → s.control.mode ≠ .start) : (s.present n old arrived).HoldsKept := by
  unfold State.present; dsimp only
  repeat' split
  · exact hs
  · exact hs.signalStandsNormal n
  · next harr => exact (hs.signalArrivesReverse n (ha harr)).frame (State.consumeRelease_outside n _) (by decide)
  · exact hs.signalStandsReverse n
  · exact hs

theorem State.HoldsKept.moveLever (n : Nat) (l : Lever) (e : NoticeEvent) (x : List Byte) (arrived : Bool) (hs : s.HoldsKept)
    (ha : arrived = true → s.control.mode ≠ .start) : (s.moveLever n l e x arrived).HoldsKept :=
  (hs.frame (ps := [.levers, .emitted]) (u := (s.putLever n l).emit e n x) (by simp) (by decide)).present n _ _ ha

/-- A lever that moves without an arrival keeps the holds in every mode. -/
theorem State.HoldsKept.moveFound (n : Nat) (l : Lever) (e : NoticeEvent) (x : List Byte) (hs : s.HoldsKept) :
    (s.moveLever n l e x false).HoldsKept := hs.moveLever n l e x false fun h => by cases h

theorem examinationKeeps_holdsKept : ExaminationKeeps State.HoldsKept where
  withdraw _ n _ _ _ hv := hv.moveFound n _ _ _
  grant _ n _ _ _ hv := hv.moveFound n _ _ _
  frame _ _ k hv := hv.frame k (by decide)

theorem State.HoldsKept.settle (hs : s.HoldsKept) : s.settle.HoldsKept := examinationKeeps_holdsKept.settle hs

theorem State.HoldsKept.tryEnd (n : Nat) (hs : s.HoldsKept) (hm : s.control.mode ≠ .start) : (s.tryEnd n).HoldsKept := by
  unfold State.tryEnd; dsimp only
  split
  · exact hs
  · split
    · exact (hs.moveLever _ _ _ _ _ fun _ => hm).settle
    · exact (hs.moveFound _ _ _ _).settle
    · exact hs

theorem State.HoldsKept.derive (n : Nat) (hs : s.HoldsKept) : (s.derive n).HoldsKept :=
  hs.frame (State.derive_outside n s) (by decide)

theorem State.HoldsKept.putLever (n : Nat) (l : Lever) (hs : s.HoldsKept) : (s.putLever n l).HoldsKept :=
  hs.frame (State.putLever_outside n l s) (by decide)

theorem State.HoldsKept.catchLifts (n : Nat) (hs : s.HoldsKept) : (s.catchLifts n).HoldsKept := by
  unfold State.catchLifts; dsimp only
  repeat' split
  · exact hs.derive n
  · exact ((hs.putLever _ _).moveFound _ _ _ _).settle
  · exact (hs.putLever _ _).emit ..
  · exact hs

theorem State.HoldsKept.catchLowers (n : Nat) (hs : s.HoldsKept) : (s.catchLowers n).HoldsKept := by
  unfold State.catchLowers; dsimp only
  split
  · exact hs.derive n
  · next hm =>
    split
    case h_3 | h_4 => exact (hs.moveFound _ _ _ _).settle
    case h_5 | h_6 => exact (hs.putLever _ _).tryEnd n hm
    all_goals exact hs.putLever _ _

theorem State.HoldsKept.detectorOpens (n : Nat) (hs : s.HoldsKept) : (s.detectorOpens n).HoldsKept := by
  unfold State.detectorOpens; dsimp only
  split
  · exact hs.derive n
  · next hm =>
    split
    case h_5 | h_6 => exact hs.moveFound _ _ _ _
    case h_7 | h_8 => exact hs.tryEnd n hm
    all_goals exact (hs.frame (State.forcedMovement_outside n s) (by decide)).settle

theorem State.HoldsKept.detectorMakes (n : Nat) (hs : s.HoldsKept) : (s.detectorMakes n).HoldsKept := by
  unfold State.detectorMakes; dsimp only
  split
  · exact hs.derive n
  · next hm =>
    repeat' split
    · exact hs
    · exact (hs.moveFound _ _ _ _).settle
    · exact hs.tryEnd n hm

/-! ### Tracks, timers and sections (R14, R61, R63, R73) -/

theorem State.HoldsKept.becomesOccupied (a : Nat) (hs : s.HoldsKept) : (s.becomesOccupied a).HoldsKept :=
  (State.HoldsKept.foldl (l := s.holds.map (·.signal)) (fun _ n hv => hv.holdTrackOccupied a n) hs).frame (ps := [.sections, .alerts, .sounder, .emitted])
    (u := s.becomesOccupied a) (by simp [State.becomesOccupied, State.holdsTrackOccupied]) (by decide)

theorem State.HoldsKept.becomesClear (a : Nat) (hs : s.HoldsKept) : (s.becomesClear a).HoldsKept :=
  (State.HoldsKept.foldl (l := s.holds.map (·.signal)) (fun _ n hv => hv.holdTrackCleared a n) hs).frame (ps := [.sections, .register, .emitted])
    (u := s.becomesClear a) (by simp [State.becomesClear, State.holdsTrackCleared]) (by decide)

/-- A frame that no condition on the holds reads, in a fixed list of parts. -/
theorem State.HoldsKept.lockless (k : Outside lockless s u) (hs : s.HoldsKept) : u.HoldsKept := hs.frame k (by decide)

theorem State.HoldsKept.relayDrops (a : Nat) (hs : s.HoldsKept) : (s.relayDrops a).HoldsKept := by
  unfold State.relayDrops
  repeat' split
  · cases hm : (s.track a).marked with
    | true => exact hs.frame (State.occupationStarts_marked_outside hm) (by decide)
    | false =>
      rw [State.occupationStarts_unmarked hm]
      have hset : ((s.setOccupied a).emit .trackOccupied a []).HoldsKept :=
        hs.frame (ps := [.tracks, .emitted]) (by simp [State.setOccupied]) (by decide)
      exact ((hset.becomesOccupied a).frame (State.attributeRunning_outside a _) (by decide)).settle
  · exact hs.frame (State.flicker_outside a s) (by decide)
  all_goals exact hs

theorem State.HoldsKept.pickUpExpires (a : Nat) (hs : s.HoldsKept) : (s.pickUpExpires a).HoldsKept := by
  have hput (k : Track) : (s.putTrack a k).HoldsKept := hs.frame (State.putTrack_outside a k s) (by decide)
  unfold State.pickUpExpires; dsimp only
  repeat' split
  · exact hput _
  · exact (((hput _).emit ..).becomesClear a).settle
  · exact hs

theorem State.HoldsKept.trackRestore (a : Nat) (hs : s.HoldsKept) : (s.trackRestore a).2.2.HoldsKept := by
  by_cases hf : (s.track a).filter = .clear
  · obtain ⟨x, hx⟩ := State.trackRestore_clear hf
    have hset : ((s.setRestored a).emit .trackRestored a x).HoldsKept :=
      hs.frame (ps := [.tracks, .emitted]) (by simp [State.setRestored]) (by decide)
    rw [hx]; dsimp only
    split
    · exact (hset.becomesClear a).settle
    · exact hset
  · rw [State.trackRestore_refused hf]
    exact hs

theorem State.HoldsKept.suspectRequest (a : Nat) (hs : s.HoldsKept) : (s.suspectRequest a).HoldsKept := by
  unfold State.suspectRequest; dsimp only
  split
  · have hset : (((s.putTrack a { s.track a with suspect := true }).countMark a false).emit .trackSuspect a []).HoldsKept :=
      hs.frame (ps := [.tracks, .counters, .emitted]) (by simp) (by decide)
    split
    · exact hset.becomesOccupied a
    · exact hset
  · exact hs

theorem State.HoldsKept.graceExpires (r : Nat) (hs : s.HoldsKept) : (s.graceExpires r).HoldsKept := by
  rcases s.graceExpires_cases r with e | ⟨a, e⟩ <;> rw [e]
  · exact hs
  · exact (State.HoldsKept.emit _ _ _ (.foldl (fun _ n hv => hv.suspectRequest n)
      (hs.frame (State.lostRaise_outside r a s) (by decide)))).settle

theorem State.HoldsKept.stabilityExpires (x : Nat) (hs : s.HoldsKept) : (s.stabilityExpires x).HoldsKept := by
  unfold State.stabilityExpires; dsimp only
  repeat' split
  · exact (hs.lockless (u := State.repeaterTransition ..) (by simp [Machine.lockless])).settle
  · exact hs.lockless (by simp [Machine.lockless])
  · exact hs

theorem State.HoldsKept.readyLapses (n : Nat) (hs : s.HoldsKept) : (s.readyLapses n).HoldsKept := by
  unfold State.readyLapses
  split
  · exact hs
  · next h hh =>
    split
    · have hback := hs.putHold (hs.kept hh).backToPrior
      exact (((hback.frame (State.raise_outside .releaseLapsed n _) (by decide)).emit ..).testRelease n).settle
    · exact hs

/-! ### Requests, modes and resets (R60, R62, R64, R67, R68) -/

theorem State.HoldsKept.timeReleaseStart (n : Nat) (hs : s.HoldsKept) : (s.timeReleaseStart n).2.2.HoldsKept := by
  unfold State.timeReleaseStart
  split
  · exact hs
  · split
    · exact hs
    · next h hh =>
      repeat' split
      case h_1.isTrue => exact hs.releaseStarts _ (hs.kept hh)
      all_goals exact hs

theorem State.HoldsKept.timeReleaseConfirm (n : Nat) (hs : s.HoldsKept) : (s.timeReleaseConfirm n).2.2.HoldsKept := by
  unfold State.timeReleaseConfirm
  repeat' split
  case h_2.isTrue => exact ((hs.removeHold n _).frame (State.count_outside _ _) (by decide)).settle
  all_goals exact hs

theorem State.HoldsKept.timeReleaseCancel (n : Nat) (hs : s.HoldsKept) : (s.timeReleaseCancel n).2.2.HoldsKept := by
  unfold State.timeReleaseCancel
  repeat' split
  case h_2.isTrue h hh _ => exact ((hs.cancelTimeRelease _ (hs.kept hh)).testRelease n).settle
  all_goals exact hs

/-- A change of the mode among those past the start interval whose configuration is trusted. -/
theorem State.HoldsKept.remode (hs : s.HoldsKept) (hh : u.holds = s.holds) (hc : u.conf = s.conf)
    (hm : u.control.mode ≠ .start) (hi : u.invalid = false) : u.HoldsKept := by
  obtain ⟨horder, hkept, -⟩ := State.holdsKept_iff.1 hs
  exact State.holdsKept_iff.2 ⟨by rwa [hh], by rwa [hh, hc], fun e => by simp [hm, hi] at e⟩

theorem State.HoldsKept.holdPart (hs : s.HoldsKept) : s.holdPart.2.2.HoldsKept := by
  by_cases hm : s.control.mode = .running
  · rw [State.holdPart_running hm]
    exact (hs.remode (u := s.heldBegun) rfl rfl nofun rfl).settle.holdsOnHold
  · rw [State.holdPart_refused hm]
    exact hs

theorem State.HoldsKept.resumePart (hs : s.HoldsKept) : s.resumePart.2.2.HoldsKept := by
  unfold State.resumePart State.resumePasses
  repeat' split
  case h_2.isTrue => exact hs.frame (s.following_outside .storeWrite) (by decide)
  case h_2.isFalse => exact (hs.remode (u := s.resumedBegun) rfl rfl nofun rfl).settle
  all_goals exact hs

theorem State.HoldsKept.switchOut (hs : s.HoldsKept) : s.switchOut.2.2.HoldsKept := by
  unfold State.switchOut
  repeat' split
  case h_2 => exact (hs.frame s.doSwitchOut_outside (by decide)).settle
  all_goals exact hs

theorem State.HoldsKept.switchIn (hs : s.HoldsKept) : s.switchIn.2.2.HoldsKept := by
  unfold State.switchIn
  repeat' split
  case h_2 => exact (hs.frame s.doSwitchIn_outside (by decide)).settle
  all_goals exact hs

theorem State.HoldsKept.own (r : Request) (hs : s.HoldsKept) : (s.own r).2.2.HoldsKept := by
  cases r with
  | timeReleaseStart a => exact hs.timeReleaseStart _
  | timeReleaseConfirm a => exact hs.timeReleaseConfirm _
  | timeReleaseCancel a => exact hs.timeReleaseCancel _
  | switchOut => exact hs.switchOut
  | switchIn => exact hs.switchIn
  | hold => exact hs.holdPart
  | resume => exact hs.resumePart
  | trackRestore a => exact hs.trackRestore _
  | clearSticky a => exact hs.frame (State.clearSticky_outside _ s) (by decide)
  | writeConfig b =>
    have hf := State.writeConfig_outside b s
    exact hs.of_eq (hf .holds (by decide)) (s.writeConfig_conf b) (hf.mode_eq (by decide))
  | _ =>
    refine hs.lockless ?_
    simp only [State.own, State.readOut]
    try split
    all_goals simp [Machine.lockless]

theorem servesHolds : Serves State.HoldsKept State.HoldsKept where
  weaker _ hs := hs
  link _ _ hs := hs.lockless (by simp [Machine.lockless])
  reply _ _ hs := hs.lockless (by simp [Machine.lockless])
  own r _ hs := hs.own r

theorem State.warmRestart_holdsKept (k : ResetCause) (old : Conf) (s : State) : (s.warmRestart k old).HoldsKept :=
  State.holdsKept_of_nil rfl

/-- A start interval ends with the holds of the start-up rule, or with none (R68). -/
theorem State.HoldsKept.intervalEnds (hs : s.HoldsKept) (hm : s.control.mode = .start) : s.intervalEnds.HoldsKept := by
  have hnone : s.holds = [] := (State.holdsKept_iff.1 hs).2.2 (.inl hm)
  cases hg : s.store.checkGood with
  | true =>
    rw [State.intervalEnds_running hg, State.unitsStart_begins rfl]
    have hbefore : Outside [.tracks, .box, .set, .sections, .levers, .emitted] (s.entered .running)
        (s.entered .running).tracksStart.switchingStarts.leversStart := by simp
    have hbegun := State.HoldsKept.startUpHolds ((hbefore .holds (by decide)).trans hnone)
      ((hbefore.mode_eq (by decide)).trans rfl)
    have hafter : Outside [.sections, .bells, .flasher, .sounder, .emitted]
        (s.entered .running).tracksStart.switchingStarts.leversStart.startUpHolds
        (s.entered .running).tracksStart.switchingStarts.unitsBegin := by simp [State.unitsBegin]
    exact (hbegun.frame hafter (by decide)).settle.frame (State.startedFirst_outside _) (by decide)
  | false =>
    rw [State.intervalEnds_invalid hg, State.unitsStart_invalid rfl]
    have hbegun : (s.entered (.held .invalid)).HoldsKept := State.holdsKept_of_nil hnone
    have hstart : Outside [.levers, .flasher, .sounder] (s.entered (.held .invalid))
        (s.entered (.held .invalid)).leversStart.panelStarts := by simp
    exact (hbegun.frame hstart (by decide)).settle.frame (State.startedFirst_outside _) (by decide)

/-! ### Every step keeps the holds -/

theorem EventOf.keepsHolds {f : State → State} (hf : EventOf f) (hs : s.HoldsKept) : (f s).HoldsKept := by
  cases hf with
  | aside hf => exact hs.lockless ((hf s).mono (by simp [asideParts, Machine.lockless]))
  | relayDrops a => exact hs.relayDrops a
  | pickUpExpires a => exact hs.pickUpExpires a
  | graceExpires r => exact hs.graceExpires r
  | catchLifts n => exact hs.catchLifts n
  | catchLowers n => exact hs.catchLowers n
  | detectorOpens n => exact hs.detectorOpens n
  | detectorMakes n => exact hs.detectorMakes n
  | travelExpires n => exact hs.frame (State.travelExpires_outside n s) (by decide)
  | countdownExpires n => exact hs.countdownExpires n
  | readyLapses n => exact hs.readyLapses n
  | stabilityExpires x => exact hs.stabilityExpires x
  | intervalEnds =>
    dsimp only; split
    · next ho => exact hs.intervalEnds (by simp_all [State.intervalOver])
    · exact hs
  | resetLineReset => exact State.warmRestart_holdsKept _ _ _
  | resetLineReleased =>
    unfold State.resetLineReleased
    split <;> exact hs
  | restartReset =>
    unfold State.restartReset; split
    · exact State.warmRestart_holdsKept _ _ _
    · exact hs
  | storeWriteEnds =>
    unfold State.storeWriteEnds; split
    · exact State.warmRestart_holdsKept _ _ _
    · exact hs
  | submit tag r => exact servesHolds.submit tag r hs
  | byteArrives b e => exact servesHolds.byteArrives b e hs
  | frameGoes => exact servesHolds.frameGoes hs
  | _ => exact hs.lockless (by simp [Machine.lockless])

theorem keepsHolds : Keeps State.HoldsKept State.HoldsKept where
  moves _ _ _ _ hs := hs
  stays _ hs := hs
  event _ hf _ hs := hf.keepsHolds hs
  close _ hs := hs.lockless ((State.close_outside _).mono (by simp [Machine.lockless]))
  powersUp _ _ := State.holdsKept_of_nil rfl
  restores _ _ := State.holdsKept_of_nil rfl
  powerLost _ _ _ := State.holdsKept_of_nil rfl

/-- Settles O7: each event replaces a hold by one that is well formed, takes holds away, or enters one for a signal that has
none, past the start interval and under a configuration that is trusted. -/
theorem stepKeepsHolds : Obligations.StepKeepsHolds := fun _ _ hs hu => keepsHolds.step hs hu

end Sys2Proof.Machine

namespace Sys2Proof.Machine

variable {ps : List Part} {s t u v w : State} {h : Hold} {n : Nat} {d : HoldDef}

/-! ### Requests that their owner refuses or grants (R185) -/

/-- A request that its owner refuses is answered, and changes nothing else. -/
theorem State.request_refused {tm : Time} {tag : Byte} {r : Request} {k : Result} (hs : s.ready) (hf : s.requestFail r = none)
    (hk : k ≠ .ok) (ho : (s.advance tm).own r = (k, [], s.advance tm)) :
    s.onlyReplies (s.request tm tag r) r.replyKind tag k [] := by
  rw [State.request_owned hs hf ho]
  exact State.onlyReplies_close (State.emitted_of_ready hs) hk

/-- What the owner of a granted request changes, with the answer. -/
theorem State.answered_outside {tm : Time} (r : Reply) (k : Outside ps (s.advance tm) v) :
    Outside (.now :: .slot :: ps) s (v.replied r) :=
  ((s.advance_outside tm).mono (by simp)).trans ((k.mono (by simp)).trans ((v.replied_outside r).mono (by simp)))

/-- An answer and the close of the event leave the list of holds. -/
theorem State.answered_hold? (r : Reply) (m : Nat) (s : State) : (s.replied r).close.hold? m = s.hold? m :=
  State.hold?_of_outside (ps := [.slot, .now, .emitted, .outbox, .transmitter])
    (((s.replied_outside r).mono (by simp)).trans ((State.close_outside _).mono (by simp))) (by decide) m

theorem State.answered_drafts (r : Reply) (s : State) : (s.replied r).drafts = s.drafts :=
  State.drafts_of_outside (s.replied_outside r) (by decide)

/-! ### What the requests of a time release answer (R60, R62, R64) -/

theorem State.requestFail_timeRelease {b : Byte} (hn : isLever b.toNat = true) :
    s.requestFail (.timeReleaseStart b) = none ∧ s.requestFail (.timeReleaseConfirm b) = none ∧
      s.requestFail (.timeReleaseCancel b) = none := by
  simp [State.requestFail, Request.technician, Request.kind, Request.fits, hn]

/-- Without a definition none of the three finds its signal. -/
theorem State.timeRelease_undefined (hd : s.conf.holdDef n = none) : s.timeReleaseStart n = (.noSuch, [], s) ∧
    s.timeReleaseConfirm n = (.noSuch, [], s) ∧ s.timeReleaseCancel n = (.noSuch, [], s) := by
  simp [State.timeReleaseStart, State.timeReleaseConfirm, State.timeReleaseCancel, hd]

/-- Without a hold none of the three has anything to act on. -/
theorem State.timeRelease_unheld (hd : s.conf.holdDef n = some d) (hh : s.hold? n = none) :
    s.timeReleaseStart n = (.refusedState, [], s) ∧ s.timeReleaseConfirm n = (.refusedState, [], s) ∧
      s.timeReleaseCancel n = (.refusedState, [], s) := by
  simp [State.timeReleaseStart, State.timeReleaseConfirm, State.timeReleaseCancel, hd, hh]

/-- The prior state of a time release that starts from `h` (R60). -/
def Hold.startPrior (h : Hold) : PriorState := if h.state = .holding then .holding else .irregular

theorem State.timeReleaseStart_starts (hd : s.conf.holdDef n = some d) (hh : s.hold? n = some h)
    (hm : s.control.mode = .running) (hst : h.state = .holding ∨ h.state = .irregular) (hn : s.standing n = .normal) :
    s.timeReleaseStart n = (.ok, [], s.releaseStarts h h.startPrior) := by
  have hprior : h.state.startable = some h.startPrior := by
    rcases hst with e | e <;> simp [Hold.startPrior, HoldState.startable, e]
  simp [State.timeReleaseStart, hd, hh, hm, hprior, hn]

theorem State.timeReleaseStart_refused (hd : s.conf.holdDef n = some d) (hh : s.hold? n = some h)
    (hno : s.control.mode ≠ .running ∨ h.state = .active ∨ h.releasing = true ∨ s.standing n ≠ .normal) :
    s.timeReleaseStart n = (.refusedState, [], s) := by
  unfold State.timeReleaseStart
  rw [hd, hh]
  dsimp only
  rw [if_neg (by simp)]
  split
  · rfl
  · next hm =>
    split
    · next p hp =>
      refine if_neg fun hn => ?_
      rcases hno with e | e | e | e
      · exact hm e
      · simp [e, HoldState.startable] at hp
      · simp only [Hold.releasing, Bool.or_eq_true, decide_eq_true_eq] at e
        rcases e with e | e <;> simp [e, HoldState.startable] at hp
      · exact e hn
    · rfl

/-- A hold gone by a time release, with its count, before the examination (R62). -/
def State.releaseConfirmed (n : Nat) (s : State) : State := (s.removeHold n .timeRelease).count (.release n)

theorem State.timeReleaseConfirm_ready (hd : s.conf.holdDef n = some d) (hh : s.hold? n = some h) (hst : h.state = .ready)
    (hn : s.standing n = .normal) : s.timeReleaseConfirm n = (.ok, [], (s.releaseConfirmed n).settle) := by
  simp [State.timeReleaseConfirm, State.releaseConfirmed, hd, hh, hst, hn]

theorem State.timeReleaseConfirm_refused (hd : s.conf.holdDef n = some d) (hh : s.hold? n = some h)
    (hno : h.state ≠ .ready ∨ s.standing n ≠ .normal) : s.timeReleaseConfirm n = (.refusedState, [], s) := by
  rcases hno with e | e <;> simp [State.timeReleaseConfirm, hd, hh, e]

theorem State.timeReleaseCancel_releasing (hd : s.conf.holdDef n = some d) (hh : s.hold? n = some h)
    (hr : h.releasing = true) :
    s.timeReleaseCancel n = (.ok, [], ((s.cancelTimeRelease h .signalman).testRelease n).settle) := by
  simp [State.timeReleaseCancel, hd, hh, hr]

theorem State.timeReleaseCancel_refused (hd : s.conf.holdDef n = some d) (hh : s.hold? n = some h)
    (hr : h.releasing = false) : s.timeReleaseCancel n = (.refusedState, [], s) := by
  simp [State.timeReleaseCancel, hd, hh, hr]

/-! ### A time release starts (R60) -/

/-- A hold of the list is replaced by another of its signal, and the other signals keep theirs. -/
theorem State.putHold_hold? {k : Hold} (hh : s.hold? n = some h) (hk : k.signal = n) (m : Nat) :
    (s.putHold k).hold? m = if m = n then some k else s.hold? m := by
  rw [State.hold?_putHold, hk]
  split
  · next e => rw [e, hh]; rfl
  · rfl

theorem State.releaseStarts_hold? (p : PriorState) (hd : s.conf.holdDef n = some d) (hh : s.hold? n = some h) (m : Nat) :
    (s.releaseStarts h p).hold? m = if m = n
      then some { h with state := .timing, prior := some p, timer := some (s.now + d.period) } else s.hold? m := by
  have hsignal := State.hold?_signal hh
  have hperiod : ((s.conf.holdDef h.signal).map (·.period)).getD 0 = d.period := by rw [hsignal, hd]; rfl
  rw [← hperiod]
  exact State.putHold_hold? (k := { h with
    state := .timing
    prior := some p
    timer := some (s.now + ((s.conf.holdDef h.signal).map (·.period)).getD 0) }) hh hsignal m

theorem timeReleaseStart_event {tm : Time} {tag b : Byte} (hs : s.ready) (hn : isLever b.toNat = true)
    (hd : s.conf.holdDef b.toNat = some d) (hh : s.hold? b.toNat = some h) (hm : s.control.mode = .running)
    (hst : h.state = .holding ∨ h.state = .irregular) (hstand : s.standing b.toNat = .normal) :
    ∃ u, exec (.timeReleaseStart tm tag b) s = .next u ∧ u.replies 0x91 tag .ok [] ∧
      u.hold? b.toNat = some { h with
        state := .timing
        prior := some (if h.state = .holding then .holding else .irregular)
        timer := some (max s.now tm + d.period) } ∧
      (∀ m, m ≠ b.toNat → u.hold? m = s.hold? m) ∧ s.announces u [(.holdStarted, b.toNat)] ∧
      ChangesOnly [.holds, .slot] s u := by
  have hall := State.answered_outside ⟨0x91, tag, .ok, []⟩ ((s.advance tm).releaseStarts_outside h h.startPrior)
  have hread (m : Nat) := (State.answered_hold? ⟨0x91, tag, .ok, []⟩ m _).trans
    (State.releaseStarts_hold? (s := s.advance tm) h.startPrior hd hh m)
  have hdrafts : ((s.advance tm).releaseStarts h h.startPrior).drafts = [(.holdStarted, b.toNat)] := by
    rw [State.releaseStarts, State.drafts_emit, State.hold?_signal hh]
    exact congrArg (· ++ _) (State.drafts_of_emitted (State.emitted_of_ready hs))
  refine ⟨_, congrArg Host.Outcome.next (State.request_owned (r := .timeReleaseStart b) hs (State.requestFail_timeRelease hn).1
    (State.timeReleaseStart_starts (s := s.advance tm) hd hh hm hst hstand)), State.replies_close ..,
    (hread b.toNat).trans (if_pos rfl), fun m hne => (hread m).trans (if_neg hne), ?_,
    changesOnly_close (hall.mono (by simp [closing]))⟩
  exact State.announces_of_outside hall (by decide) hs.1.2 ((State.answered_drafts _ _).trans hdrafts)

/-! ### A time release is confirmed (R59, R62) -/

/-- With no lever raised an examination has nothing to do (R29). -/
theorem State.settle_unraised (h : ∀ m ∈ Tab.numbers 24, s.unraised m) : s.settle = s.removalsLast := by
  refine State.settle_of_idle (State.failing_eq_nil.2 fun m hm hf => ?_) (State.grantable_eq_nil.2 fun m hm hc => ?_)
  · rw [(h m hm).2] at hf; cases hf
  · rw [(h m hm).1] at hc; cases hc

theorem State.unraised_of_lever {m : Nat} (hl : u.lever m = s.lever m) (h : s.unraised m) : u.unraised m := by
  rw [State.unraised, hl]; exact h

theorem State.releaseConfirmed_outside (n : Nat) (s : State) : Outside [.holds, .counters, .emitted] s (s.releaseConfirmed n) := by
  simp [State.releaseConfirmed]

/-- The notice *removed* of a confirmed release stands alone where no lever is raised. -/
theorem State.releaseConfirmed_drafts (hd : s.drafts = []) (h : ∀ m ∈ Tab.numbers 24, s.unraised m) :
    (s.releaseConfirmed n).settle.drafts = [(.holdRemoved, n)] := by
  have hlever := State.lever_of_outside (s.releaseConfirmed_outside n) (by decide)
  have hone : (s.releaseConfirmed n).emitted = [⟨.holdRemoved, n, b1 HoldCause.timeRelease.ord⟩] := by
    have hnone : s.emitted = [] := List.map_eq_nil_iff.1 hd
    exact congrArg (· ++ _) hnone
  rw [State.settle_unraised fun m hm => State.unraised_of_lever (hlever m) (h m hm), State.drafts, State.removalsLast, hone]
  rfl

theorem timeReleaseConfirm_event {tm : Time} {tag b : Byte} (hs : s.ready) (hn : isLever b.toNat = true)
    (hd : s.conf.holdDef b.toNat = some d) (hh : s.hold? b.toNat = some h) (hst : h.state = .ready)
    (hstand : s.standing b.toNat = .normal) :
    ∃ u, exec (.timeReleaseConfirm tm tag b) s = .next u ∧ u.replies 0x92 tag .ok [] ∧ u.hold? b.toNat = none ∧
      u.store = s.store.putCounter (.release b.toNat) (s.store.counter (.release b.toNat)).increment ∧
      ((∀ m ∈ Tab.numbers 24, s.unraised m) → s.announces u [(.holdRemoved, b.toNat)]) ∧
      ChangesOnly [.holds, .levers, .choices, .counters, .slot] s u := by
  have hconfirmed := (s.advance tm).releaseConfirmed_outside b.toNat
  have hsettle := State.settle_outside ((s.advance tm).releaseConfirmed b.toNat)
  have hall := State.answered_outside ⟨0x92, tag, .ok, []⟩ ((hconfirmed.mono
    (ps := [.levers, .holds, .choices, .counters, .emitted]) (by simp)).trans (hsettle.mono (by simp)))
  have hgone : ((s.advance tm).releaseConfirmed b.toNat).hold? b.toNat = none :=
    (State.hold?_removeHold b.toNat b.toNat .timeRelease (s.advance tm)).trans (if_pos rfl)
  refine ⟨_, congrArg Host.Outcome.next (State.request_owned (r := .timeReleaseConfirm b) hs
    (State.requestFail_timeRelease hn).2.1 (State.timeReleaseConfirm_ready (s := s.advance tm) hd hh hst hstand)),
    State.replies_close .., ?_, ?_, fun hu => ?_, changesOnly_close (hall.mono (by simp [closing]))⟩
  · exact (State.answered_hold? _ _ _).trans ((examinationKeeps_gone b.toNat).settle hgone)
  · have hlast : Outside [.levers, .holds, .choices, .emitted, .slot, .now, .outbox, .transmitter]
        ((s.advance tm).releaseConfirmed b.toNat)
        (((s.advance tm).releaseConfirmed b.toNat).settle.replied ⟨0x92, tag, .ok, []⟩).close :=
      (hsettle.mono (by simp)).trans (((State.replied_outside _ _).mono (by simp)).trans ((State.close_outside _).mono (by simp)))
    exact hlast.store_eq (by decide)
  · exact State.announces_of_outside hall (by decide) hs.1.2 ((State.answered_drafts _ _).trans
      (State.releaseConfirmed_drafts (s := s.advance tm) (State.drafts_of_emitted (State.emitted_of_ready hs)) hu))

/-! ### A time release is cancelled (R64) -/

/-- What the release tests and the examination make of a hold that is back in its prior state (R57, R58, R63, R64). -/
theorem State.testRelease_settled (hv : Outside [.now, .holds, .emitted] s v) (hsignal : h.signal = n)
    (hback : v.hold? n = some h.backToPrior) :
    ((v.testRelease n).settle.hold? n = none ∨
        ∃ b, (v.testRelease n).settle.hold? n = some { h.backToPrior with reversal := b }) ∧
      ((v.testRelease n).settle.hold? n = none → h.prior = some .holding ∧ s.releasable h) ∧
      (h.prior = some .holding → s.standing n = .normal → s.releasable h → (v.testRelease n).settle.hold? n = none) := by
  have hbefore : Outside lapsing s v := hv.mono (by simp [lapsing])
  have hlapsed : s.Lapsed n h (v.testRelease n) := State.Lapsed.testRelease hbefore (.inr ⟨h.reversal, hback⟩)
  have htested : Outside lapsing s (v.testRelease n) :=
    hbefore.trans ((State.testRelease_outside n v).mono (by simp [lapsing]))
  obtain ⟨-, hend⟩ := (examinationKeeps_lapsed hsignal).settle ⟨htested, hlapsed⟩
  refine ⟨hend.imp_left fun e => e.1, fun hnone => ?_, fun hp hn hr => ?_⟩
  · rcases hend with ⟨-, hwhy⟩ | ⟨b, hb⟩
    · exact hwhy
    · simp [hnone] at hb
  · refine (examinationKeeps_gone n).settle (State.testRelease_removes hback ?_ ?_ ?_)
    · simp [Hold.testable, Hold.backToPrior, hp, PriorState.toState]
    · exact (congrArg (fun l : Lever => l.phase.standing) (State.lever_of_outside hv (by decide) n)).trans hn
    · exact (State.releasable_of_outside hbefore (by decide) rfl rfl).2 hr

theorem timeReleaseCancel_event {tm : Time} {tag b : Byte} (hs : s.ready) (hn : isLever b.toNat = true)
    (hd : s.conf.holdDef b.toNat = some d) (hh : s.hold? b.toNat = some h) (hr : h.releasing = true) :
    ∃ u, exec (.timeReleaseCancel tm tag b) s = .next u ∧ u.replies 0x93 tag .ok [] ∧
      (u.hold? b.toNat = none ∨ ∃ r, u.hold? b.toNat = some { h.backToPrior with reversal := r }) ∧
      (u.hold? b.toNat = none → h.prior = some .holding ∧ s.releasable h) ∧
      (h.prior = some .holding → s.standing b.toNat = .normal → s.releasable h → u.hold? b.toNat = none) ∧
      s.announcesFirst u [(.holdCancelled, b.toNat)] ∧ ChangesOnly [.holds, .levers, .choices, .slot] s u := by
  have hsignal := State.hold?_signal hh
  have hback : ((s.advance tm).cancelTimeRelease h .signalman).hold? b.toNat = some h.backToPrior :=
    (State.putHold_hold? (s := s.advance tm) (k := h.backToPrior) hh hsignal b.toNat).trans (if_pos rfl)
  have hdrafts : ((s.advance tm).cancelTimeRelease h .signalman).drafts = [(.holdCancelled, b.toNat)] := by
    rw [State.cancelTimeRelease, State.drafts_emit, hsignal]
    exact congrArg (· ++ _) (State.drafts_of_emitted (State.emitted_of_ready hs))
  have hcancelled := (s.advance tm).cancelTimeRelease_outside h .signalman
  have hrequest := State.request_owned (tag := tag) (r := .timeReleaseCancel b) hs
    (State.requestFail_timeRelease hn).2.2 (State.timeReleaseCancel_releasing (s := s.advance tm) hd hh hr)
  generalize (s.advance tm).cancelTimeRelease h .signalman = v at *
  have hall := State.answered_outside ⟨0x93, tag, .ok, []⟩ ((hcancelled.mono
    (ps := [.levers, .holds, .choices, .emitted]) (by simp)).trans (((State.testRelease_outside b.toNat v).mono (by simp)).trans
      (State.settle_outside _)))
  have hfirst : [(.holdCancelled, b.toNat)] <+: (v.testRelease b.toNat).settle.drafts :=
    State.prefix_settle (by simp) (hdrafts ▸ ((State.Appends.refl v).testRelease b.toNat).drafts)
  have hv : Outside [.now, .holds, .emitted] s v := ((s.advance_outside tm).mono (by simp)).trans (hcancelled.mono (by simp))
  have hends := State.testRelease_settled hv hsignal hback
  have hread := State.answered_hold? ⟨0x93, tag, .ok, []⟩ b.toNat (v.testRelease b.toNat).settle
  rw [← hread] at hends
  obtain ⟨hleft, hwhy, hgoes⟩ := hends
  exact ⟨_, congrArg Host.Outcome.next hrequest, State.replies_close .., hleft, hwhy, hgoes,
    State.announcesFirst_of_outside hall (by decide) hs.1.2 ((State.answered_drafts _ _).symm ▸ hfirst),
    changesOnly_close (hall.mono (by simp [closing]))⟩

/-- Settles O35: the three requests, by the definition, the hold and its state. -/
theorem timeReleaseRequests : Obligations.TimeReleaseRequests := by
  intro s tm tag b hs hn
  obtain ⟨hstart, hconfirm, hcancel⟩ := State.requestFail_timeRelease (s := s) hn
  refine ⟨fun hd => ?_, fun d hd hh => ?_, fun d hd h hh => ⟨timeReleaseStart_event hs hn hd hh, fun hno => ?_,
    timeReleaseConfirm_event hs hn hd hh, fun hno => ?_, timeReleaseCancel_event hs hn hd hh, fun hno => ?_⟩⟩
  · obtain ⟨h1, h2, h3⟩ := State.timeRelease_undefined (s := s.advance tm) hd
    exact ⟨⟨_, rfl, State.request_refused hs hstart (by decide) h1⟩, ⟨_, rfl, State.request_refused hs hconfirm (by decide) h2⟩,
      _, rfl, State.request_refused hs hcancel (by decide) h3⟩
  · obtain ⟨h1, h2, h3⟩ := State.timeRelease_unheld (s := s.advance tm) hd hh
    exact ⟨⟨_, rfl, State.request_refused hs hstart (by decide) h1⟩, ⟨_, rfl, State.request_refused hs hconfirm (by decide) h2⟩,
      _, rfl, State.request_refused hs hcancel (by decide) h3⟩
  · exact ⟨_, rfl, State.request_refused hs hstart (by decide) (State.timeReleaseStart_refused (s := s.advance tm) hd hh hno)⟩
  · exact ⟨_, rfl, State.request_refused hs hconfirm (by decide) (State.timeReleaseConfirm_refused (s := s.advance tm) hd hh hno)⟩
  · exact ⟨_, rfl, State.request_refused hs hcancel (by decide) (State.timeReleaseCancel_refused (s := s.advance tm) hd hh hno)⟩

end Sys2Proof.Machine

namespace Sys2Proof.Machine

variable {ps : List Part} {s t u v w : State} {h : Hold} {n : Nat}

/-! ### One hold takes a change of a track (R53, R54, R65) -/

/-- The place of a track in a holding list that names it once. -/
theorem findIdx?_of_nodup {l : List Nat} {a i : Nat} (hl : l.Nodup) (hi : l[i]? = some a) :
    l.findIdx? (· == a) = some i := by
  obtain ⟨hlt, rfl⟩ := List.getElem?_eq_some_iff.1 hi
  refine List.findIdx?_eq_some_iff_getElem.2 ⟨hlt, beq_self_eq_true _, fun j hj he => ?_⟩
  exact hj.ne ((hl.getElem_inj_iff).1 (beq_iff_eq.1 (by simpa using he)))

theorem findIdx?_of_not_mem {l : List Nat} {a : Nat} (hl : a ∉ l) : l.findIdx? (· == a) = none :=
  List.findIdx?_eq_none_iff.2 fun b hb => by
    rw [beq_eq_false_iff_ne]
    rintro rfl
    exact hl hb

theorem State.holdTrackOccupied_at {a i : Nat} (hh : s.hold? n = some h) (hnd : (s.holdingOf h).Nodup)
    (hi : (s.holdingOf h)[i]? = some a) : s.holdTrackOccupied a n = s.stageDone a i (h.trackOccupied i) := by
  unfold State.holdTrackOccupied
  rw [hh]; dsimp only
  rw [findIdx?_of_nodup hnd hi]

theorem State.holdTrackOccupied_off {a : Nat} (hh : s.hold? n = some h) (ha : a ∉ s.holdingOf h) :
    s.holdTrackOccupied a n = if s.approachOf h = some a ∧ h.releasing = true ∧ ∀ g ∈ h.stages, g = .waiting
      then (s.cancelTimeRelease h .approachOccupied).testRelease n else s := by
  unfold State.holdTrackOccupied
  rw [hh]; dsimp only
  rw [findIdx?_of_not_mem ha]
  simp [and_assoc]

theorem State.holdTrackCleared_at {a i : Nat} (hh : s.hold? n = some h) (hnd : (s.holdingOf h).Nodup)
    (hi : (s.holdingOf h)[i]? = some a) : s.holdTrackCleared a n = (s.stageDone a i (h.trackCleared i
      (((s.holdingOf h)[i + 1]?).any fun b => !s.clear b))).testSequential n := by
  unfold State.holdTrackCleared
  rw [hh]; dsimp only
  rw [findIdx?_of_nodup hnd hi]

theorem State.holdTrackCleared_off {a : Nat} (hh : s.hold? n = some h) (ha : a ∉ s.holdingOf h) :
    s.holdTrackCleared a n = if s.approachOf h = some a then s.testApproach n else s := by
  unfold State.holdTrackCleared
  rw [hh]; dsimp only
  rw [findIdx?_of_not_mem ha]

theorem State.stageDone_hold? {r : Hold × Bool} (hh : s.hold? n = some h) (hr : r.1.signal = h.signal) (a i m : Nat) :
    (s.stageDone a i r).hold? m = if m = n then some r.1 else s.hold? m := by
  rw [← State.putHold_hold? hh (hr.trans (State.hold?_signal hh)) m]
  unfold State.stageDone; dsimp only
  split <;> rfl

theorem Hold.trackOccupied_signal (h : Hold) (i : Nat) : (h.trackOccupied i).1.signal = h.signal := by
  rcases h.trackOccupied_cases i with e | e | e | e <;> rw [e] <;> rfl

theorem Hold.trackCleared_signal (h : Hold) (i : Nat) (next : Bool) : (h.trackCleared i next).1.signal = h.signal := by
  unfold Hold.trackCleared
  simp only [Hold.makeIrregular_eq]
  repeat' split
  all_goals rfl

/-- A train enters a holding track in order: the signal was at reverse, or the track before was reached (R53). -/
theorem Hold.trackOccupied_inOrder {i : Nat} (hw : h.stages[i]? = some .waiting)
    (ho : i = 0 ∧ h.reversal = true ∨ 0 < i ∧ h.stages[i - 1]? ≠ some .waiting) :
    h.trackOccupied i = ({ h with stages := h.stages.set i .occupied }, false) := by
  have hin : (if i = 0 then h.reversal else (h.stages[i - 1]?).any (· ≠ .waiting)) = true := by
    rcases ho with ⟨hi, hr⟩ | ⟨hi, hp⟩
    · rw [if_pos hi, hr]
    · have hlt : i - 1 < h.stages.length := by
        have := (List.getElem?_eq_some_iff.1 hw).1
        omega
      rw [if_neg hi.ne']
      rw [List.getElem?_eq_getElem hlt] at hp ⊢
      simpa using hp
  simp only [Hold.trackOccupied, hw, hin, if_true]

theorem Hold.trackOccupied_outOfOrder {i : Nat} (hw : h.stages[i]? = some .waiting)
    (ho : i = 0 ∧ h.reversal = false ∨ 0 < i ∧ h.stages[i - 1]? = some .waiting) :
    h.trackOccupied i = (h.afterIrregularity, true) := by
  have hin : (if i = 0 then h.reversal else (h.stages[i - 1]?).any (· ≠ .waiting)) = false := by
    rcases ho with ⟨hi, hr⟩ | ⟨hi, hp⟩
    · rw [if_pos hi, hr]
    · rw [if_neg hi.ne', hp]
      rfl
  simp only [Hold.trackOccupied, hw, hin, Hold.makeIrregular_eq, Bool.false_eq_true, if_false]

theorem Hold.trackOccupied_again {i : Nat} (hc : h.stages[i]? = some .cleared) :
    h.trackOccupied i = ({ h.afterIrregularity with stages := h.stages.set i .occupied }, true) := by
  simp only [Hold.trackOccupied, hc, Hold.makeIrregular_eq]
  rfl

theorem Hold.trackCleared_inOrder {i : Nat} {next : Bool} (ho : h.stages[i]? = some .occupied)
    (hn : i + 1 = h.stages.length ∨ next = true) :
    h.trackCleared i next = ({ h with stages := h.stages.set i .cleared }, false) := by
  simp only [Hold.trackCleared, ho, Bool.or_eq_true, decide_eq_true_eq, hn, if_true]

theorem Hold.trackCleared_outOfOrder {i : Nat} (ho : h.stages[i]? = some .occupied) (hn : i + 1 ≠ h.stages.length) :
    h.trackCleared i false = ({ h.afterIrregularity with stages := h.stages.set i .waiting }, true) := by
  simp only [Hold.trackCleared, ho, Hold.makeIrregular_eq, hn, Bool.or_false, decide_false, Bool.false_eq_true, if_false]
  rfl

theorem Hold.trackCleared_waiting {i : Nat} (hw : h.stages[i]? = some .waiting) (next : Bool) :
    h.trackCleared i next = (h, false) := by simp only [Hold.trackCleared, hw]

/-- No release test reaches a hold after an irregularity (R55, R57, R58). -/
theorem Hold.afterIrregularity_testable (h : Hold) : h.afterIrregularity.testable = false := by
  cases hr : h.releasing
  · simp [Hold.afterIrregularity, Hold.testable, hr]
  · have hstate : h.state ≠ .holding := by rintro e; simp [Hold.releasing, e] at hr
    simp [Hold.afterIrregularity, Hold.testable, hr, hstate]

theorem State.testSequential_hold? (hh : s.hold? n = some h) : (s.testSequential n).hold? n =
    if h.testable = true ∧ s.standing n = .normal ∧ h.stages.getLast? = some .cleared then none else some h := by
  unfold State.testSequential
  rw [hh]; dsimp only
  simp only [Bool.and_eq_true, decide_eq_true_eq, and_assoc]
  split
  · rw [State.hold?_removeHold, if_pos rfl]
  · exact hh

theorem State.testApproach_hold? (hh : s.hold? n = some h) : (s.testApproach n).hold? n =
    if h.testable = true ∧ s.standing n = .normal ∧ (∀ g ∈ h.stages, g = .waiting) ∧ s.approachClear h = true
      then none else some h := by
  unfold State.testApproach
  rw [hh]; dsimp only
  simp only [Bool.and_eq_true, decide_eq_true_eq, List.all_eq_true, and_assoc]
  split
  · rw [State.hold?_removeHold, if_pos rfl]
  · exact hh

/-! ### Each hold on its own (R53, R54) -/

theorem State.holdTrackOccupied_other {a m : Nat} (hm : m ≠ n) (s : State) :
    (s.holdTrackOccupied a n).hold? m = s.hold? m := by
  unfold State.holdTrackOccupied
  split
  · rfl
  · next h hh =>
    have hsignal := State.hold?_signal hh
    repeat' split
    · rw [State.stageDone_hold? hh (h.trackOccupied_signal _), if_neg hm]
    · rw [State.testRelease_other hm]
      exact State.putHold_other (h := h.backToPrior) (hsignal ▸ hm) s
    · rfl

theorem State.holdTrackCleared_other {a m : Nat} (hm : m ≠ n) (s : State) :
    (s.holdTrackCleared a n).hold? m = s.hold? m := by
  unfold State.holdTrackCleared
  split
  · rfl
  · next h hh =>
    dsimp only
    repeat' split
    · rw [State.testSequential_other hm, State.stageDone_hold? hh (h.trackCleared_signal _ _), if_neg hm]
    · exact State.testApproach_other hm s
    · rfl

/-- Where the holds take an event one after another, each on its own, hold `n` takes it in a part that differs in other
holds and in notices; and in the part as it stands where no other hold takes it. -/
theorem State.foldl_hold? {f : State → Nat → State} (hframe : ∀ v m, Outside [.holds, .emitted] v (f v m))
    (hother : ∀ v k m, m ≠ k → (f v k).hold? m = v.hold? m) {l : List Nat} (hl : l.Nodup) (hn : n ∈ l) (s : State) :
    ∃ w, Outside [.holds, .emitted] s w ∧ w.hold? n = s.hold? n ∧ (l.foldl f s).hold? n = (f w n).hold? n ∧
      (l = [n] → w = s) := by
  have after (l : List Nat) (hl : n ∉ l) (v : State) : (l.foldl f v).hold? n = v.hold? n := by
    induction l generalizing v with
    | nil => rfl
    | cons k l ih =>
      obtain ⟨hk, hl⟩ := not_or.1 (mt List.mem_cons.2 hl)
      exact (ih hl _).trans (hother v k n hk)
  induction l generalizing s with
  | nil => cases hn
  | cons k l ih =>
    obtain ⟨hk, hl⟩ := List.nodup_cons.1 hl
    by_cases e : n = k
    · subst e
      exact ⟨s, .refl _ _, rfl, after l hk _, fun _ => rfl⟩
    · have hmem := (List.mem_cons.1 hn).resolve_left e
      obtain ⟨w, hw, hwn, hend, -⟩ := ih hl hmem (f s k)
      refine ⟨w, (hframe s k).trans hw, hwn.trans (hother s k n e), hend, fun e' => ?_⟩
      simp only [List.cons.injEq] at e'
      exact absurd e'.1.symm e

theorem State.HoldsKept.signals_nodup (hs : s.HoldsKept) : (s.holds.map (·.signal)).Nodup :=
  (State.holdsKept_iff.1 hs).1.imp Nat.ne_of_lt

theorem State.mem_signals (hh : s.hold? n = some h) : n ∈ s.holds.map (·.signal) :=
  State.hold?_signal hh ▸ List.mem_map_of_mem (List.mem_of_find?_eq_some hh)

theorem State.signals_alone (hs : s.holds = [h]) (hh : s.hold? n = some h) : s.holds.map (·.signal) = [n] := by
  rw [hs, ← State.hold?_signal hh]; rfl

/-- What an occupation makes of hold `n`, and of the part where it is the only hold. -/
theorem State.becomesOccupied_hold? (hn : (s.holds.map (·.signal)).Nodup) (hh : s.hold? n = some h) (a : Nat) :
    ∃ w, Outside [.holds, .emitted] s w ∧ w.hold? n = some h ∧
      (s.becomesOccupied a).hold? n = (w.holdTrackOccupied a n).hold? n ∧
      (s.holds = [h] → w = s ∧ (w.holdTrackOccupied a n).Appends (s.becomesOccupied a)) := by
  obtain ⟨w, hw, hwn, hend, halone⟩ := State.foldl_hold? (f := fun v m => v.holdTrackOccupied a m)
    (fun v m => (State.holdTrackOccupied_outside a m v).mono (by simp)) (fun v k m hne => State.holdTrackOccupied_other hne v)
    hn (State.mem_signals hh) s
  refine ⟨w, hw, hwn.trans hh, ?_, fun hone => ⟨halone (State.signals_alone hone hh), ?_⟩⟩
  · exact (State.hold?_of_outside (State.sectionsTrackOccupied_outside a _) (by decide) n).trans hend
  · have hsame : s.holdsTrackOccupied a = s.holdTrackOccupied a n := by
      rw [State.holdsTrackOccupied, State.signals_alone hone hh]; rfl
    rw [halone (State.signals_alone hone hh), ← hsame]
    exact .foldl (fun _ x hv => hv.clearingOccupied x) (.refl _)

/-- What a clearing makes of hold `n`. -/
theorem State.becomesClear_hold? (hn : (s.holds.map (·.signal)).Nodup) (hh : s.hold? n = some h) (a : Nat) :
    ∃ w, Outside [.holds, .emitted] s w ∧ w.hold? n = some h ∧
      (s.becomesClear a).hold? n = (w.holdTrackCleared a n).hold? n := by
  obtain ⟨w, hw, hwn, hend, -⟩ := State.foldl_hold? (f := fun v m => v.holdTrackCleared a m)
    (fun v m => (State.holdTrackCleared_outside a m v).mono (by simp)) (fun v k m hne => State.holdTrackCleared_other hne v)
    hn (State.mem_signals hh) s
  have hrest : Outside [.sections, .register, .emitted] (s.holdsTrackCleared a) (s.becomesClear a) :=
    ((State.sectionsTrackCleared_outside a _).mono (by simp)).trans ((State.headsClear_outside a _).mono (by simp))
  exact ⟨w, hw, hwn.trans hh, (State.hold?_of_outside hrest (by decide) n).trans hend⟩

/-! ### A track drops under a hold (R53, R55, R65) -/

/-- A track that drops from CLEAR, with its notice, before the other units take it (R4). -/
def State.dropped (tm : Time) (a : Nat) (s : State) : State :=
  ((s.withRelay tm a false).setOccupied a).emit .trackOccupied a []

theorem State.dropped_outside (tm : Time) (a : Nat) (s : State) :
    Outside [.now, .inputs, .tracks, .emitted] s (s.dropped tm a) :=
  ((s.withRelay_outside tm a false).mono (by simp)).trans (by simp [State.dropped, State.setOccupied])

theorem State.dropped_clear {a : Nat} (ha : isTrack a = true) (tm : Time) (s : State) : (s.dropped tm a).clear a = false := by
  have hrange : 1 ≤ a ∧ a ≤ 16 := by simpa [isTrack] using ha
  have htrack : (s.dropped tm a).track a = ((s.withRelay tm a false).setOccupied a).track a := rfl
  rw [State.clear, htrack, State.setOccupied, State.track_putTrack, if_pos ⟨rfl, hrange⟩]
  rfl

theorem exec_trackRelayDrop_clear {tm : Time} {a : Nat} (hs : s.working) (ha : isTrack a = true) (hfit : s.conf.fitted a = true)
    (hpick : s.relayPicked a = true) (hclear : s.clear a = true) : exec (.trackRelayDrop tm a) s =
      .next (((s.dropped tm a).becomesOccupied a).attributeRunning a).settle.close := by
  obtain ⟨hfilter, hmark⟩ : (s.track a).filter = .clear ∧ (s.track a).marked = false := by
    simpa [State.clear, Track.effectivelyClear] using hclear
  have hfilters : (s.live && s.conf.fitted a) = true := by rw [hs.2, hfit]; rfl
  rw [exec_trackRelayDrop hs.1.1 ha hpick, State.relayDrops_clear (s := s.withRelay tm a false) hfilters hfilter,
    State.occupationStarts_unmarked (s := s.withRelay tm a false) hmark]
  rfl

/-- The examination reaches no hold of a signal that is at rest. -/
theorem State.settle_hold?_unraised (k : Outside ps s v) (hp : .levers ∉ ps) (hu : s.unraised n) :
    v.settle.hold? n = v.hold? n :=
  State.settle_hold? (LeverPhase.movable_eq_false.2 (State.unraised_of_lever (State.lever_of_outside k hp n) hu))

/-- The drop of effectively clear track `a` from `s` to `u`, as hold `n` takes it in `w`; where it is the only hold, the
track's notice alone is drafted before it, and what it drafts comes next. -/
structure DropsUnder (s w u : State) (a n : Nat) (h : Hold) : Prop where
  frame : Outside [.now, .inputs, .tracks, .holds, .emitted] s w
  held : w.hold? n = some h
  occupied : w.clear a = false
  ends : u.hold? n = (w.holdTrackOccupied a n).hold? n
  before : s.holds = [h] → w.drafts = [(.trackOccupied, a)]
  after : s.holds = [h] → ∀ l, (∀ k ∈ l, k.1 ≠ .holdRemoved) → l <+: (w.holdTrackOccupied a n).drafts → s.announcesFirst u l

theorem trackDrop_dropsUnder {tm : Time} {a : Nat} (hs : s.working) (hk : s.HoldsKept) (ha : isTrack a = true)
    (hfit : s.conf.fitted a = true) (hpick : s.relayPicked a = true) (hclear : s.clear a = true)
    (hh : s.hold? n = some h) (hu : s.unraised n) :
    ∃ w u, exec (.trackRelayDrop tm a) s = .next u ∧ DropsUnder s w u a n h := by
  have hexec := exec_trackRelayDrop_clear (tm := tm) hs ha hfit hpick hclear
  have hdropped := s.dropped_outside tm a
  have hdrafts : (s.dropped tm a).drafts = [(.trackOccupied, a)] := by
    rw [State.dropped, State.drafts_emit]
    exact congrArg (· ++ _) (State.drafts_of_emitted (State.started_of_working hs).2.1)
  have hoccupied := s.dropped_clear ha tm
  generalize s.dropped tm a = x at *
  have hholds : x.holds = s.holds := hdropped .holds (by decide)
  obtain ⟨w, hw, hwn, hend, halone⟩ := State.becomesOccupied_hold? (hholds ▸ hk.signals_nodup)
    ((State.hold?_of_outside hdropped (by decide) n).trans hh) a
  have hrecords := State.attributeRunning_outside a (x.becomesOccupied a)
  have hall : Outside [.now, .inputs, .tracks, .holds, .sections, .register, .alerts, .sounder, .emitted] s
      ((x.becomesOccupied a).attributeRunning a) :=
    (hdropped.mono (by simp)).trans (((State.becomesOccupied_outside a x).mono (by simp)).trans (hrecords.mono (by simp)))
  have hclose := State.close_outside ((x.becomesOccupied a).attributeRunning a).settle
  refine ⟨w, _, hexec, (hdropped.mono (by simp)).trans (hw.mono (by simp)), hwn, ?_, ?_, fun hone => ?_, fun hone l hl hp => ?_⟩
  · rw [State.clear, State.track, hw.tracks_eq (by decide)]
    exact hoccupied
  · exact (State.hold?_of_outside hclose (by decide) n).trans ((State.settle_hold?_unraised hall (by decide) hu).trans
      ((State.hold?_of_outside hrecords (by decide) n).trans hend))
  · rw [(halone (hholds.trans hone)).1]
    exact hdrafts
  · have hsettled := (hall.mono (ps := [.now, .inputs, .tracks, .holds, .sections, .register, .alerts, .sounder, .emitted,
      .levers, .choices]) (by simp)).trans ((State.settle_outside _).mono (by simp))
    exact State.announcesFirst_of_outside hsettled (by decide) (State.started_of_working hs).2.2
      (State.prefix_settle hl (hp.trans ((halone (hholds.trans hone)).2.attributeRunning a).drafts))

/-- An occupation out of order, with its notice behind that of the track (R55). -/
theorem State.stageDone_drafts {r : Hold × Bool} (hh : s.hold? n = some h) (hr : r.1.signal = h.signal)
    (hirregular : r.2 = true) (a i : Nat) : (s.stageDone a i r).drafts = s.drafts ++ [(.holdSequenceIrregular, n)] := by
  rw [State.stageDone, hirregular, ← State.hold?_signal hh, ← hr]
  exact State.drafts_emit ..

/-- The approach track that becomes occupied ends the time release and keeps the hold: neither test passes (R58, R65). -/
theorem State.approachOccupied_hold? {a : Nat} (hh : s.hold? n = some h) (happroach : s.approachOf h = some a)
    (hclear : s.clear a = false) (hw : ∀ g ∈ h.stages, g = .waiting) :
    ((s.cancelTimeRelease h .approachOccupied).testRelease n).hold? n = some h.backToPrior := by
  have hsignal := State.hold?_signal hh
  have hback : (s.cancelTimeRelease h .approachOccupied).hold? n = some h.backToPrior :=
    (State.putHold_hold? (k := h.backToPrior) hh hsignal n).trans (if_pos rfl)
  rw [State.testRelease_stays hback, hback]
  rintro ⟨-, -, hlast | ⟨-, hall⟩⟩
  · cases hw _ (List.mem_of_getLast? hlast)
  · exact absurd (hclear.symm.trans (hall a happroach)) (by simp)

section Drop

variable {a i : Nat}

theorem DropsUnder.holdingOf (k : DropsUnder s w u a n h) : w.holdingOf h = s.holdingOf h := by
  rw [State.holdingOf, k.frame.conf_eq (by decide)]; rfl

theorem DropsUnder.approachOf (k : DropsUnder s w u a n h) : w.approachOf h = s.approachOf h := by
  rw [State.approachOf, k.frame.conf_eq (by decide)]; rfl

theorem DropsUnder.stageDone (k : DropsUnder s w u a n h) (hnd : (s.holdingOf h).Nodup) (hi : (s.holdingOf h)[i]? = some a) :
    w.holdTrackOccupied a n = w.stageDone a i (h.trackOccupied i) := by
  rw [← k.holdingOf] at hnd hi
  exact State.holdTrackOccupied_at k.held hnd hi

/-- A holding track takes the stages of its hold on (R53). -/
theorem DropsUnder.stages (k : DropsUnder s w u a n h) (hnd : (s.holdingOf h).Nodup) (hi : (s.holdingOf h)[i]? = some a) :
    u.hold? n = some (h.trackOccupied i).1 := by
  rw [k.ends, k.stageDone hnd hi, State.stageDone_hold? k.held (h.trackOccupied_signal i), if_pos rfl]

/-- An irregularity is announced behind the track (R55). -/
theorem DropsUnder.irregular {g : Hold} (k : DropsUnder s w u a n h) (hnd : (s.holdingOf h).Nodup)
    (hi : (s.holdingOf h)[i]? = some a) (hg : h.trackOccupied i = (g, true)) : u.hold? n = some g ∧
      (s.holds = [h] → s.announcesFirst u [(.trackOccupied, a), (.holdSequenceIrregular, n)]) := by
  refine ⟨by rw [k.stages hnd hi, hg], fun hone => k.after hone _ (by simp) ?_⟩
  rw [k.stageDone hnd hi, State.stageDone_drafts k.held (h.trackOccupied_signal i) (by rw [hg]), k.before hone]
  exact List.prefix_rfl

/-- The approach track ends a time release before any stage (R65). -/
theorem DropsUnder.approach (k : DropsUnder s w u a n h) (ha : a ∉ s.holdingOf h) (happ : s.approachOf h = some a)
    (hr : h.releasing = true) (hw : ∀ g ∈ h.stages, g = .waiting) : u.hold? n = some h.backToPrior ∧
      (s.holds = [h] → s.announcesFirst u [(.trackOccupied, a), (.holdCancelled, n)]) := by
  rw [← k.holdingOf] at ha
  rw [← k.approachOf] at happ
  have htaken : w.holdTrackOccupied a n = (w.cancelTimeRelease h .approachOccupied).testRelease n :=
    (State.holdTrackOccupied_off k.held ha).trans (if_pos ⟨happ, hr, hw⟩)
  refine ⟨by rw [k.ends, htaken, State.approachOccupied_hold? k.held happ k.occupied hw], fun hone => ?_⟩
  have hcancelled : (w.cancelTimeRelease h .approachOccupied).drafts = [(.trackOccupied, a), (.holdCancelled, n)] := by
    rw [State.cancelTimeRelease, State.drafts_emit, State.hold?_signal k.held]
    exact congrArg (· ++ _) (k.before hone)
  refine k.after hone _ (by simp) ?_
  rw [htaken, ← hcancelled]
  exact ((State.Appends.refl _).testRelease n).drafts

/-- Any other track, and the approach track in any other case, leaves the hold. -/
theorem DropsUnder.stays (k : DropsUnder s w u a n h) (ha : a ∉ s.holdingOf h)
    (hno : ¬ (s.approachOf h = some a ∧ h.releasing = true ∧ ∀ g ∈ h.stages, g = .waiting)) : u.hold? n = some h := by
  rw [← k.holdingOf] at ha
  rw [← k.approachOf] at hno
  rw [k.ends, State.holdTrackOccupied_off k.held ha, if_neg hno, k.held]

end Drop

/-! ### A track clears under a hold (R54, R55, R57, R58) -/

/-- The part with a track as a clearing leaves it and the notice of that, before the other units take it (R14). -/
def State.clearing (tm : Time) (a : Nat) (k : Track) (e : NoticeEvent) (x : List Byte) (s : State) : State :=
  ((s.advance tm).putTrack a k).emit e a x

section Clearing

variable {tm : Time} {a : Nat} {k : Track} {e : NoticeEvent} {x : List Byte}

theorem State.clearing_outside : Outside [.now, .tracks, .emitted] s (s.clearing tm a k e x) := by simp [State.clearing]

theorem State.clearing_clear (ha : isTrack a = true) (hk : k.effectivelyClear = true) (b : Nat) :
    (s.clearing tm a k e x).clear b = (decide (b = a) || s.clear b) := by
  have hrange : 1 ≤ a ∧ a ≤ 16 := by simpa [isTrack] using ha
  have htrack : (s.clearing tm a k e x).track b = ((s.advance tm).putTrack a k).track b := rfl
  rw [State.clear, htrack, State.track_putTrack]
  by_cases hb : b = a
  · rw [if_pos ⟨hb, hrange⟩, hk, decide_eq_true hb, Bool.true_or]
  · rw [if_neg fun h => hb h.1, decide_eq_false hb, Bool.false_or]
    rfl

/-- The examination leaves the hold of a signal at rest as the clearing does. -/
theorem State.clearing_settled (hu : s.unraised n) :
    ((s.clearing tm a k e x).becomesClear a).settle.hold? n = ((s.clearing tm a k e x).becomesClear a).hold? n :=
  State.settle_hold?_unraised ((State.clearing_outside.mono (ps := [.now, .tracks, .holds, .sections, .register, .emitted])
    (by simp)).trans ((State.becomesClear_outside a _).mono (by simp))) (by decide) hu

end Clearing

/-- A command that makes a track effectively clear: the part as the other units take it, and the holds they leave. -/
theorem State.becomesClearBy_event {tm : Time} {a : Nat} {c : Instr} (hc : s.becomesClearBy tm a c) (hu : s.unraised n) :
    ∃ k e x u, exec c s = .next u ∧ k.effectivelyClear = true ∧
      u.hold? n = ((s.clearing tm a k e x).becomesClear a).hold? n := by
  obtain ⟨hs, ha, hfit, hc⟩ := hc
  rcases hc with ⟨rfl, hmark, hpicking, e, ht, he⟩ | ⟨hr, hkey, hfilter, hmark, tag, b, rfl, rfl⟩
  · have hexec := exec_pickUpTimerExpiry (tm := tm) (n := a) hs.1.1
    have hunmarked : ¬ ((s.advance tm).track a).marked = true := by
      rw [show ((s.advance tm).track a).marked = false from hmark]
      simp
    rw [State.pickUpExpires_eq (s := s.advance tm) ((State.filtering_iff a).2 ⟨hs.2, hfit⟩) hpicking ht he,
      if_neg hunmarked] at hexec
    refine ⟨{ s.track a with filter := .clear, timer := none, flickers := 0 }, .trackClear, [], _, hexec, ?_, ?_⟩
    · simpa [Track.effectivelyClear, Track.marked] using hmark
    · exact (State.hold?_of_outside (State.close_outside _) (by decide) n).trans (State.clearing_settled hu)
  · obtain ⟨x, hx⟩ := State.trackRestore_clear (s := s.advance tm) hfilter
    rw [if_pos (show ((s.advance tm).track b.toNat).marked = true from hmark)] at hx
    refine ⟨{ s.track b.toNat with failed := false, suspect := false, flickers := 0 }, .trackRestored, x, _,
      congrArg Host.Outcome.next (State.request_owned (r := .trackRestore b) hr (State.requestFail_trackRestore hkey ha) hx),
      ?_, ?_⟩
    · simpa [Track.effectivelyClear, Track.marked] using hfilter
    · exact (State.answered_hold? _ n _).trans (State.clearing_settled hu)

/-- The sequential test of a hold whose stage has moved (R57). -/
theorem State.stageTested_hold? {r : Hold × Bool} (hh : s.hold? n = some h) (hr : r.1.signal = h.signal) (a i : Nat) :
    ((s.stageDone a i r).testSequential n).hold? n =
      if r.1.testable = true ∧ s.standing n = .normal ∧ r.1.stages.getLast? = some .cleared then none else some r.1 := by
  have hstand : (s.stageDone a i r).standing n = s.standing n := by
    unfold State.stageDone; dsimp only
    split <;> rfl
  rw [← hstand]
  exact State.testSequential_hold? ((State.stageDone_hold? hh hr a i n).trans (if_pos rfl))

theorem getLast?_set_last {α : Type} {l : List α} {i : Nat} (hi : i + 1 = l.length) (g : α) :
    (l.set i g).getLast? = some g := by
  rw [List.getLast?_eq_getElem?, List.length_set, ← hi, Nat.add_sub_cancel, List.getElem?_set_self (by omega)]

theorem getLast?_set_before {α : Type} {l : List α} {i : Nat} (hi : i + 1 < l.length) (g : α) :
    (l.set i g).getLast? = l.getLast? := by
  rw [List.getLast?_eq_getElem?, List.length_set, List.getElem?_set_ne (by omega), List.getLast?_eq_getElem?]

/-- A test that one of its three conditions fails. -/
theorem not_tested {b : Bool} {p q : Prop} (h : b = false ∨ ¬ p ∨ ¬ q) : ¬ (b = true ∧ p ∧ q) := by
  rintro ⟨rfl, hp, hq⟩
  simp [hp, hq] at h

/-- A clearing of track `a` from `s` to `u`, as hold `n` takes it in `w`. -/
structure ClearsUnder (s w u : State) (a n : Nat) (h : Hold) : Prop where
  frame : Outside [.now, .tracks, .holds, .emitted] s w
  held : w.hold? n = some h
  clear : ∀ b, w.clear b = (decide (b = a) || s.clear b)
  ends : u.hold? n = (w.holdTrackCleared a n).hold? n

theorem State.becomesClearBy_clearsUnder {tm : Time} {a : Nat} {c : Instr} (hc : s.becomesClearBy tm a c) (hk : s.HoldsKept)
    (hh : s.hold? n = some h) (hu : s.unraised n) : ∃ w u, exec c s = .next u ∧ ClearsUnder s w u a n h := by
  obtain ⟨k, e, x, u, hexec, heff, hend⟩ := State.becomesClearBy_event hc hu
  have hx := State.clearing_outside (s := s) (tm := tm) (a := a) (k := k) (e := e) (x := x)
  have hclear := State.clearing_clear (s := s) (tm := tm) (e := e) (x := x) hc.2.1 heff
  generalize s.clearing tm a k e x = x at *
  have hholds : x.holds = s.holds := hx .holds (by decide)
  obtain ⟨w, hw, hwn, hmade⟩ := State.becomesClear_hold? (hholds ▸ hk.signals_nodup)
    ((State.hold?_of_outside hx (by decide) n).trans hh) a
  refine ⟨w, u, hexec, (hx.mono (by simp)).trans (hw.mono (by simp)), hwn, fun b => ?_, hend.trans hmade⟩
  rw [State.clear, State.track, hw.tracks_eq (by decide)]
  exact hclear b

section Clear

variable {a i : Nat}

theorem ClearsUnder.holdingOf (k : ClearsUnder s w u a n h) : w.holdingOf h = s.holdingOf h := by
  rw [State.holdingOf, k.frame.conf_eq (by decide)]; rfl

theorem ClearsUnder.approachOf (k : ClearsUnder s w u a n h) : w.approachOf h = s.approachOf h := by
  rw [State.approachOf, k.frame.conf_eq (by decide)]; rfl

theorem ClearsUnder.standing (k : ClearsUnder s w u a n h) : w.standing n = s.standing n := by
  rw [State.standing, State.lever_of_outside k.frame (by decide)]; rfl

/-- A holding track takes the stages of its hold on, and the sequential test follows (R54, R57). -/
theorem ClearsUnder.stages {r : Hold} {b : Bool} (k : ClearsUnder s w u a n h) (hnd : (s.holdingOf h).Nodup)
    (hi : (s.holdingOf h)[i]? = some a)
    (hr : h.trackCleared i (((s.holdingOf h)[i + 1]?).any fun b => !s.clear b) = (r, b)) : u.hold? n =
      if r.testable = true ∧ s.standing n = .normal ∧ r.stages.getLast? = some .cleared then none else some r := by
  have hnext : (((w.holdingOf h)[i + 1]?).any fun b => !w.clear b) = ((s.holdingOf h)[i + 1]?).any fun b => !s.clear b := by
    rw [k.holdingOf]
    cases hb : (s.holdingOf h)[i + 1]? with
    | none => rfl
    | some b =>
      have hne : b ≠ a := by
        rintro rfl
        have := (List.getElem?_inj (List.getElem?_eq_some_iff.1 hi).1 hnd).1 (hi.trans hb.symm)
        omega
      simp [k.clear, hne]
  have hsignal := h.trackCleared_signal i (((s.holdingOf h)[i + 1]?).any fun b => !s.clear b)
  rw [k.ends, State.holdTrackCleared_at k.held (k.holdingOf.symm ▸ hnd) (k.holdingOf.symm ▸ hi), hnext,
    State.stageTested_hold? k.held hsignal, k.standing, hr]

/-- The approach track has the hold tested for its release (R58). -/
theorem ClearsUnder.approach (k : ClearsUnder s w u a n h) (ha : a ∉ s.holdingOf h) (happ : s.approachOf h = some a) :
    u.hold? n = if h.testable = true ∧ s.standing n = .normal ∧ ∀ g ∈ h.stages, g = .waiting then none else some h := by
  rw [← k.holdingOf] at ha
  rw [← k.approachOf] at happ
  have hclear : w.approachClear h = true := by simp [State.approachClear, happ, k.clear]
  rw [k.ends, State.holdTrackCleared_off k.held ha, if_pos happ, State.testApproach_hold? k.held, k.standing]
  simp only [hclear, and_true]

theorem ClearsUnder.stays (k : ClearsUnder s w u a n h) (ha : a ∉ s.holdingOf h) (hno : s.approachOf h ≠ some a) :
    u.hold? n = some h := by
  rw [← k.holdingOf] at ha
  rw [← k.approachOf] at hno
  rw [k.ends, State.holdTrackCleared_off k.held ha, if_neg hno, k.held]

end Clear

/-- Settles O36: a track that drops or clears reaches each hold on its own, so what it makes of hold `n` is what the stage
rules and the release tests make of that hold alone. -/
theorem stagesFollowTheTrain : Obligations.StagesFollowTheTrain := by
  refine ⟨fun s tm a n i h hs hk ha hfit hpick hclear hh hu hnd => ?_, fun s tm a n i h c hc hk hh hu hnd => ?_⟩
  · obtain ⟨w, u, hexec, k⟩ := trackDrop_dropsUnder (tm := tm) hs hk ha hfit hpick hclear hh hu
    refine ⟨u, hexec, fun hi => ⟨fun hw ho => ?_, fun hw ho => ?_, fun hc => ?_⟩, fun hno happ => ⟨k.approach hno happ, ?_⟩,
      fun hno happ => k.stays hno fun e => happ e.1⟩
    · rw [k.stages hnd hi, Hold.trackOccupied_inOrder hw ho]
    · exact k.irregular hnd hi (Hold.trackOccupied_outOfOrder hw ho)
    · exact k.irregular hnd hi (Hold.trackOccupied_again hc)
    · rintro (hr | ⟨g, hg, hne⟩)
      · exact k.stays hno fun e => by simp [hr] at e
      · exact k.stays hno fun e => hne (e.2.2 g hg)
  · obtain ⟨w, u, hexec, k⟩ := State.becomesClearBy_clearsUnder hc hk hh hu
    have hbefore {b : Nat} (hb : (s.holdingOf h)[i + 1]? = some b) : i + 1 < h.stages.length := by
      rw [(hk.kept hh).stages]
      exact (List.getElem?_eq_some_iff.1 hb).1
    refine ⟨u, hexec, fun hi ho => ⟨fun hl ht hn => ?_, fun hl hno => ?_, fun b hb hc hno => ?_, fun b hb hc => ?_⟩,
      fun hi hw hno => ?_, fun hno happ => ⟨fun ht hn hw => ?_, fun hstays => ?_⟩, k.stays⟩
    · rw [k.stages hnd hi (Hold.trackCleared_inOrder ho (.inl hl))]
      exact if_pos ⟨ht, hn, getLast?_set_last hl _⟩
    · rw [k.stages hnd hi (Hold.trackCleared_inOrder ho (.inl hl))]
      exact if_neg (not_tested (hno.imp_right .inl))
    · rw [k.stages hnd hi (Hold.trackCleared_inOrder ho (.inr (by simp [hb, hc]))), getLast?_set_before (hbefore hb)]
      exact if_neg (not_tested hno)
    · have hnext : ((s.holdingOf h)[i + 1]?).any (fun b => !s.clear b) = false := by simp [hb, hc]
      rw [k.stages hnd hi (hnext ▸ Hold.trackCleared_outOfOrder ho (hbefore hb).ne)]
      exact if_neg (not_tested (.inl h.afterIrregularity_testable))
    · rw [k.stages hnd hi (Hold.trackCleared_waiting hw _)]
      exact if_neg (not_tested hno)
    · rw [k.approach hno happ]
      exact if_pos ⟨ht, hn, hw⟩
    · rw [k.approach hno happ]
      refine if_neg (not_tested (hstays.imp_right (Or.imp_right ?_)))
      rintro ⟨g, hg, hne⟩ hall
      exact hne (hall g hg)

end Sys2Proof.Machine

namespace Sys2Proof.Machine

variable {ps : List Part} {s t u v w x : State} {h : Hold} {n : Nat}

/-! ### What a signal makes of its hold (R51, R52, R56) -/

/-- The release tests over a signal that stands normal (R57, R58). -/
theorem State.testRelease_normal (hh : s.hold? n = some h) (hn : s.standing n = .normal) :
    (h.testable = true → s.releasable h → (s.testRelease n).hold? n = none) ∧
    (h.testable = false ∨ ¬ s.releasable h → (s.testRelease n).hold? n = some h) := by
  refine ⟨fun ht hr => State.testRelease_removes hh ht hn hr, fun hno => ?_⟩
  rw [State.testRelease_stays hh (not_tested (hno.imp_right .inr)), hh]

/-- The state that an ACTIVE hold is bound to (R56). -/
def Hold.boundState (h : Hold) : HoldState := if h.irregular then .irregular else .holding

/-- A hold as it is bound (R56). -/
def Hold.bound (h : Hold) : Hold := { h with state := h.boundState }

theorem Hold.bound_of_irregular (hi : h.irregular = true) : h.bound = { h with state := .irregular } := by
  simp [Hold.bound, Hold.boundState, hi]

theorem Hold.bound_of_regular (hi : h.irregular = false) : h.bound = { h with state := .holding } := by
  simp [Hold.bound, Hold.boundState, hi]

/-- A part with the hold bound and its notice, before the release tests (R56). -/
def State.binding (n : Nat) (h : Hold) (s : State) : State :=
  (s.putHold h.bound).emit .holdBound n (b1 h.boundState.ord)

theorem State.signalStandsNormal_active (hh : s.hold? n = some h) (ha : h.state = .active) :
    s.signalStandsNormal n = (s.binding n h).testRelease n := by
  unfold State.signalStandsNormal
  rw [hh]; dsimp only
  rw [if_pos ha]
  rfl

theorem State.signalStandsNormal_bound (hh : s.hold? n = some h) (ha : h.state ≠ .active) :
    s.signalStandsNormal n = s.testRelease n := by
  unfold State.signalStandsNormal
  rw [hh]; dsimp only
  rw [if_neg ha]

theorem State.binding_outside (n : Nat) (h : Hold) (s : State) : Outside [.holds, .emitted] s (s.binding n h) := by
  simp [State.binding]

theorem State.binding_hold? (hh : s.hold? n = some h) : (s.binding n h).hold? n = some h.bound := by
  have hsignal := State.hold?_signal hh
  exact (State.putHold_hold? (k := h.bound) hh hsignal n).trans (if_pos rfl)

/-- An ACTIVE hold bound at a signal that stands normal goes at once where the tests pass, unless it is IRREGULAR. -/
theorem State.bound_hold? (hh : s.hold? n = some h) (ha : h.state = .active) (hn : s.standing n = .normal) :
    (h.irregular = true → (s.signalStandsNormal n).hold? n = some { h with state := .irregular }) ∧
    (h.irregular = false → s.releasable h → (s.signalStandsNormal n).hold? n = none) ∧
    (h.irregular = false → ¬ s.releasable h → (s.signalStandsNormal n).hold? n = some { h with state := .holding }) := by
  have hframe := s.binding_outside n h
  have hstand : (s.binding n h).standing n = .normal :=
    (congrArg (fun l : Lever => l.phase.standing) (State.lever_of_outside hframe (by decide) n)).trans hn
  have hreleasable : (s.binding n h).releasable h.bound ↔ s.releasable h :=
    State.releasable_of_outside hframe (by decide) rfl rfl
  obtain ⟨hgoes, hstays⟩ := State.testRelease_normal (State.binding_hold? hh) hstand
  rw [hreleasable] at hgoes hstays
  rw [State.signalStandsNormal_active hh ha]
  refine ⟨fun hi => ?_, fun hi hr => hgoes (by simp [Hold.bound_of_regular hi, Hold.testable]) hr, fun hi hr => ?_⟩
  · rw [hstays (.inl (by simp [Hold.bound_of_irregular hi, Hold.testable])), Hold.bound_of_irregular hi]
  · rw [hstays (.inr hr), Hold.bound_of_regular hi]

/-- A part whose hold loses a time release to the signal that reverses (R51). -/
def State.reversing (h : Hold) (s : State) : State := if h.releasing then s.cancelTimeRelease h .signalReversed else s

theorem State.signalArrivesReverse_held {d : HoldDef} (hd : s.conf.holdDef n = some d) (hi : s.invalid = false)
    (hh : s.hold? n = some h) :
    s.signalArrivesReverse n = ((s.reversing h).putHold h.reactivated).emit .holdReactivated n [] := by
  unfold State.signalArrivesReverse
  rw [hd]; dsimp only
  rw [hi, if_neg (by simp), hh]
  rfl

theorem State.reversing_hold? (hh : s.hold? n = some h) : ∃ k, (s.reversing h).hold? n = some k ∧
    ∀ m, m ≠ n → (s.reversing h).hold? m = s.hold? m := by
  have hsignal := State.hold?_signal hh
  unfold State.reversing
  split
  · have hput (m : Nat) := State.putHold_hold? (k := h.backToPrior) hh hsignal m
    exact ⟨_, (hput n).trans (if_pos rfl), fun m hm => (hput m).trans (if_neg hm)⟩
  · exact ⟨h, hh, fun _ _ => rfl⟩

/-- An arrival at REVERSE leaves the hold ACTIVE with its stages, and the holds of other signals as they were (R51). -/
theorem State.reactivated_hold? {d : HoldDef} (hd : s.conf.holdDef n = some d) (hi : s.invalid = false)
    (hh : s.hold? n = some h) (m : Nat) :
    (s.signalArrivesReverse n).hold? m = if m = n then some h.reactivated else s.hold? m := by
  obtain ⟨k, hk, hothers⟩ := State.reversing_hold? hh
  have hsignal := State.hold?_signal hh
  rw [State.signalArrivesReverse_held hd hi hh]
  refine (State.putHold_hold? (k := h.reactivated) hk hsignal m).trans ?_
  split
  · rfl
  · next hm => exact hothers m hm

theorem State.reactivated_drafts {d : HoldDef} (hd : s.conf.holdDef n = some d) (hi : s.invalid = false)
    (hh : s.hold? n = some h) : (s.signalArrivesReverse n).drafts = s.drafts ++
      (if h.releasing then [(.holdCancelled, n)] else []) ++ [(.holdReactivated, n)] := by
  have hreversing : (s.reversing h).drafts = s.drafts ++ if h.releasing then [(.holdCancelled, n)] else [] := by
    unfold State.reversing
    split
    · rw [State.cancelTimeRelease, State.drafts_emit, State.hold?_signal hh]; rfl
    · exact (List.append_nil _).symm
  rw [State.signalArrivesReverse_held hd hi hh, State.drafts_emit, ← hreversing]
  rfl

theorem State.signalStandsReverse_hold? (hh : s.hold? n = some h) (m : Nat) :
    (s.signalStandsReverse n).hold? m = if m = n then some { h with reversal := true } else s.hold? m := by
  have hsignal := State.hold?_signal hh
  unfold State.signalStandsReverse
  rw [hh]
  exact State.putHold_hold? (k := { h with reversal := true }) hh hsignal m

/-! ### A signal comes to stand (R23, R35, R38) -/

/-- The end of a movement of lever `n` from `s` to `u` on a side, with notice `e`: the part `x` as the Route Hold Unit takes
the new standing, and `v` as it goes to the examination. -/
structure ComesToStand (s x v u : State) (n : Nat) (side : Side) (e : NoticeEvent) : Prop where
  frame : Outside [.now, .inputs, .levers, .emitted] s x
  emitted : x.emitted = [⟨e, n, []⟩]
  stands : x.standing n = (seatOf side).standing
  normal : side = .normal → v = x.signalStandsNormal n
  arrives : side = .reverse → e = .leverArrived → v = (x.signalArrivesReverse n).consumeRelease n
  reverse : side = .reverse → e ≠ .leverArrived → v = x.signalStandsReverse n
  made : Outside [.now, .inputs, .levers, .holds, .sections, .emitted] s v
  rests : ∀ m, m = n ∨ s.unraised m → (v.lever m).phase.movable = false
  ends : u = v.settle.close
  event : e ≠ .holdRemoved

theorem State.Seated.comesToStand {side : Side} {b : Bool} {e : NoticeEvent} (hw : s.Seated n side b w)
    (hn : isLever n = true) (hp : (s.lever n).phase = .travel ∨ (s.lever n).phase = .fault) (he : e ≠ .holdRemoved) :
    ∃ x v, ComesToStand s x v
      (w.moveLever n ((w.lever n).atRest (seatOf side)) e [] (decide (e = .leverArrived))).settle.close n side e := by
  have hold : w.standing n = .nowhere := by
    rw [State.standing, hw.own]
    rcases hp with hp | hp <;> rw [hp] <;> rfl
  have hseat : seatOf side ≠ .travel ∧ (seatOf side).movable = false := by cases side <;> decide
  obtain ⟨hown, hothers⟩ := w.moveLever_levers (l := (w.lever n).atRest (seatOf side)) e []
    (decide (e = .leverArrived)) hn hseat.1
  have hemitted : w.emitted = [] := List.map_eq_nil_iff.1 hw.drafts
  have hnew : ((w.putLever n ((w.lever n).atRest (seatOf side))).emit e n []).standing n = (seatOf side).standing := by
    show ((w.putLever n ((w.lever n).atRest (seatOf side))).lever n).phase.standing = _
    rw [State.lever_putLever, if_pos ⟨rfl, isLever_range hn⟩]
    rfl
  have hpresent : w.moveLever n ((w.lever n).atRest (seatOf side)) e [] (decide (e = .leverArrived)) =
      ((w.putLever n ((w.lever n).atRest (seatOf side))).emit e n []).present n .nowhere (decide (e = .leverArrived)) := by
    rw [State.moveLever, hold]
  refine ⟨(w.putLever n ((w.lever n).atRest (seatOf side))).emit e n [], _, ?_, ?_, hnew, fun hs => ?_, fun hs hev => ?_,
    fun hs hev => ?_, ?_, fun m hm => ?_, rfl, he⟩
  · exact (hw.outside.mono (by simp)).trans (by simp)
  · exact congrArg (· ++ [(⟨e, n, []⟩ : Draft)]) hemitted
  · rw [hpresent, State.present, hnew, hs]; rfl
  · rw [hpresent, State.present, hnew, hs, hev]; rfl
  · rw [hpresent, State.present, hnew, hs, decide_eq_false hev]; rfl
  · simpa using hw.outside.mono (by simp)
  · by_cases e : m = n
    · rw [e, hown]
      exact hseat.2
    · have hu := LeverPhase.movable_eq_false.2 (hm.resolve_left e)
      have hmove := hothers m e
      rw [hw.others m e] at hmove
      rcases hmove with h | ⟨-, h⟩ <;> rw [h] <;> exact hu

/-- Each change of its inputs that seats a signal from TRAVEL or FAULT has it come to stand, with the notice of R35 or R38. -/
theorem State.seats_comesToStand {tm : Time} {side : Side} {c : Instr} (hs : s.started) (hn : isLever n = true)
    (hseats : s.seats tm n side c) (hp : (s.lever n).phase = .travel ∨ (s.lever n).phase = .fault) :
    ∃ x v u, exec c s = .next u ∧ ComesToStand s x v u n side
      (if (s.lever n).phase = .travel then travelOutcome (s.lever n).origin (seatOf side) else .leverFound) := by
  obtain ⟨w, hexec, hw⟩ := State.seats_exec hs hn hseats hp
  have hphase : (w.lever n).phase = (s.lever n).phase := by rw [hw.own]
  have horigin : (w.lever n).origin = (s.lever n).origin := by rw [hw.own]
  rcases hp with ht | hf
  · rw [State.tryEnd_travel hw.inputs (hphase.trans ht), horigin] at hexec
    have hsent : travelOutcome (s.lever n).origin (seatOf side) ≠ .holdRemoved := by
      cases (s.lever n).origin <;> cases side <;> decide
    obtain ⟨x, v, k⟩ := hw.comesToStand hn (.inl ht) hsent
    rw [if_pos ht]
    exact ⟨x, v, _, hexec, k⟩
  · rw [State.tryEnd_fault hw.inputs (hphase.trans hf)] at hexec
    obtain ⟨x, v, k⟩ := hw.comesToStand hn (.inr hf) (e := .leverFound) (by decide)
    rw [if_neg (by rw [hf]; decide)]
    exact ⟨x, v, _, hexec, k⟩

section Stand

variable {side : Side} {e : NoticeEvent}

theorem ComesToStand.hold? (k : ComesToStand s x v u n side e) {m : Nat} (hm : m = n ∨ s.unraised m) :
    u.hold? m = v.hold? m := by
  rw [k.ends, State.hold?_of_outside (State.close_outside _) (by decide), State.settle_hold? (k.rests m hm)]

theorem ComesToStand.drafts (k : ComesToStand s x v u n side e) : x.drafts = [(e, n)] := by
  rw [State.drafts, k.emitted]; rfl

theorem ComesToStand.held (k : ComesToStand s x v u n side e) (hh : s.hold? n = some h) : x.hold? n = some h :=
  (State.hold?_of_outside k.frame (by decide) n).trans hh

theorem ComesToStand.releasable (k : ComesToStand s x v u n side e) : x.releasable h ↔ s.releasable h :=
  State.releasable_of_outside k.frame (by decide) rfl rfl

theorem ComesToStand.announcesFirst {l : List (NoticeEvent × Nat)} (k : ComesToStand s x v u n side e)
    (hm : s.control.mode ≠ .start) (hl : ∀ d ∈ l, d.1 ≠ .holdRemoved) (hp : l <+: v.drafts) : s.announcesFirst u l := by
  rw [k.ends]
  have hsettled := (k.made.mono (ps := [.now, .inputs, .levers, .holds, .sections, .choices, .emitted]) (by simp)).trans
    ((State.settle_outside v).mono (by simp))
  exact State.announcesFirst_of_outside hsettled (by decide) hm (State.prefix_settle hl hp)

/-- An arrival finds the definition that the hold was made by. -/
theorem ComesToStand.defined (k : ComesToStand s x v u n side e) (hk : s.HoldsKept) (hh : s.hold? n = some h) :
    (∃ d, x.conf.holdDef n = some d) ∧ x.invalid = false := by
  have hvalid : s.invalid ≠ true := fun hi => by
    have hnone := (State.holdsKept_iff.1 hk).2.2 (.inr hi)
    rw [State.hold?, hnone] at hh
    cases hh
  have hdefined := (hk.kept hh).defined
  rw [State.hold?_signal hh] at hdefined
  rw [k.frame.conf_eq (by decide), k.frame.invalid_eq (by decide)]
  exact ⟨Option.isSome_iff_exists.1 hdefined, by simpa using hvalid⟩

/-- The holds of other signals stay. -/
theorem ComesToStand.others (k : ComesToStand s x v u n side e) (hk : s.HoldsKept) (hh : s.hold? n = some h) {m : Nat}
    (hm : m ≠ n) (hu : s.unraised m) : u.hold? m = s.hold? m := by
  have hx := State.hold?_of_outside k.frame (by decide) m
  rw [k.hold? (.inr hu), ← hx]
  have hheld := k.held hh
  cases hside : side with
  | normal =>
    rw [k.normal hside]
    by_cases ha : h.state = .active
    · rw [State.signalStandsNormal_active hheld ha, State.testRelease_other hm]
      exact State.putHold_other (h := h.bound) (show m ≠ h.signal from State.hold?_signal hh ▸ hm) x
    · rw [State.signalStandsNormal_bound hheld ha, State.testRelease_other hm]
  | reverse =>
    by_cases he : e = .leverArrived
    · obtain ⟨⟨d, hd⟩, hi⟩ := k.defined hk hh
      rw [k.arrives hside he, State.hold?_of_outside (State.consumeRelease_outside n _) (by decide),
        State.reactivated_hold? hd hi hheld, if_neg hm]
    · rw [k.reverse hside he, State.signalStandsReverse_hold? hheld, if_neg hm]

/-- The notice of a hold that is bound comes behind that of the lever, and carries the state it is bound to (R56). -/
theorem ComesToStand.boundFirst (k : ComesToStand s x v u n .normal e) (hh : s.hold? n = some h) (ha : h.state = .active) :
    [⟨e, n, []⟩, ⟨.holdBound, n, b1 h.boundState.ord⟩] <+: v.emitted := by
  have hbinding : (x.binding n h).emitted = [⟨e, n, []⟩, ⟨.holdBound, n, b1 h.boundState.ord⟩] :=
    congrArg (· ++ [(⟨.holdBound, n, b1 h.boundState.ord⟩ : Draft)]) k.emitted
  rw [k.normal rfl, State.signalStandsNormal_active (k.held hh) ha, ← hbinding]
  exact (State.Appends.refl _).testRelease n

theorem ComesToStand.bound_notice (k : ComesToStand s x v u n .normal e) (hh : s.hold? n = some h) (ha : h.state = .active)
    (hm : s.control.mode ≠ .start) (hs : s.sends .hold = true) (hroom : s.link.outbox.length + 2 ≤ 32) :
    ∃ d ∈ u.link.outbox, d.event = .holdBound ∧ d.object = n ∧
      d.fields.getLast? = some (if h.irregular then 2 else 1) := by
  have hsettled := (k.made.mono (ps := [.now, .inputs, .levers, .holds, .sections, .choices, .emitted]) (by simp)).trans
    ((State.settle_outside v).mono (by simp))
  have hfirst := State.prefix_emitted_settle (by simp [k.event]) (k.boundFirst hh ha)
  have hout : v.settle.link.outbox = s.link.outbox := (hsettled .outbox (by decide)).1
  rw [k.ends]
  refine ⟨_, State.mem_close_outbox (l := [⟨e, n, []⟩]) ((hsettled.mode_eq (by decide)).symm ▸ hm) hfirst
    ((hsettled.sends_eq (by decide) (by decide) _).trans hs) (by rw [hout]; exact hroom), rfl, rfl, ?_⟩
  have hfields (w : State) : (w.noticeOf ⟨.holdBound, n, b1 h.boundState.ord⟩).fields =
      bOpt Hold.noticeBytes (w.hold? n) ++ b1 h.boundState.ord := rfl
  rw [hfields, b1, List.getLast?_concat, Hold.boundState]
  cases h.irregular <;> rfl

/-- A signal that arrives at REVERSE reactivates its hold (R51). -/
theorem ComesToStand.reactivates (k : ComesToStand s x v u n .reverse .leverArrived) (hk : s.HoldsKept)
    (hm : s.control.mode ≠ .start) (hh : s.hold? n = some h) : u.hold? n = some h.reactivated ∧
      s.announcesFirst u ((.leverArrived, n) :: (if h.releasing then [(.holdCancelled, n)] else []) ++
        [(.holdReactivated, n)]) := by
  obtain ⟨⟨d, hd⟩, hi⟩ := k.defined hk hh
  refine ⟨?_, k.announcesFirst hm (by cases h.releasing <;> simp) ?_⟩
  · rw [k.hold? (.inl rfl), k.arrives rfl rfl, State.hold?_of_outside (State.consumeRelease_outside n _) (by decide),
      State.reactivated_hold? hd hi (k.held hh), if_pos rfl]
  · have hdrafts := State.reactivated_drafts hd hi (k.held hh)
    rw [k.drafts] at hdrafts
    rw [k.arrives rfl rfl]
    exact hdrafts ▸ ((State.Appends.refl _).consumeRelease n).drafts

end Stand

/-- Settles O37: by the side, the state of the hold and the notice that the lever's new standing has. -/
theorem signalsBindAndReactivateHolds : Obligations.SignalsBindAndReactivateHolds := by
  intro s tm n side h c hs hk hn hseats hp hh
  obtain ⟨x, v, u, hexec, k⟩ := State.seats_comesToStand hs hn hseats hp
  refine ⟨u, hexec, fun m hm hu => k.others hk hh hm hu, fun hside => ?_, fun hside => ?_⟩
  · subst hside
    have hread := k.hold? (.inl rfl)
    have hheld := k.held hh
    rw [k.normal rfl] at hread
    rw [hread]
    refine ⟨fun ha => ?_, fun ha => ?_⟩
    · obtain ⟨hirregular, hgoes, hstays⟩ := State.bound_hold? hheld ha k.stands
      rw [k.releasable] at hgoes hstays
      refine ⟨hirregular, hgoes, hstays, fun ht ho => ?_, k.bound_notice hh ha hs.2⟩
      rw [if_pos ht, ho] at k
      exact k.announcesFirst hs.2 (by simp) ((k.boundFirst hh ha).map Draft.key)
    · rw [State.signalStandsNormal_bound hheld ha, ← k.releasable]
      exact State.testRelease_normal hheld k.stands
  · subst hside
    refine ⟨fun ht ho => ?_, fun hno => ?_⟩
    · rw [if_pos ht, ho] at k
      obtain ⟨hread, hfirst⟩ := k.reactivates hk hs.2 hh
      exact ⟨hread, fun hr => by simpa [hr] using hfirst, fun hr => by simpa [hr] using hfirst⟩
    · have hevent : (if (s.lever n).phase = .travel then travelOutcome (s.lever n).origin (seatOf .reverse) else .leverFound)
          ≠ .leverArrived := by
        split
        · next ht =>
          have horigin := hno.resolve_left (by rw [ht]; decide)
          cases ho : (s.lever n).origin
          case normal => exact absurd ho horigin
          all_goals decide
        · decide
      rw [k.hold? (.inl rfl), k.reverse rfl hevent, State.signalStandsReverse_hold? (k.held hh), if_pos rfl]

end Sys2Proof.Machine
